-- ==== Sys2Proof/Word.lean ====
section
/-! DEFINITION. The widths the dictionary carries (R47) and their plainest arithmetic: bytes, wrapping counters,
two's complement and the little-endian split of a value into bytes. -/
namespace Sys2Proof

/-- One byte on an interface. -/
abbrev Byte := BitVec 8
/-- A 32-bit word carried on an interface. -/
abbrev Word := BitVec 32

end Sys2Proof
end

