-- ==== Sys2Proof/Syntax.lean ====
section
/-! DEFINITION. The commands of the module as the opcode table lists its steps: one constructor per row, in the table's order,
with the operands the rules name. Commands come from outside (a write, a frame, an edge) or mark a moment the rules set
(a tick, a timeout, the end of a step). Bit vectors hold what is carried as bits; F32 operands are binary32 words. -/
namespace Sys2Proof

/-- The interfaces of R57. -/
inductive Iface where
  | fw | mb (n : Fin 4) | eth (n : Fin 2)
  deriving DecidableEq, Repr

/-- Who sends a write or a read: interface, bus node or IPv4 address, TID or UDP port (R459). -/
structure Sender where
  iface : Iface
  src : BitVec 32
  port : BitVec 16
  deriving DecidableEq, Repr

/-- Where a Worust message comes from: a node of a bus channel, or an address and port by an Ethernet port (R331, R340). -/
inductive Via where
  | bus (n : Fin 4) (node : BitVec 7) | udp (e : Fin 2) (addr : BitVec 32) (port : BitVec 16)
  deriving DecidableEq, Repr

/-- The sender of a Worust message, its transaction identifier, and on the bus its priority and whether its frames are FD frames. -/
structure Request where
  via : Via
  tid : BitVec 16
  prio : BitVec 3
  fd : Bool
  deriving DecidableEq, Repr

/-- A UDP datagram as it comes through a port: its bytes, the address and port it is for, whether the frame that carried it passed its
CRC and alignment checks (R350), and that frame's source MAC address (R348). -/
structure Datagram where
  bytes : List Byte
  toAddr : BitVec 32
  toPort : BitVec 16
  sound : Bool
  mac : BitVec 48
  deriving DecidableEq, Repr

/-- A figure the field die reads back at a tick boundary (R357, R370, R379, R383, R395, R427); for a junction that the shutdown comparator
watches, a temperature it has not fallen below for the last `held` µs, as the comparator measures it (R415, R416). -/
inductive Measure where
  | ioCurrent (i : Fin 32) (amps : Word)
  | groupVolts (g : Fin 4) (volts : Word)
  | txCurrent (a : Fin 16) (amps : Word) (limit : Bool)
  | aoReadback (o : Fin 8) (amps headroom : Word) (saturated : Bool)
  | fanCurrent (f : Fin 8) (amps : Word)
  | supplyVolts (k : Fin 4) (volts : Word)
  | msVolts (rms : Word)
  | supplyCurrent (amps : Word)
  | junction (die : Fin 2) (celsius : Word) (held : Nat)
  deriving DecidableEq, Repr

/-- One thermal sensor reading (R409): the figure, and whether the oscillator count was 0 or saturated. -/
structure TsRead where
  celsius : Word
  stuck : Bool
  deriving DecidableEq, Repr

/-- Which line of a grain clock holds a new level for FilterTime, or that both changed within one FilterTime (R86, R87). -/
inductive GcLine where
  | a | b | both
  deriving DecidableEq, Repr

/-- When a grain clock line changed, in µs and ns after the tick boundary (R86). -/
structure EdgeMoment where
  off : Fin 10
  ns : Fin 1000
  deriving DecidableEq, Repr

/-- A choice on bus channel `n` (R310): made `off` µs after the tick boundary; a frame chosen then has its start-of-frame `sof` µs later, or
earlier where negative (R310, R311). -/
structure TxMoment where
  n : Fin 4
  off : Fin 10
  sof : Int
  deriving DecidableEq, Repr

/-- A new level of a pin's comparator: the µs it is held for, and the µs after the tick boundary at which it has been (R360). -/
structure LevelChange where
  held : Nat
  off : Fin 10
  deriving DecidableEq, Repr

/-- Which object of a schedule entry a write addresses (R111). -/
inductive EntryWrite where
  | enable (on : Bool) | target (v : BitVec 64)
  deriving DecidableEq, Repr

/-- A signal condition of a current-loop input (R380). -/
inductive AiCond where
  | neLow | neHigh | wireBreak | overRange
  deriving DecidableEq, Repr

/-- A converter and the result of its completed window (R377, R390, R391): amperes or volts; ohms of the element and of one lead,
and whether the sense line of each end is open (R503). -/
inductive Conversion where
  | ai (a : Fin 16) (reading : Word)
  | rt (t : Fin 8) (ohms lead : Word) (openA openB : Bool)
  deriving DecidableEq, Repr

/-- S21 and S11 of one plan frequency as the receiver integrated them, before the correction of R191 (R187). -/
structure SweepPoint where
  s21re : Word
  s21im : Word
  s11re : Word
  s11im : Word
  deriving DecidableEq, Repr

/-- What the front end reports of a slot (R202): its synthesiser out of lock, or its receiver overloaded. -/
structure SlotFaults where
  unlocked : Bool
  overload : Bool
  deriving DecidableEq, Repr

/-- A frame on the bus (R317): ID, format flags, DLC as carried, and the data bytes. -/
structure CanFrame where
  ide : Bool
  rtr : Bool
  fdf : Bool
  brs : Bool
  esi : Bool
  id : Nat
  dlc : Nat
  data : List Byte
  deriving DecidableEq, Repr


/-- Where an error is detected (R321): within a frame, or by a node that sends an error or overload flag, as the sender of the frame before
it or as a receiver. -/
inductive ErrorSite where
  | frame | flag (sender : Bool)
  deriving DecidableEq, Repr

/-- The place of an error: whether in the data phase of an FD frame, and where it is detected (R321). -/
structure ErrorPlace where
  data : Bool
  site : ErrorSite
  deriving DecidableEq, Repr

/-- A lockstep pair (R483). -/
inductive Pair where
  | app | mgmt
  deriving DecidableEq, Repr

/-- The content an uncorrectable memory error falls in (R484–R486): a loop's context or bank, a schedule entry, a channel entry, a
parcel record, a bin layer counted from the bottom, ledger accounts by subindex − 1, a pair's run image, an archive record, a
pair's core memory, a slot of the checkpoint area counted from the oldest. -/
inductive MemContent where
  | loopContext (n : Fin 512) | regionBank (n : Fin 512) | schedEntry (e : Fin 1024) | channel (n : Fin 4096)
  | parcel (e : Fin 16384) | layer (b : Fin 64) (i : Fin 64) | accounts (l : List (Fin 13)) | runImage (p : Pair)
  | archive (seq : Nat) | coreMemory (p : Pair) | checkpoint (slot : Fin 16)
  deriving DecidableEq, Repr

/-- A fault beyond masking (R487). -/
inductive InternalKind where
  | noLoopEngine | noParcelEngine | link | recordLost | restartOverrun (p : Pair)
  deriving DecidableEq, Repr


/-- The commands, one per row of the opcode table. -/
inductive Instr where
  /-- TICK_BOUNDARY (R83). At each 10 µs base tick boundary the scheduler evaluates all schedule entries and dispatches fired
  actions, and field link frames start. -/
  | tickBoundary (downOk : Bool) (meas : List Measure)
  /-- UPSTREAM_FRAME_COMPLETE (R24). An upstream field link frame completes and its latched field values are written into the
  channel table cache with their timestamps. -/
  | upstreamFrameComplete (crcOk : Bool)
  /-- CHANNEL_FETCH (R36). A channel missing from the cache is fetched from DRAM and the delayed sample continues. -/
  | channelFetch (c : Fin 4096)
  /-- SRAM_SCRUB (R35). The management plane scrubs SRAM words so that every word is scrubbed at least every 10 s. -/
  | sramScrub (sram : Nat) (dram : Nat) (nand : Nat)
  /-- OBJECT_WRITE (R53). A write to an object without behaviour of its own is checked and applied whole or aborted, and
  journaled. -/
  | objectWrite (x : Sender) (idx : BitVec 16) (sub : Byte) (type : Byte) (data : List Byte)
  /-- SEGOPEN (R61). A segmented or bulk transfer is opened with its stated length and checked before any segment is accepted.
  -/
  | segopen (q : Request) (idx : BitVec 16) (sub : Byte) (type : Byte) (write : Bool) (length : BitVec 32)
  /-- SEGMENT (R62). A segment of a segmented transfer is taken into the transfer buffer in sequence. -/
  | segment (q : Request) (seq : BitVec 7) (last : Bool) (data : List Byte)
  /-- SEGEND (R62). The end of a segmented write carries the CRC-32, and the object is changed as one write if the length and
  CRC check pass. -/
  | segend (q : Request) (crc : BitVec 32)
  /-- SEGMENT_TIMEOUT (R62). A gap of more than 1,000 ms between segments aborts the transfer with 0x0002_0006. -/
  | segmentTimeout (q : Request)
  /-- INDEX_SNAPSHOT_READ (R339). A segmented read of subindex 0xFF copies every assigned subindex of one index at one
  instant. -/
  | indexSnapshotRead (q : Request) (idx : BitVec 16)
  /-- ENTER_PREOP (R76). StateCommand 1 moves the module from OPERATE or SAFE to PREOP, with outputs at power-up values. -/
  | enterPreop (x : Sender)
  /-- ENTER_OPERATE (R77). StateCommand 2 starts the constraint check of entry to OPERATE. -/
  | enterOperate (x : Sender)
  /-- CONSISTENCY_CHECK_END (R77). The constraint check ends and OPERATE is entered at the next tick boundary, or the attempt
  fails or is ended by a trip cause. -/
  | consistencyCheckEnd
  /-- ENTER_SAFE (R76). StateCommand 3 moves the module from PREOP or OPERATE to SAFE. -/
  | enterSafe (x : Sender)
  /-- RESTART (R438). StateCommand 4 is answered, a checkpoint and the journal staging are written, and the module resets with
  cause 2. -/
  | restart (x : Sender)
  /-- ACKNOWLEDGE (R74). StateCommand 5 clears the SafeCause bits whose causes are gone. -/
  | acknowledge (x : Sender)
  /-- FIELD_OUTPUT_VALUE_WRITE (R67). A write of the Value of a field output channel is accepted in OPERATE only when nothing
  else drives it and is carried to the field die. -/
  | fieldOutputValueWrite (x : Sender) (c : Fin 4096) (value : Word)
  /-- OPERATOR_VALUE_WRITE (R68). A write of an operator-value channel is written by the control plane and sets VALID. -/
  | operatorValueWrite (x : Sender) (c : Fin 4096) (value : Word)
  /-- GC_EDGE (R86). An edge on grain clock line A or B that holds for FilterTime is accepted and counted under the CountMode.
  -/
  | gcEdge (k : Fin 8) (line : GcLine) (held : Nat) (moment : EdgeMoment)
  /-- GC_RATE_UPDATE (R89). Every 10 ms the grain clock Rate and the OVERSPEED test are updated. -/
  | gcRateUpdate (k : Fin 8)
  /-- GC_STALL (R89). No edge for StallTime sets STOPPED, zeroes Rate and raises event 224+k with cause 2. -/
  | gcStall (k : Fin 8)
  /-- GC_SIGNAL_LOSS (R91). The grain clock receiver reports signal loss, SIGLOSS sets and event 224+k is raised with cause 3.
  -/
  | gcSignalLoss (k : Fin 8)
  /-- MP_CROSSING (R93). A positive-going zero crossing of MS is taken by the mains-phase tracker. -/
  | mpCrossing (off : Fin 10)
  /-- MP_MISS (R94). No valid crossing within 1.5 periods declares a miss and the flywheel starts. -/
  | mpMiss
  /-- MP_LOST (R95). The flywheel time ends without a valid crossing, LOST sets, Position stops, burst outputs go off and
  event 232 is raised. -/
  | mpLost
  /-- WC_SLEW_STEP (R99). Every 2,000 µs one single-µs slew step of the offset is applied to WC. -/
  | wcSlewStep
  /-- WC_RATE_STEP (R99). While no slew runs, one single-µs step is applied every round(1/|c|) µs for RateCorrection. -/
  | wcRateStep
  /-- WC_TIME_WRITE (R100). A write of 0x5420:01 Time in PREOP steps WC to the value written. -/
  | wcTimeWrite (x : Sender) (time : BitVec 64)
  /-- SYNC_LOSS (R102). No time message for SyncLossTime clears LOCKED and raises event 234. -/
  | syncLoss
  /-- ENTRY_ENABLE_WRITE (R111). A write of Enable or Target of a schedule entry arms it at the next tick, firing or advancing
  a reached target. -/
  | entryEnableWrite (x : Sender) (e : Fin 1024) (w : EntryWrite)
  /-- EVENT_RECORD_READ (R117). Module firmware reads an event record and its credit returns. -/
  | eventRecordRead
  /-- PATH_ENABLE (R130). A write of path Enable allocates or frees the path's advance and create schedule entries. -/
  | pathEnable (x : Sender) (p : Fin 16) (on : Bool)
  /-- PURGE (R146). The Purge command completes every parcel of the path into the adjust-out accounts and raises event 45. -/
  | purge (x : Sender) (p : Fin 16)
  /-- ADJUST_ADD (R147). AdjustCommand 1 adds a top layer from the operands into the adjust-in accounts. -/
  | adjustAdd (x : Sender) (b : Fin 64)
  /-- ADJUST_REMOVE (R147). AdjustCommand 2 removes AdjustDry grams from the bottom layers into the adjust-out accounts. -/
  | adjustRemove (x : Sender) (b : Fin 64)
  /-- ADJUST_EMPTY (R147). AdjustCommand 3 removes every layer of the bin into the adjust-out accounts. -/
  | adjustEmpty (x : Sender) (b : Fin 64)
  /-- LEDGER_RESET (R145). LedgerReset sets every ledger, path and bin account to 0 when no grain is held. -/
  | ledgerReset (x : Sender)
  /-- ARCHIVE_PAGE_WRITE (R149). Archive records are copied to NAND in pages of 64, a partial page at the latest 10 s after
  its first record. -/
  | archivePageWrite
  /-- CHECKPOINT_PERIODIC (R152). At each Period the parcel engines pause and the checkpoint content is copied to DRAM for
  background writing. -/
  | checkpointPeriodic
  /-- CHECKPOINT_VALID (R152). The checkpoint header is written, the checkpoint becomes valid and Sequence, LastTime and
  LastDuration change. -/
  | checkpointValid
  /-- MODEL_STEP_TIMED (R158). In timed mode a model step of the path starts at each StepPeriod, or is skipped if the previous
  one still runs. -/
  | modelStepTimed (p : Fin 16)
  /-- MODEL_STEP_FALLBACK (R158). In displacement mode 10 s without a step starts one at the next tick boundary. -/
  | modelStepFallback (p : Fin 16)
  /-- MODEL_STEP_END (R178). A model step completes and the predicted values and channels of the path are published. -/
  | modelStepEnd (p : Fin 16)
  /-- DIELECTRIC_CYCLE (R187). A dielectric measurement cycle starts, Td is taken and the trim corrections are programmed. -/
  | dielectricCycle
  /-- DIELECTRIC_SLOT (R187). A cell's 50 ms slot starts and its frequency sweep runs. -/
  | dielectricSlot (c : Fin 4)
  /-- DIELECTRIC_READING (R197). The sweep ends and the reading is computed, checked for faults, tagged to a parcel and
  published. -/
  | dielectricReading (c : Fin 4) (sweep : List SweepPoint) (front : SlotFaults) (engine : Bool)
  /-- CAL_CAPTURE_EMPTY (R193). CalCommand 1 captures the empty-cell record over 16 sweeps. -/
  | calCaptureEmpty (x : Sender) (c : Fin 4)
  /-- CAL_CAPTURE_REFERENCE (R193). CalCommand 2 captures the reference insert and solves L_eff. -/
  | calCaptureReference (x : Sender) (c : Fin 4)
  /-- CAL_CAPTURE_DONE (R194). A 16-sweep capture completes and CalStatus moves to its result. -/
  | calCaptureDone (c : Fin 4)
  /-- CAL_ACCEPT (R193). CalCommand 3 replaces CalData with the pending record. -/
  | calAccept (x : Sender) (c : Fin 4)
  /-- CAL_DISCARD (R193). CalCommand 4 drops the pending calibration record. -/
  | calDiscard (x : Sender) (c : Fin 4)
  /-- CALDATA_WRITE (R192). A write of CalData is checked against its CHECK and replaces the calibration. -/
  | caldataWrite (x : Sender) (c : Fin 4) (data : List Byte)
  /-- SAMPLE_PULL (R213). An engine with a free slot pulls a queued loop sample and reads its context and channels. -/
  | samplePull (e : Fin 18) (off : Fin 10)
  /-- SAMPLE_COMMIT (R214). A loop sample completes and writes its context, output channel and internal channels as one
  update. -/
  | sampleCommit (n : Fin 512) (serviceNs : Nat) (missNs : Nat) (off : Fin 10)
  /-- LOOP_ACTIVATE (R209). A write of Active 1 takes a context and, in OPERATE, checks and starts the loop. -/
  | loopActivate (x : Sender) (n : Fin 512)
  /-- LOOP_DEACTIVATE (R209). A write of Active 0 returns the context after any sample in service commits. -/
  | loopDeactivate (x : Sender) (n : Fin 512)
  /-- COEFF_APPLY (R223). CoeffApply marks the shadow set for loading into region 0 at the next sample. -/
  | coeffApply (x : Sender) (n : Fin 512)
  /-- REGION_APPLY (R243). RegionApply marks regions 1–7 for loading at the next sample. -/
  | regionApply (x : Sender) (n : Fin 512) (value : Byte)
  /-- INJECTION_START (R260). Injection command 1 checks and starts a test with a capture buffer. -/
  | injectionStart (x : Sender) (d : Fin 32)
  /-- INJECTION_END (R260). Injection command 2 ends a running test with cause 2. -/
  | injectionEnd (x : Sender) (d : Fin 32)
  /-- INJECTION_RELEASE (R260). Injection command 3 releases the definition's capture buffer. -/
  | injectionRelease (x : Sender) (d : Fin 32)
  /-- TRACE_ENABLE (R265). A write of trace Enable 1 empties the ring and starts recording. -/
  | traceEnable (x : Sender) (t : Fin 8)
  /-- TRACE_REARM (R266). Trace command 1 empties a triggered or frozen ring and resumes recording. -/
  | traceRearm (x : Sender) (t : Fin 8)
  /-- TRACE_TRIGGER_NOW (R266). Trace command 2 triggers the slot while recording. -/
  | traceTriggerNow (x : Sender) (t : Fin 8)
  /-- LOOP_LOAD_CHECK (R269). Once per second the loop load is evaluated and event 18 raised if above 1.0. -/
  | loopLoadCheck
  /-- LOOP_ENGINE_FAILURE (R481). A loop engine fails a residue, parity or timeout check, its samples are released again and a
  reserve is taken in. -/
  | loopEngineFailure (e : Fin 18)
  /-- SEQUENCING_ROUND (R271). A sequencing round evaluates chains, dryers and aeration and issues requests to the control
  plane. -/
  | sequencingRound (took : Nat)
  /-- CHAIN_START (R279). Chain command 1 starts the conveyors in reverse flow order. -/
  | chainStart (x : Sender) (k : Fin 8)
  /-- CHAIN_STOP (R280). Chain command 2 stops the conveyors in flow order with purge times. -/
  | chainStop (x : Sender) (k : Fin 8)
  /-- CHAIN_RESET (R281). Chain command 3 clears conveyor faults and returns the chain to STOPPED. -/
  | chainReset (x : Sender) (k : Fin 8)
  /-- DRYER_START (R285). Dryer command 1 moves the dryer from IDLE to FILL. -/
  | dryerStart (x : Sender) (d : Fin 4)
  /-- DRYER_STOP (R285). Dryer command 2 stops the dryer directly or through COOL. -/
  | dryerStop (x : Sender) (d : Fin 4)
  /-- DRYER_EMPTY (R285). Dryer command 3 leads the dryer to UNLOAD, through COOL where heating. -/
  | dryerEmpty (x : Sender) (d : Fin 4)
  /-- DRYER_RESET (R285). Dryer command 4 returns a faulted dryer with no present cause to IDLE. -/
  | dryerReset (x : Sender) (d : Fin 4)
  /-- AERATION_EVALUATE (R292). Every 10 s the plenum air and window conditions of each aerated bin are evaluated and fans
  switched. -/
  | aerationEvaluate
  /-- AERATION_MODE_WRITE (R294). A write of aeration Mode acts at the next round, switching the fan or restarting the dwell
  counts. -/
  | aerationModeWrite (x : Sender) (b : Fin 64) (mode : Byte)
  /-- AERATION_RESET (R295). Aeration command 1 clears a latched fan fault. -/
  | aerationReset (x : Sender) (b : Fin 64)
  /-- BUS_ENABLE (R300). A write of bus Enable 1 checks the bit timing and starts the controller integrating. -/
  | busEnable (x : Sender) (n : Fin 4)
  /-- BUS_DISABLE (R300). A write of bus Enable 0 stops the controller, cancels its buffers and empties its queue. -/
  | busDisable (x : Sender) (n : Fin 4)
  /-- INTEGRATION_DONE (R300). After 11 consecutive recessive bits the controller takes part on the bus. -/
  | integrationDone (n : Fin 4)
  /-- BUS_MODE_APPLY (R299). A written OperatingMode is applied at the next bus idle. -/
  | busModeApply (n : Fin 4)
  /-- TX_CHOICE (R310). At bus idle or the third intermission bit the controller chooses the next pending buffer to send. -/
  | txChoice (n : TxMoment)
  /-- FRAME_SENT (R311). A transmitted frame completes without error and its buffer reads SENT. -/
  | frameSent (n : Fin 4) (tdc : Nat)
  /-- ARBITRATION_LOST (R310). A transmitted frame loses arbitration and stays PENDING. -/
  | arbitrationLost (n : Fin 4)
  /-- BUS_ERROR (R321). An error is detected on the bus, an error frame is sent and the error counters and state change. -/
  | busError (n : Fin 4) (lec : Fin 8) (place : ErrorPlace) (exempt : Bool) (primary : Bool) (eights : Nat) (tdc : Nat)
  /-- PROTOCOL_EXCEPTION (R298). A recessive res or unsupported FDF bit makes the controller pass the frame over and
  reintegrate. -/
  | protocolException (n : Fin 4)
  /-- FRAME_RECEIVED (R314). A received frame becomes valid, is filtered and stored in the queue or high-priority buffer, or
  lost. -/
  | frameReceived (n : Fin 4) (frame : CanFrame) (age : Nat) (off : Fin 10)
  /-- QUEUE_RELEASE (R315). Firmware reads and releases a receive queue or high-priority entry, passing it to Worust or the
  raw ring. -/
  | queueRelease (n : Fin 4)
  /-- RAW_TX_FRAME (R324). A write of RawTxFrame checks and loads buffer 2. -/
  | rawTxFrame (x : Sender) (n : Fin 4) (data : List Byte)
  /-- RAW_TX_CANCEL (R312). A write of RawTxCancel requests cancellation of buffer 2. -/
  | rawTxCancel (x : Sender) (n : Fin 4)
  /-- RECOVERY_COMMAND (R323). A write of RecoveryCommand in bus-off requests recovery. -/
  | recoveryCommand (x : Sender) (n : Fin 4)
  /-- RECOVERY_DELAY (R323). RecoveryDelay after bus-off firmware requests recovery in RecoveryMode 1. -/
  | recoveryDelay (n : Fin 4)
  /-- RECOVERY_COMPLETE (R323). The 128th sequence of 11 recessive bits clears the counters and the controller becomes error
  active. -/
  | recoveryComplete (n : TxMoment)
  /-- WORUST_READ (R336). A READ request is served with a RESPONSE carrying the value or an ABORT. -/
  | worustRead (q : Request) (idx : BitVec 16) (sub : Byte)
  /-- WORUST_WRITE (R336). A WRITE request enters the store and is answered with RESPONSE or ABORT. -/
  | worustWrite (q : Request) (idx : BitVec 16) (sub : Byte) (type : Byte) (data : List Byte)
  /-- WORUST_ABORT (R338). An ABORT frame from either side closes a segmented transfer. -/
  | worustAbort (q : Request) (code : BitVec 32)
  /-- SEGMENT_ACK (R338). A RESPONSE acknowledging segments lets the data sender continue. -/
  | segmentAck (q : Request) (next : BitVec 7)
  /-- CONT_TIMEOUT (R333). A first frame whose CONT has not arrived within 100 ms is discarded. -/
  | contTimeout (n : Fin 4)
  /-- UDP_DATAGRAM (R340). A Worust UDP datagram is received and checked before its message is served. -/
  | udpDatagram (e : Fin 2) (addr : BitVec 32) (port : BitVec 16) (data : Datagram)
  /-- POINT_RECEIVED (R342). A POINT frame writes the bound bus node point channels. -/
  | pointReceived (n : Fin 4) (node : BitVec 7) (point : BitVec 16) (value : Word) (flags : Byte) (age : Nat)
  /-- POINT_TIMEOUT (R342). No report for PointTimeout clears VALID and raises event 199. -/
  | pointTimeout (n : Fin 4) (point : BitVec 16)
  /-- PUBLICATION_PERIOD (R343). At each Period a publication sends its channel as a POINT message. -/
  | publicationPeriod (q : Fin 32)
  /-- PUBLICATION_DELTA_CHECK (R343). Every 10 ms a publication sends when its Value has changed by at least Delta. -/
  | publicationDeltaCheck (q : Fin 32)
  /-- SYNC_INTERVAL (R345). As time master the module loads a sync frame into buffer 0 at every SyncInterval. -/
  | syncInterval (n : Fin 4)
  /-- TIME_SYNC (R345). A sync frame is received on the bus sync channel and held for pairing. -/
  | timeSync (n : Fin 4) (seq : Byte) (age : Nat) (off : Fin 10)
  /-- TIME_FOLLOW_UP (R345). A follow-up paired with its sync gives a time measurement. -/
  | timeFollowUp (n : Fin 4) (seq : Byte) (master : BitVec 64)
  /-- TIME_POLL (R346). At every PollInterval a time request is sent to the Ethernet time server. -/
  | timePoll
  /-- TIME_REPLY (R346). A time server reply gives offset and delay, or is discarded. -/
  | timeReply (tid : BitVec 16) (t2 : BitVec 64) (t3 : BitVec 64) (off : Fin 10)
  /-- LINK_CHANGE (R350). An Ethernet port's LinkStatus changes and event 192+e is raised. -/
  | linkChange (e : Fin 2) (status : Fin 6)
  /-- DHCP_LEASE_LAPSE (R349). A DHCP lease lapses without renewal, UP clears and event 195 is raised. -/
  | dhcpLeaseLapse
  /-- DHCP_RETRY (R349). The DHCP client retries every 10 s after a lapse. -/
  | dhcpRetry
  /-- ADDRESS_CONFLICT (R349). An ARP claiming the module's address sets CONFLICT and raises event 196. -/
  | addressConflict (sender : BitVec 32)
  /-- BROADCAST_STORM (R348). Broadcasts beyond 10,000 per second are dropped and event 203 raised at most once per second. -/
  | broadcastStorm (e : Fin 2) (dropped : Nat)
  /-- WAKE_PATTERN (R352). A transceiver in sleep detects the wake-up pattern and wakes the module. -/
  | wakePattern (n : Fin 4)
  /-- WAKE_FRAME (R352). A transceiver in sleep decodes a matching wake-up frame and wakes the module. -/
  | wakeFrame (n : Fin 4) (frame : CanFrame)
  /-- WAKE_FRAME_ERRORS (R352). The frame error counter reaches 32 and the transceiver wakes with cause 3. -/
  | wakeFrameErrors (n : Fin 4)
  /-- PIN_EDGE (R360). A digital input's filtered level changes, PulseCount counts and edge events are raised. -/
  | pinEdge (i : Fin 32) (change : LevelChange)
  /-- PULSE_RATE_UPDATE (R361). Every 10 ms the pin PulseRate is recomputed. -/
  | pulseRateUpdate (i : Fin 32)
  /-- WIREBREAK_SET (R362). Input current below threshold for 100 ms sets WIREBREAK. -/
  | wirebreakSet (i : Fin 32)
  /-- WIREBREAK_CLEAR (R362). Input current at or above threshold for 100 ms clears WIREBREAK. -/
  | wirebreakClear (i : Fin 32)
  /-- OUTPUT_OVERLOAD (R365). The current limit acting for 5 ms or a junction trip switches the output off with OVERLOAD. -/
  | outputOverload (i : Fin 32)
  /-- OVERLOAD_RETRY (R365). 100 ms after an overload switch-off a commanded output retries, latching after failed retries. -/
  | overloadRetry (i : Fin 32)
  /-- PIN_RESET (R365). PinReset clears LATCHED and OVERLOAD of a pin. -/
  | pinReset (x : Sender) (i : Fin 32)
  /-- OPEN_LOAD (R366). An on output below the open-load threshold for 100 ms sets OPENLOAD. -/
  | openLoad (i : Fin 32)
  /-- FIELD_SUPPLY_WARNING (R369). A field supply below 18.0 V for 10 ms sets WARNING on its groups. -/
  | fieldSupplyWarning (k : Fin 2)
  /-- FIELD_SUPPLY_TRIP (R369). A field supply below 15.0 V for 5 ticks sets TRIP, LATCHED and INVALID and switches outputs
  off. -/
  | fieldSupplyTrip (k : Fin 2)
  /-- FIELD_SUPPLY_RESTORE (R369). A field supply at or above 19.0 V for 100 ms clears WARNING, TRIP and INVALID. -/
  | fieldSupplyRestore (k : Fin 2)
  /-- GROUP_RESET (R369). GroupReset clears a group's LATCHED after TRIP has cleared. -/
  | groupReset (x : Sender) (g : Fin 4)
  /-- SILENCE_DECLARED (R371). No valid downstream frame for SilenceTime sets SilenceState 1 and outputs take their safe
  state. -/
  | silenceDeclared
  /-- SILENCE_ALL_OFF (R371). No valid frame for a further AllOffTime sets SilenceState 2 and all outputs go off. -/
  | silenceAllOff
  /-- SILENCE_END (R371). 100 consecutive valid downstream frames return SilenceState to 0. -/
  | silenceEnd
  /-- SAFE_COPY_CHECK (R372). Every 10 ms the field die checks the CRC of its local safe-state copy. -/
  | safeCopyCheck (upset : Bool)
  /-- CONVERSION_WINDOW (R377). An AI or RT converter completes an integration window and its result becomes the latched
  value. -/
  | conversionWindow (result : Conversion)
  /-- AI_FAULT_CONFIRM (R380). A current-loop input signal condition has held for FaultConfirm and its bit sets or clears. -/
  | aiFaultConfirm (a : Fin 16) (cond : AiCond)
  /-- AO_NOTACH (R386). A shortfall condition for 3 consecutive ticks sets or clears NOTACH of a current-loop output. -/
  | aoNotach (o : Fin 8)
  /-- AO_OPENLOOP (R386). Delivered below 0.2 mA for 100 ms with at least 1.0 mA asked sets OPENLOOP. -/
  | aoOpenloop (o : Fin 8)
  /-- AO_OVERTEMP (R386). The output stage reaches 150 °C and switches off. -/
  | aoOvertemp (o : Fin 8)
  /-- AO_OVERTEMP_RETRY (R386). 1 s after a thermal switch-off, once cooled below 130 °C, the stage retries. -/
  | aoOvertempRetry (o : Fin 8)
  /-- TRIM_DRIVE_LOW (R389). TrimCommand 1 drives 4.000 mA untrimmed. -/
  | trimDriveLow (x : Sender) (o : Fin 8)
  /-- TRIM_DRIVE_HIGH (R389). TrimCommand 2 drives 20.000 mA untrimmed. -/
  | trimDriveHigh (x : Sender) (o : Fin 8)
  /-- TRIM_APPLY (R389). TrimCommand 3 computes and writes TrimGain and TrimOffset. -/
  | trimApply (x : Sender) (o : Fin 8)
  /-- TRIM_CANCEL (R389). TrimCommand 4 ends trimming without writing. -/
  | trimCancel (x : Sender) (o : Fin 8)
  /-- TRIM_MEASURED_WRITE (R389). A write of TrimMeasured records the low or high measured current. -/
  | trimMeasuredWrite (x : Sender) (o : Fin 8) (value : Word)
  /-- FAN_SPEED_REGULATE (R399). Every 10 ms a speed-mode fan channel updates its voltage. -/
  | fanSpeedRegulate (f : Fin 8)
  /-- FAN_KICK_TIMEOUT (R401). A kick that has not proved within 2 s switches the channel off, latching FAULT after the third
  retry. -/
  | fanKickTimeout (f : Fin 8)
  /-- FAN_RETRY (R401). At 7 s, 14 s and 21 s after a start a new kick is applied. -/
  | fanRetry (f : Fin 8)
  /-- FAN_STALL (R402). A proven fan below ProveSpeed for 2 s has stalled and restarts its kicks. -/
  | fanStall (f : Fin 8)
  /-- FAN_OVERLOAD (R402). The current limit acting for 100 ms switches the channel off with OVERLOAD. -/
  | fanOverload (f : Fin 8)
  /-- FAN_OVERLOAD_RETRY (R402). 1 s after an overload the channel retries, latching FAULT at the third failed retry. -/
  | fanOverloadRetry (f : Fin 8)
  /-- FAN_RESET (R402). FanReset clears FAULT, OVERLOAD, TACHFAULT and the learned pair. -/
  | fanReset (x : Sender) (f : Fin 8)
  /-- FAN_LEARN (R403). Every 10 s of steady running a proven fan learns its voltage and current pair. -/
  | fanLearn (f : Fin 8)
  /-- TACH_LOSS (R404). No tachometer edge for 1.0 s applies V_L and starts the judgement. -/
  | tachLoss (f : Fin 8)
  /-- TACH_JUDGE (R404). At 1.5 s the mean current decides a tachometer fault or a stall. -/
  | tachJudge (f : Fin 8)
  /-- FAN_NOTACH_TIMEOUT (R405). Speed below 0.9 of target for 3 s at the voltage limit sets NOTACH. -/
  | fanNotachTimeout (f : Fin 8)
  /-- HOUSEKEEPING_ROUND (R407). Every 250 ms the thermal sensors are read, validated and T_max, thresholds and throttle
  timers evaluated. -/
  | housekeepingRound (reads : List TsRead) (base : Word)
  /-- FAST_SAMPLE (R408). With H5Mode near a threshold the sensors are read every 10 ms. -/
  | fastSample (reads : List TsRead)
  /-- GRACE_END (R413). GraceTime ends with ThermalState at 2 or above and the throttle level becomes 1. -/
  | graceEnd
  /-- LEVEL_INTERVAL (R413). Each LevelInterval the throttle level rises or falls by one. -/
  | levelInterval
  /-- SUBSTHOLD_TIMEOUT (R414). A sensor still failed 60 s after a hold raises the throttle level by one. -/
  | substholdTimeout
  /-- THERMAL_SHUTDOWN (R416). The shutdown comparator trips after 1 ms above threshold, asserts THSD#, forces outputs off and
  powers the module down into HALT. -/
  | thermalShutdown
  /-- HALT_CLEAR (R416). Both VM and VB below 3.0 V for 1 s clear the shutdown latch. -/
  | haltClear
  /-- VM_FAIL (R421). VM below 19.0 V for 100 µs fails VM and the source changes to VB or the hold-up store. -/
  | vmFail (programming : Bool)
  /-- VM_GOOD (R421). VM at or above 20.5 V for 500 ms sets VMGOOD and the source returns to VM. -/
  | vmGood
  /-- VB_LOST (R421). VB below 17.0 V for 100 µs clears VBAVAIL and changes the source from VB if needed. -/
  | vbLost (vmAbove : Bool) (programming : Bool)
  /-- VB_AVAILABLE (R420). VB at or above 18.0 V for 100 ms sets VBAVAIL. -/
  | vbAvailable
  /-- OVERVOLT (R420). A supply above 32.0 V for 10 ms sets OVERVOLT, or at or below 31.5 V for 100 ms clears it. -/
  | overvolt (k : Fin 2) (volts : Word)
  /-- HOLDUP_SUPPLY_RETURN (R424). A supply qualifies during hold-up, the warning is withdrawn and event 137 is raised. -/
  | holdupSupplyReturn (vm : Bool)
  /-- HOLDUP_END (R423). The store falls to 20.0 V, outputs go off and the module resets with cause 1. -/
  | holdupEnd
  /-- HOLDUP_TEST (R425). Every 24 h a partial discharge measures the store capacitance and decides HOLDUPFAULT. -/
  | holdupTest (farads : Word)
  /-- WINTER_COMMAND (R431). WinterCommand starts Winter entry when allowed. -/
  | winterCommand (x : Sender)
  /-- WINTER_BUFFER_WAIT_END (R351). At Winter entry the 100 ms wait for the bus buffers ends and the remaining buffers are
  cancelled. -/
  | winterBufferWaitEnd
  /-- WINTER_REACHED (R432). Winter entry completes and only the always-on domain stays powered. -/
  | winterReached
  /-- POWER_ON (R439). A supply qualifies for 10 ms after the module was unpowered, the straps are sampled and BOOT starts. -/
  | powerOn (vm : Bool) (vb : Bool) (t0 : List Nat) (t1 : List Nat) (key : List Nat)
  /-- RAIL_FAULT (R436). A module rail out of tolerance resets the module with cause 6. -/
  | railFault
  /-- BOOT_STEP (R440). A step of the boot sequence completes and the next begins. -/
  | bootStep (micros : Nat) (farads volts : Word)
  /-- END_OF_BOOT (R443). BOOT ends, PREOP and the season are entered, controllers start and AutoOperate may start the OPERATE
  check. -/
  | endOfBoot (micros : Nat)
  /-- CONFIG_COMMIT (R451). ConfigCommand 1 snapshots the working configuration and writes it to the inactive slot. -/
  | configCommit (x : Sender)
  /-- COMMIT_DONE (R451). The written copy is read back and checked and becomes active, or the commit fails. -/
  | commitDone (nandOk : Bool)
  /-- CONFIG_REVERT (R453). ConfigCommand 2 reloads every stored object from the active copy. -/
  | configRevert (x : Sender)
  /-- ENABLE_WRITE (R457). A write of a plane enable takes effect from the next write applied. -/
  | enableWrite (x : Sender) (plane : Fin 3) (value : Byte)
  /-- CFG_EN_SAMPLE (R514). Every 1 ms CFG_EN# is sampled and its 10 ms hold counted. -/
  | cfgEnSample (volts : Word)
  /-- JOURNAL_CHAIN (R460). The management cores take a staged record and chain it by SHA-256. -/
  | journalChain
  /-- JOURNAL_PAGE_WRITE (R462). Chained records are written to NAND in pages of 32, a partial page at the latest 1 s after
  its first record. -/
  | journalPageWrite
  /-- UPDATE_BEGIN (R472). UpdateCommand 1 erases the target image slot and starts receiving. -/
  | updateBegin (x : Sender)
  /-- UPDATE_BLOCK (R472). A write of UpdateBlock programs 65,536 B at UpdateOffset. -/
  | updateBlock (x : Sender) (data : List Byte)
  /-- UPDATE_VERIFY (R472). UpdateCommand 2 verifies the target image. -/
  | updateVerify (x : Sender)
  /-- UPDATE_ACTIVATE (R472). UpdateCommand 3 sets the target preferred on trial and resets with cause 5. -/
  | updateActivate (x : Sender)
  /-- UPDATE_ABANDON (R472). UpdateCommand 4 returns UpdateState to 0. -/
  | updateAbandon (x : Sender)
  /-- RECOVERY_IMAGE_START (R473). A recovery start operation erases slot A. -/
  | recoveryImageStart (addr : BitVec 32) (port : BitVec 16)
  /-- RECOVERY_IMAGE_DATA (R473). A recovery data operation writes bytes to slot A in sequence. -/
  | recoveryImageData (addr : BitVec 32) (port : BitVec 16) (offset : BitVec 32) (data : List Byte)
  /-- RECOVERY_IMAGE_END (R473). A recovery end operation verifies slot A and resets into it on trial. -/
  | recoveryImageEnd (addr : BitVec 32) (port : BitVec 16)
  /-- ERASE_ARM (R475). A write of EraseArm 0x5EC0 arms a secure erase for 10 s. -/
  | eraseArm (x : Sender) (value : BitVec 16)
  /-- ERASE_COMMAND (R475). EraseCommand replaces the media key, empties the stores and restarts the module. -/
  | eraseCommand (x : Sender) (value : Byte)
  /-- ERASE_BLANK (R475). The old blocks are erased and verified blank after BOOT and event 222 is raised. -/
  | eraseBlank
  /-- PARCEL_ENGINE_FAILURE (R482). A parcel engine fails a check and its uncommitted blocks return to the pool. -/
  | parcelEngineFailure
  /-- LOCKSTEP_MISMATCH (R483). A lockstep pair's cores disagree and the pair retries from its last checkpoint. -/
  | lockstepMismatch (p : Pair) (checkpointed : Bool)
  /-- PAIR_RESTART_DONE (R483). A pair restart completes and the pair resumes its work. -/
  | pairRestartDone (p : Pair)
  /-- UNCORRECTABLE_ERROR (R484). An uncorrectable memory error is handled by the content that holds it. -/
  | uncorrectableError (m : MemContent)
  /-- INTERNAL_FAULT (R487). A fault beyond masking sets FaultStatus and moves OPERATE to SAFE or resets with cause 4. -/
  | internalFault (kind : InternalKind)
  /-- COUNTER_SAVE (R493). Every 60 s the counters held in NAND are written. -/
  | counterSave
  /-- GC_SIGNAL_RETURN (R91). The grain clock receiver stops reporting signal loss, SIGLOSS clears and VALID returns. -/
  | gcSignalReturn (k : Fin 8)
  /-- QERR_EXPIRY (R91). One second after the last quadrature error the QERR status bit of the grain clock clears. -/
  | qerrExpiry (k : Fin 8)
  /-- TRANSCEIVER_FAULT (R327). A bus transceiver reports or withdraws a dominant timeout or supply undervoltage, TXDTIMEOUT
  or XCVRFAULT changes and event offset 9 is raised on setting. -/
  | transceiverFault (n : Fin 4) (undervoltage : Bool) (present : Bool)
  /-- DHCP_BOUND (R349). A DHCP server's offer or acknowledgement binds or renews a lease, the address is taken, DHCPBOUND and
  UP set, a gratuitous ARP is sent and event 194 is raised. -/
  | dhcpBound (addr : BitVec 32) (mask : BitVec 32) (seconds : BitVec 32)
  /-- TACH_EDGE (R398). A filtered rising tachometer edge arrives, Speed is recomputed and a kicking fan proves when Speed
  reaches ProveSpeed. -/
  | tachEdge (f : Fin 8) (off : Fin 10)
  /-- WAKE_FRAME_DECODED (R352). A sleeping transceiver in WakeMode 1 decodes a frame that does not wake, incrementing the
  frame error counter on a decoding error or decrementing it on a correct frame. -/
  | wakeFrameDecoded (n : Fin 4) (good : Bool)
  /-- ENC24_CURRENT_LIMIT (R506). An ENC24 pin, or the eight together, in current limit for 10 ms switches off. -/
  | enc24CurrentLimit (pin : Fin 8)
  /-- ENC24_RETRY (R506). Once every 1 s a switched-off ENC24 pin switches on again for 10 ms until the overload is gone. -/
  | enc24Retry (k : Fin 8)
  deriving DecidableEq, Repr

end Sys2Proof
end

