-- ==== Sys2Proof/Decode.lean ====
section
/-! DEFINITION. The decoder of the opcode table's words. The table gives none of its rows any bits: the module takes commands, not
words, and so no word spells a command. -/
namespace Sys2Proof

/-- A row of the table that gives bits: how many, its mask and pattern, and the command it spells. -/
structure WordRow where
  nbits : Nat
  mask : Nat
  pattern : Nat
  command : Instr
  deriving DecidableEq, Repr

/-- The rows that give bits: none. -/
def wordRows : List WordRow := []

/-- The command an instruction word spells by the table's bits. -/
def decodeTableWord (nbits w : Nat) : Option Instr :=
  (wordRows.find? (fun r => r.nbits == nbits && w &&& r.mask == r.pattern)).map (fun r => r.command)

end Sys2Proof
end

