-- ==== Sys2Proof/Machine/Num.lean ====
section
/-! DEFINITION. Integers as the objects carry them (R47): wrapping counters, saturating counts, two's complement,
bit fields written [high:low] (R8), and least-significant-byte-first byte strings. -/
namespace Sys2Proof.Machine

/-- A count of `w` bits that wraps to 0. -/
def wrap (w n : Nat) : Nat := n % 2 ^ w

/-- A count that stays at its largest value. -/
def sat (w n : Nat) : Nat := min n (2 ^ w - 1)

/-- The field [hi:lo] of `n` (R8). -/
def bits (n hi lo : Nat) : Nat := n / 2 ^ lo % 2 ^ (hi - lo + 1)

/-- Bit [k] of `n`. -/
def bit (n k : Nat) : Bool := n.testBit k

/-- `n` with bit [k] set to `b`. -/
def setBit (n k : Nat) (b : Bool) : Nat :=
  if bit n k == b then n else if b then n + 2 ^ k else n - 2 ^ k

/-- `n` with the field [hi:lo] replaced by `v`. -/
def setField (n hi lo v : Nat) : Nat :=
  n - bits n hi lo * 2 ^ lo + v % 2 ^ (hi - lo + 1) * 2 ^ lo

/-- The two's complement reading of a `w`-bit value. -/
def toSigned (w n : Nat) : Int :=
  if n < 2 ^ (w - 1) then (n : Int) else (n : Int) - (2 ^ w : Nat)

/-- The `w`-bit two's complement of an integer, wrapping. -/
def ofSigned (w : Nat) (z : Int) : Nat := (z % ((2 ^ w : Nat) : Int)).toNat

/-- The `w`-bit two's complement of an integer, saturating (R124: I32, saturating). -/
def satSigned (w : Nat) (z : Int) : Nat :=
  let hi : Int := ((2 ^ (w - 1) : Nat) : Int) - 1
  let lo : Int := -((2 ^ (w - 1) : Nat) : Int)
  ofSigned w (if z > hi then hi else if z < lo then lo else z)

/-- 0 or 1. -/
def ofBool (b : Bool) : Nat := if b then 1 else 0

/-- `n` bytes of a value, least significant first (R47). -/
def bytesLE : Nat → Nat → List Byte
  | 0, _ => []
  | n + 1, v => BitVec.ofNat 8 v :: bytesLE n (v / 256)

/-- The value of bytes carried least significant first. -/
def ofBytesLE : List Byte → Nat
  | [] => 0
  | b :: bs => b.toNat + 256 * ofBytesLE bs

/-- `n` bytes of a list from byte `k` on, zero beyond its end. -/
def slice (bs : List Byte) (k n : Nat) : List Byte :=
  let t := (bs.drop k).take n
  t ++ List.replicate (n - t.length) 0

/-- The little-endian number in bytes k … k + n − 1. -/
def leAt (bs : List Byte) (k n : Nat) : Nat := ofBytesLE (slice bs k n)

/-- The quotient rounded to the nearest integer, halves up, for non-negative operands; 0 for a zero divisor. -/
def divRound (a b : Nat) : Nat := if b = 0 then 0 else (2 * a + b) / (2 * b)

/-- Integer square root by bits, from bit `k` down. -/
def isqrtGo : Nat → Nat → Nat → Nat
  | 0, n, r => if (r + 1) * (r + 1) ≤ n then r + 1 else r
  | k + 1, n, r =>
    let t := r + 2 ^ (k + 1)
    isqrtGo k n (if t * t ≤ n then t else r)

/-- The largest r with r² ≤ n. -/
def isqrt (n : Nat) : Nat := isqrtGo (Nat.log2 n / 2 + 1) n 0

/-- Integer cube root by bits, from bit `k` down. -/
def icbrtGo : Nat → Nat → Nat → Nat
  | 0, n, r => if (r + 1) * (r + 1) * (r + 1) ≤ n then r + 1 else r
  | k + 1, n, r =>
    let t := r + 2 ^ (k + 1)
    icbrtGo k n (if t * t * t ≤ n then t else r)

/-- The largest r with r³ ≤ n. -/
def icbrt (n : Nat) : Nat := icbrtGo (Nat.log2 n / 3 + 1) n 0

end Sys2Proof.Machine
end

