-- ==== Sys2Proof/Machine/Float.lean ====
section
/-! DEFINITION. IEEE 754 values (R9, R47): exact dyadic values with one rounding, to nearest, ties to even. A value is
held canonically for binary64; an F32 object is its 32-bit word, converted at each read and write. -/
namespace Sys2Proof.Machine

/-- A floating value: not a number, an infinity, or (−1)^neg × m × 2^e. Zero is `fin neg 0 0`. -/
inductive FX where
  | nan
  | inf (neg : Bool)
  | fin (neg : Bool) (m : Nat) (e : Int)
  deriving DecidableEq, Repr, Inhabited

namespace FX

/-- Rounds (−1)^neg × m × 2^e (plus a positive rest when `sticky`) to `p` bits, least exponent `emin`, largest `emax`. -/
def round (p : Nat) (emin emax : Int) (neg : Bool) (m : Nat) (e : Int) (sticky : Bool) : FX :=
  if m = 0 then .fin neg 0 0 else
  let te := max (e + (Nat.log2 m : Int) + 1 - (p : Int)) emin
  if te ≤ e then
    if te > emax then .inf neg else .fin neg (m * 2 ^ (e - te).toNat) te
  else
    let d := (te - e).toNat
    let q := m / 2 ^ d
    let r := m % 2 ^ d
    let h := 2 ^ (d - 1)
    let q := if r > h || (r == h && (sticky || q % 2 == 1)) then q + 1 else q
    if q = 0 then .fin neg 0 0 else
    let qt : Nat × Int := if q = 2 ^ p then (2 ^ (p - 1), te + 1) else (q, te)
    if qt.2 > emax then .inf neg else .fin neg qt.1 qt.2

/-- To binary64. -/
def round64 (neg : Bool) (m : Nat) (e : Int) (sticky : Bool) : FX := round 53 (-1074) 971 neg m e sticky

/-- The value rounded to binary32 (and held as the binary64 that equals it). -/
def to32 : FX → FX
  | .fin n m e =>
    match round 24 (-149) 104 n m e false with
    | .fin n m e => round64 n m e false
    | x => x
  | x => x

/-- The value of a binary32 word. -/
def ofBits32 (w : Nat) : FX :=
  let neg := w / 2 ^ 31 % 2 == 1
  let ex : Nat := w / 2 ^ 23 % 256
  let fr : Nat := w % 2 ^ 23
  if ex = 255 then (if fr = 0 then .inf neg else .nan)
  else if ex = 0 then round64 neg fr (-149) false
  else round64 neg (2 ^ 23 + fr) ((ex : Int) - 150) false

/-- The binary32 word of a value, rounded to nearest even. A NaN is carried as 0x7FC0_0000. -/
def toBits32 (x : FX) : Nat :=
  match x with
  | .nan => 0x7FC00000
  | .inf n => ofBool n * 2 ^ 31 + 0x7F800000
  | .fin n m e =>
    match round 24 (-149) 104 n m e false with
    | .nan => 0x7FC00000
    | .inf n => ofBool n * 2 ^ 31 + 0x7F800000
    | .fin n m e =>
      if m = 0 then ofBool n * 2 ^ 31
      else if m < 2 ^ 23 then ofBool n * 2 ^ 31 + m
      else ofBool n * 2 ^ 31 + (e + 150).toNat * 2 ^ 23 + (m - 2 ^ 23)

def ofInt (z : Int) : FX := round64 (z < 0) z.natAbs 0 false
def ofNat (n : Nat) : FX := round64 false n 0 false

/-- n / d in binary64. -/
def ratio (n d : Nat) : FX :=
  if d = 0 then (if n = 0 then .nan else .inf false) else
  let k := Nat.log2 d + 66
  round64 false (n * 2 ^ k / d) (-(k : Int)) (n * 2 ^ k % d != 0)

def zero : FX := .fin false 0 0
def one : FX := ofNat 1

def neg : FX → FX
  | .nan => .nan
  | .inf n => .inf (!n)
  | .fin n m e => .fin (!n) m e

def abs : FX → FX
  | .nan => .nan
  | .inf _ => .inf false
  | .fin _ m e => .fin false m e

def isFinite : FX → Bool
  | .fin .. => true
  | _ => false

def isZero : FX → Bool
  | .fin _ m _ => m == 0
  | _ => false

/-- The signed integer of a mantissa. -/
def sgn (n : Bool) (m : Nat) : Int := if n then -(m : Int) else (m : Int)

def add : FX → FX → FX
  | .nan, _ => .nan
  | _, .nan => .nan
  | .inf a, .inf b => if a == b then .inf a else .nan
  | .inf a, _ => .inf a
  | _, .inf b => .inf b
  | .fin a m e, .fin b k f =>
    if m = 0 ∧ k = 0 then .fin (a && b) 0 0
    else if m = 0 then .fin b k f
    else if k = 0 then .fin a m e
    else
      let g := min e f
      let z := sgn a m * ((2 ^ (e - g).toNat : Nat) : Int) + sgn b k * ((2 ^ (f - g).toNat : Nat) : Int)
      if z = 0 then .fin false 0 0 else round64 (z < 0) z.natAbs g false

def sub (x y : FX) : FX := add x (neg y)

def mul : FX → FX → FX
  | .nan, _ => .nan
  | _, .nan => .nan
  | .inf a, .inf b => .inf (a != b)
  | .inf a, .fin b k _ => if k = 0 then .nan else .inf (a != b)
  | .fin a m _, .inf b => if m = 0 then .nan else .inf (a != b)
  | .fin a m e, .fin b k f => round64 (a != b) (m * k) (e + f) false

def div : FX → FX → FX
  | .nan, _ => .nan
  | _, .nan => .nan
  | .inf _, .inf _ => .nan
  | .inf a, .fin b _ _ => .inf (a != b)
  | .fin a _ _, .inf b => .fin (a != b) 0 0
  | .fin a m e, .fin b k f =>
    if k = 0 then (if m = 0 then .nan else .inf (a != b)) else
    let s : Nat := 120
    round64 (a != b) (m * 2 ^ s / k) (e - f - (s : Int)) (m * 2 ^ s % k != 0)

/-- Square root, rounded to nearest even. -/
def sqrt : FX → FX
  | .nan => .nan
  | .inf n => if n then .nan else .inf false
  | .fin n m e =>
    if m = 0 then .fin n 0 0 else if n then .nan else
    let k : Nat := if e % 2 = 0 then 124 else 125
    let v := m * 2 ^ k
    let r := isqrt v
    round64 false r ((e - (k : Int)) / 2) (r * r != v)

/-- Cube root, rounded to nearest even. -/
def cbrt : FX → FX
  | .nan => .nan
  | .inf n => .inf n
  | .fin n m e =>
    if m = 0 then .fin n 0 0 else
    let k : Nat := 180 + (e % 3).toNat
    let v := m * 2 ^ k
    let r := icbrt v
    round64 n r ((e - (k : Int)) / 3) (r * r * r != v)

/-- Numeric order; false with a NaN. -/
def lt : FX → FX → Bool
  | .nan, _ => false
  | _, .nan => false
  | .inf a, .inf b => a && !b
  | .inf a, _ => a
  | _, .inf b => !b
  | .fin a m e, .fin b k f =>
    let g := min e f
    decide (sgn a m * ((2 ^ (e - g).toNat : Nat) : Int) < sgn b k * ((2 ^ (f - g).toNat : Nat) : Int))

def isNan : FX → Bool
  | .nan => true
  | _ => false

def le (x y : FX) : Bool := !isNan x && !isNan y && !lt y x
def eq (x y : FX) : Bool := le x y && le y x
def gt (x y : FX) : Bool := lt y x
def ge (x y : FX) : Bool := le y x
def fmin (x y : FX) : FX := if lt y x then y else x
def fmax (x y : FX) : FX := if lt x y then y else x
def clamp (x lo hi : FX) : FX := fmin (fmax x lo) hi

/-- The integer nearest below. NaN and infinities give 0. -/
def floor : FX → Int
  | .fin n m e =>
    if e ≥ 0 then sgn n (m * 2 ^ e.toNat) else sgn n m / ((2 ^ (-e).toNat : Nat) : Int)
  | _ => 0

/-- The nearest integer, halves away from zero. -/
def roundAway : FX → Int
  | .fin n m e =>
    if e ≥ 0 then sgn n (m * 2 ^ e.toNat)
    else let d := 2 ^ (-e).toNat; sgn n ((2 * m + d) / (2 * d))
  | _ => 0

/-- The nearest integer, halves to even. -/
def roundEven : FX → Int
  | .fin n m e =>
    if e ≥ 0 then sgn n (m * 2 ^ e.toNat)
    else
      let d := 2 ^ (-e).toNat
      let q := m / d
      let r := 2 * (m % d)
      sgn n (if r > d || (r == d && q % 2 == 1) then q + 1 else q)
  | _ => 0

/-- The integer part. -/
def trunc : FX → Int
  | .fin n m e =>
    if e ≥ 0 then sgn n (m * 2 ^ e.toNat) else sgn n (m / 2 ^ (-e).toNat)
  | _ => 0

/-- x × 2^k, exactly where the result is in range. -/
def scale (x : FX) (k : Int) : FX :=
  match x with
  | .fin n m e => round64 n m (e + k) false
  | x => x

end FX

end Sys2Proof.Machine
end

