-- ==== Sys2Proof/Config.lean ====
section
/-! DEFINITION. What the spec leaves open as a value: constants without a body, so that nothing can be proved of them. Each is
applied to the operands it depends on, or to the count of values drawn so far (`State.fresh`). -/
namespace Sys2Proof

open Sys2Proof.Machine

/-- The n-th value that the spec leaves open; the reader takes it modulo the width of what it fills (log entry 3). -/
opaque Config.freeValue : Nat → Nat

/-- What a read of an object shows where the spec states no figure, by the object's key and the count of values drawn. -/
opaque Config.openRead : Nat → Nat → Nat

/-- Whether a function result is the binary64 value on the far side of the true one instead of the nearest (R175: within 1 ulp), by
the function's number and its operands. -/
opaque Config.farSide : Nat → FX → FX → Bool

/-- Saturation pressure outside −40 … 200 °C, where the equations of R166 are not said to hold. -/
opaque Config.satPressureOpen : FX → FX

/-- Humidity ratio where the vapour pressure is not below the air pressure (R166 gives none). -/
opaque Config.humRatioOpen : FX → FX → FX

/-- The argument of a zero transmission: R196 takes arg(t), which has no value at t = 0. -/
opaque Config.argOfZero : Nat → FX

/-- The media key of a number (R474): two keys of 256 bits, never seen outside the core die. -/
opaque Config.mediaKey : Nat → BitVec 512

end Sys2Proof
end

