-- ==== Sys2Proof/Machine/ObjectsA.lean ====
section
/-! DEFINITION. The names of the objects at 0x1000–0x3483 (R44, R46): each is the key of one index and subindex. -/
namespace Sys2Proof.Machine

/-- The key of an object: index × 256 + subindex (R44). -/
abbrev key (idx sub : Nat) : Nat := idx * 256 + sub

namespace Ob

/-- 0x1000:01 VendorName (STR, R71). -/
abbrev identVendorName : Nat := key (0x1000) (0x01)
/-- 0x1000:02 OrderingCode (STR, R71). -/
abbrev identOrderingCode : Nat := key (0x1000) (0x02)
/-- 0x1000:03 SerialNumber (STR, R71). -/
abbrev identSerialNumber : Nat := key (0x1000) (0x03)
/-- 0x1000:04 HardwareRevision (STR, R71). -/
abbrev identHardwareRevision : Nat := key (0x1000) (0x04)
/-- 0x1000:05 FittedCellPorts (U8, R71). -/
abbrev identFittedCellPorts : Nat := key (0x1000) (0x05)
/-- 0x1000:06 TemperatureGrade (U8, R71). -/
abbrev identTemperatureGrade : Nat := key (0x1000) (0x06)
/-- 0x1000:07 DictionaryVersion (U16, R71). -/
abbrev identDictionaryVersion : Nat := key (0x1000) (0x07)

/-- 0x1001:01 ImageAVersion (U32, R71). -/
abbrev imageImageAVersion : Nat := key (0x1001) (0x01)
/-- 0x1001:02 ImageBVersion (U32, R71). -/
abbrev imageImageBVersion : Nat := key (0x1001) (0x02)
/-- 0x1001:03 RunningImage (U8, R71). -/
abbrev imageRunningImage : Nat := key (0x1001) (0x03)

/-- 0x1010:01 OperatingState (U8, R73). -/
abbrev opOperatingState : Nat := key (0x1010) (0x01)
/-- 0x1010:02 StateCommand (U8, R73). -/
abbrev opStateCommand : Nat := key (0x1010) (0x02)
/-- 0x1010:03 LastTransitionCause (U8, R73). -/
abbrev opLastTransitionCause : Nat := key (0x1010) (0x03)
/-- 0x1010:04 StateEntryTime (U64, R73). -/
abbrev opStateEntryTime : Nat := key (0x1010) (0x04)
/-- 0x1010:05 AutoOperate (BOOL, R73). -/
abbrev opAutoOperate : Nat := key (0x1010) (0x05)
/-- 0x1010:06 SafeCause (U32, R73). -/
abbrev opSafeCause : Nat := key (0x1010) (0x06)
/-- 0x1010:07 FirstTripEvent (U16, R73). -/
abbrev opFirstTripEvent : Nat := key (0x1010) (0x07)
/-- 0x1010:08 ConsistencyFault (U32, R73). -/
abbrev opConsistencyFault : Nat := key (0x1010) (0x08)
/-- 0x1010:09 SeasonRead (U8, R73). -/
abbrev opSeasonRead : Nat := key (0x1010) (0x09)

/-- 0x1012:01–:10 SafeTripEvent (U16, R73). -/
abbrev safeTripSafeTripEvent (i : Nat) : Nat := key (0x1012) (0x01 + i)

/-- 0x1020:01 LastAbortCode (U32, R56). -/
abbrev abortLastAbortCode : Nat := key (0x1020) (0x01)
/-- 0x1020:02 LastAbortObject (U32, R56). -/
abbrev abortLastAbortObject : Nat := key (0x1020) (0x02)
/-- 0x1020:03 LastAbortInterface (U8, R56). -/
abbrev abortLastAbortInterface : Nat := key (0x1020) (0x03)
/-- 0x1020:04 AbortCount (U32, R56). -/
abbrev abortAbortCount : Nat := key (0x1020) (0x04)

/-- 0x2000–0x2FFF:01 Value (F32, R65). -/
abbrev chanValue (n : Nat) : Nat := key (0x2000 + n) (0x01)
/-- 0x2000–0x2FFF:02 Timestamp (U64, R65). -/
abbrev chanTimestamp (n : Nat) : Nat := key (0x2000 + n) (0x02)
/-- 0x2000–0x2FFF:03 Status (U16, R65). -/
abbrev chanStatus (n : Nat) : Nat := key (0x2000 + n) (0x03)
/-- 0x2000–0x2FFF:04 ChannelType (U8, R65). -/
abbrev chanChannelType (n : Nat) : Nat := key (0x2000 + n) (0x04)
/-- 0x2000–0x2FFF:05 SourceBinding (U32, R65). -/
abbrev chanSourceBinding (n : Nat) : Nat := key (0x2000 + n) (0x05)
/-- 0x2000–0x2FFF:06 ScaleGain (F32, R65). -/
abbrev chanScaleGain (n : Nat) : Nat := key (0x2000 + n) (0x06)
/-- 0x2000–0x2FFF:07 ScaleOffset (F32, R65). -/
abbrev chanScaleOffset (n : Nat) : Nat := key (0x2000 + n) (0x07)
/-- 0x2000–0x2FFF:08 RangeLow (F32, R65). -/
abbrev chanRangeLow (n : Nat) : Nat := key (0x2000 + n) (0x08)
/-- 0x2000–0x2FFF:09 RangeHigh (F32, R65). -/
abbrev chanRangeHigh (n : Nat) : Nat := key (0x2000 + n) (0x09)
/-- 0x2000–0x2FFF:0A ChannelName (STR, R65). -/
abbrev chanChannelName (n : Nat) : Nat := key (0x2000 + n) (0x0A)

/-- 0x3000–0x31FF:01 Active (BOOL, R208). -/
abbrev loopActive (n : Nat) : Nat := key (0x3000 + n) (0x01)
/-- 0x3000–0x31FF:02 Mode (U8, R208). -/
abbrev loopMode (n : Nat) : Nat := key (0x3000 + n) (0x02)
/-- 0x3000–0x31FF:03 Critical (BOOL, R208). -/
abbrev loopCritical (n : Nat) : Nat := key (0x3000 + n) (0x03)
/-- 0x3000–0x31FF:04 FeedbackChannel (U16, R208). -/
abbrev loopFeedbackChannel (n : Nat) : Nat := key (0x3000 + n) (0x04)
/-- 0x3000–0x31FF:05 SetpointChannel (U16, R208). -/
abbrev loopSetpointChannel (n : Nat) : Nat := key (0x3000 + n) (0x05)
/-- 0x3000–0x31FF:06 OutputChannel (U16, R208). -/
abbrev loopOutputChannel (n : Nat) : Nat := key (0x3000 + n) (0x06)
/-- 0x3000–0x31FF:07 FeedforwardChannel0 (U16, R208). -/
abbrev loopFeedforwardChannel0 (n : Nat) : Nat := key (0x3000 + n) (0x07)
/-- 0x3000–0x31FF:08 FeedforwardChannel1 (U16, R208). -/
abbrev loopFeedforwardChannel1 (n : Nat) : Nat := key (0x3000 + n) (0x08)
/-- 0x3000–0x31FF:09 ManualChannel (U16, R208). -/
abbrev loopManualChannel (n : Nat) : Nat := key (0x3000 + n) (0x09)
/-- 0x3000–0x31FF:0A Action (U8, R208). -/
abbrev loopAction (n : Nat) : Nat := key (0x3000 + n) (0x0A)
/-- 0x3000–0x31FF:0B InputGain (F32, R208). -/
abbrev loopInputGain (n : Nat) : Nat := key (0x3000 + n) (0x0B)
/-- 0x3000–0x31FF:0C Deadband (F32, R208). -/
abbrev loopDeadband (n : Nat) : Nat := key (0x3000 + n) (0x0C)
/-- 0x3000–0x31FF:0D StageCount (U8, R208). -/
abbrev loopStageCount (n : Nat) : Nat := key (0x3000 + n) (0x0D)
/-- 0x3000–0x31FF:0E StageTypes (U8, R208). -/
abbrev loopStageTypes (n : Nat) : Nat := key (0x3000 + n) (0x0E)
/-- 0x3000–0x31FF:0F–:12 StageExponent (I8, R208). -/
abbrev loopStageExponent (n : Nat) (i : Nat) : Nat := key (0x3000 + n) (0x0F + i)
/-- 0x3000–0x31FF:13 OutLow (F32, R208). -/
abbrev loopOutLow (n : Nat) : Nat := key (0x3000 + n) (0x13)
/-- 0x3000–0x31FF:14 OutHigh (F32, R208). -/
abbrev loopOutHigh (n : Nat) : Nat := key (0x3000 + n) (0x14)
/-- 0x3000–0x31FF:15 OutRate (F32, R208). -/
abbrev loopOutRate (n : Nat) : Nat := key (0x3000 + n) (0x15)
/-- 0x3000–0x31FF:16 Kff0 (F32, R208). -/
abbrev loopKff0 (n : Nat) : Nat := key (0x3000 + n) (0x16)
/-- 0x3000–0x31FF:17 Kff1 (F32, R208). -/
abbrev loopKff1 (n : Nat) : Nat := key (0x3000 + n) (0x17)
/-- 0x3000–0x31FF:18 FfRef0 (F32, R208). -/
abbrev loopFfRef0 (n : Nat) : Nat := key (0x3000 + n) (0x18)
/-- 0x3000–0x31FF:19 FfRef1 (F32, R208). -/
abbrev loopFfRef1 (n : Nat) : Nat := key (0x3000 + n) (0x19)
/-- 0x3000–0x31FF:1A Bias (F32, R208). -/
abbrev loopBias (n : Nat) : Nat := key (0x3000 + n) (0x1A)
/-- 0x3000–0x31FF:1B–:36 Coeff (BF24, R208). -/
abbrev loopCoeff (n : Nat) (i : Nat) : Nat := key (0x3000 + n) (0x1B + i)
/-- 0x3000–0x31FF:37 CoeffApply (U8, R208). -/
abbrev loopCoeffApply (n : Nat) : Nat := key (0x3000 + n) (0x37)
/-- 0x3000–0x31FF:38 Status (U16, R208). -/
abbrev loopStatus (n : Nat) : Nat := key (0x3000 + n) (0x38)
/-- 0x3000–0x31FF:39 OutputValue (F32, R208). -/
abbrev loopOutputValue (n : Nat) : Nat := key (0x3000 + n) (0x39)
/-- 0x3000–0x31FF:3A ErrorValue (F32, R208). -/
abbrev loopErrorValue (n : Nat) : Nat := key (0x3000 + n) (0x3A)
/-- 0x3000–0x31FF:3B CompOutput (F32, R208). -/
abbrev loopCompOutput (n : Nat) : Nat := key (0x3000 + n) (0x3B)
/-- 0x3000–0x31FF:3C SatCount (U32, R208). -/
abbrev loopSatCount (n : Nat) : Nat := key (0x3000 + n) (0x3C)
/-- 0x3000–0x31FF:3D LimitCount (U32, R208). -/
abbrev loopLimitCount (n : Nat) : Nat := key (0x3000 + n) (0x3D)
/-- 0x3000–0x31FF:3E SampleCount (U32, R208). -/
abbrev loopSampleCount (n : Nat) : Nat := key (0x3000 + n) (0x3E)
/-- 0x3000–0x31FF:3F LastSampleTime (U64, R208). -/
abbrev loopLastSampleTime (n : Nat) : Nat := key (0x3000 + n) (0x3F)
/-- 0x3000–0x31FF:40 ServiceTime (F32, R208). -/
abbrev loopServiceTime (n : Nat) : Nat := key (0x3000 + n) (0x40)
/-- 0x3000–0x31FF:41 TriggerEntry (U16, R208). -/
abbrev loopTriggerEntry (n : Nat) : Nat := key (0x3000 + n) (0x41)
/-- 0x3000–0x31FF:42 ContextImage (DOMAIN, R208). -/
abbrev loopContextImage (n : Nat) : Nat := key (0x3000 + n) (0x42)
/-- 0x3000–0x31FF:43 LoopName (STR, R208). -/
abbrev loopLoopName (n : Nat) : Nat := key (0x3000 + n) (0x43)

/-- 0x3200–0x33FF:01 ProfileEnable (BOOL, R234). -/
abbrev profProfileEnable (n : Nat) : Nat := key (0x3200 + n) (0x01)
/-- 0x3200–0x33FF:02 VelMax (F32, R234). -/
abbrev profVelMax (n : Nat) : Nat := key (0x3200 + n) (0x02)
/-- 0x3200–0x33FF:03 AccMax (F32, R234). -/
abbrev profAccMax (n : Nat) : Nat := key (0x3200 + n) (0x03)
/-- 0x3200–0x33FF:04 JerkMax (F32, R234). -/
abbrev profJerkMax (n : Nat) : Nat := key (0x3200 + n) (0x04)
/-- 0x3200–0x33FF:05 ProfilePosition (F32, R234). -/
abbrev profProfilePosition (n : Nat) : Nat := key (0x3200 + n) (0x05)
/-- 0x3200–0x33FF:06 ProfileVelocity (F32, R234). -/
abbrev profProfileVelocity (n : Nat) : Nat := key (0x3200 + n) (0x06)
/-- 0x3200–0x33FF:07 ProfileAccel (F32, R234). -/
abbrev profProfileAccel (n : Nat) : Nat := key (0x3200 + n) (0x07)
/-- 0x3200–0x33FF:08 ProfileStatus (U16, R234). -/
abbrev profProfileStatus (n : Nat) : Nat := key (0x3200 + n) (0x08)
/-- 0x3200–0x33FF:09 RegionCount (U8, R234). -/
abbrev profRegionCount (n : Nat) : Nat := key (0x3200 + n) (0x09)
/-- 0x3200–0x33FF:0A SchedChannel (U16, R234). -/
abbrev profSchedChannel (n : Nat) : Nat := key (0x3200 + n) (0x0A)
/-- 0x3200–0x33FF:0B–:11 Boundary (F32, R234). -/
abbrev profBoundary (n : Nat) (i : Nat) : Nat := key (0x3200 + n) (0x0B + i)
/-- 0x3200–0x33FF:12 Hysteresis (F32, R234). -/
abbrev profHysteresis (n : Nat) : Nat := key (0x3200 + n) (0x12)
/-- 0x3200–0x33FF:13 MinDwell (U16, R234). -/
abbrev profMinDwell (n : Nat) : Nat := key (0x3200 + n) (0x13)
/-- 0x3200–0x33FF:14 DefaultRegion (U8, R234). -/
abbrev profDefaultRegion (n : Nat) : Nat := key (0x3200 + n) (0x14)
/-- 0x3200–0x33FF:15 RegionForce (U8, R234). -/
abbrev profRegionForce (n : Nat) : Nat := key (0x3200 + n) (0x15)
/-- 0x3200–0x33FF:16 RegionInForce (U8, R234). -/
abbrev profRegionInForce (n : Nat) : Nat := key (0x3200 + n) (0x16)
/-- 0x3200–0x33FF:17 RegionStatus (U16, R234). -/
abbrev profRegionStatus (n : Nat) : Nat := key (0x3200 + n) (0x17)
/-- 0x3200–0x33FF:18 SwitchCount (U32, R234). -/
abbrev profSwitchCount (n : Nat) : Nat := key (0x3200 + n) (0x18)
/-- 0x3200–0x33FF:19 RegionApply (U8, R234). -/
abbrev profRegionApply (n : Nat) : Nat := key (0x3200 + n) (0x19)
/-- 0x3200–0x33FF:20–:E3 RegionCoeff (BF24, R234). -/
abbrev profRegionCoeff (n : Nat) (i : Nat) : Nat := key (0x3200 + n) (0x20 + i)

/-- 0x3400–0x3407:01–:40 SupervClass (U8, R249). -/
abbrev supClassSupervClass (n : Nat) (i : Nat) : Nat := key (0x3400 + n) (0x01 + i)

/-- 0x3408–0x340F:01–:40 FallbackOutput (F32, R249). -/
abbrev supFallbackFallbackOutput (n : Nat) (i : Nat) : Nat := key (0x3408 + n) (0x01 + i)

/-- 0x3410–0x3417:01–:40 SubstChannel (U16, R249). -/
abbrev supSubstSubstChannel (n : Nat) (i : Nat) : Nat := key (0x3410 + n) (0x01 + i)

/-- 0x3418–0x341F:01–:40 SupervStatus (U16, R249). -/
abbrev supStatusSupervStatus (n : Nat) (i : Nat) : Nat := key (0x3418 + n) (0x01 + i)

/-- 0x3420–0x343F:01 StalePeriods (U16, R249). -/
abbrev sclassStalePeriods (n : Nat) : Nat := key (0x3420 + n) (0x01)
/-- 0x3420–0x343F:02 FreezeWindow (U16, R249). -/
abbrev sclassFreezeWindow (n : Nat) : Nat := key (0x3420 + n) (0x02)
/-- 0x3420–0x343F:03 FreezeFloor (F32, R249). -/
abbrev sclassFreezeFloor (n : Nat) : Nat := key (0x3420 + n) (0x03)
/-- 0x3420–0x343F:04 RangeSamples (U16, R249). -/
abbrev sclassRangeSamples (n : Nat) : Nat := key (0x3420 + n) (0x04)
/-- 0x3420–0x343F:05 ClearSamples (U16, R249). -/
abbrev sclassClearSamples (n : Nat) : Nat := key (0x3420 + n) (0x05)
/-- 0x3420–0x343F:06 FaultAction (U8, R249). -/
abbrev sclassFaultAction (n : Nat) : Nat := key (0x3420 + n) (0x06)
/-- 0x3420–0x343F:07 FallbackRate (F32, R249). -/
abbrev sclassFallbackRate (n : Nat) : Nat := key (0x3420 + n) (0x07)
/-- 0x3420–0x343F:08 ClassName (STR, R249). -/
abbrev sclassClassName (n : Nat) : Nat := key (0x3420 + n) (0x08)

/-- 0x3440–0x345F:01 Loop (U16, R259). -/
abbrev injLoop (n : Nat) : Nat := key (0x3440 + n) (0x01)
/-- 0x3440–0x345F:02 InjectPoint (U8, R259). -/
abbrev injInjectPoint (n : Nat) : Nat := key (0x3440 + n) (0x02)
/-- 0x3440–0x345F:03 Signal (U8, R259). -/
abbrev injSignal (n : Nat) : Nat := key (0x3440 + n) (0x03)
/-- 0x3440–0x345F:04 Amplitude (F32, R259). -/
abbrev injAmplitude (n : Nat) : Nat := key (0x3440 + n) (0x04)
/-- 0x3440–0x345F:05 PrbsOrder (U8, R259). -/
abbrev injPrbsOrder (n : Nat) : Nat := key (0x3440 + n) (0x05)
/-- 0x3440–0x345F:06 PrbsHold (U16, R259). -/
abbrev injPrbsHold (n : Nat) : Nat := key (0x3440 + n) (0x06)
/-- 0x3440–0x345F:07 SweepStart (F32, R259). -/
abbrev injSweepStart (n : Nat) : Nat := key (0x3440 + n) (0x07)
/-- 0x3440–0x345F:08 SweepEnd (F32, R259). -/
abbrev injSweepEnd (n : Nat) : Nat := key (0x3440 + n) (0x08)
/-- 0x3440–0x345F:09 Length (U32, R259). -/
abbrev injLength (n : Nat) : Nat := key (0x3440 + n) (0x09)
/-- 0x3440–0x345F:0A PreSamples (U32, R259). -/
abbrev injPreSamples (n : Nat) : Nat := key (0x3440 + n) (0x0A)
/-- 0x3440–0x345F:0B PostSamples (U32, R259). -/
abbrev injPostSamples (n : Nat) : Nat := key (0x3440 + n) (0x0B)
/-- 0x3440–0x345F:0C CaptureNodes (U8, R259). -/
abbrev injCaptureNodes (n : Nat) : Nat := key (0x3440 + n) (0x0C)
/-- 0x3440–0x345F:0D Command (U8, R259). -/
abbrev injCommand (n : Nat) : Nat := key (0x3440 + n) (0x0D)
/-- 0x3440–0x345F:0E State (U8, R259). -/
abbrev injState (n : Nat) : Nat := key (0x3440 + n) (0x0E)
/-- 0x3440–0x345F:0F Buffer (U8, R259). -/
abbrev injBuffer (n : Nat) : Nat := key (0x3440 + n) (0x0F)
/-- 0x3440–0x345F:10 CapturedRecords (U32, R259). -/
abbrev injCapturedRecords (n : Nat) : Nat := key (0x3440 + n) (0x10)
/-- 0x3440–0x345F:11 RecordSize (U16, R259). -/
abbrev injRecordSize (n : Nat) : Nat := key (0x3440 + n) (0x11)
/-- 0x3440–0x345F:12 EndCause (U8, R259). -/
abbrev injEndCause (n : Nat) : Nat := key (0x3440 + n) (0x12)
/-- 0x3440–0x345F:13 Clipped (BOOL, R259). -/
abbrev injClipped (n : Nat) : Nat := key (0x3440 + n) (0x13)

/-- 0x3460:01 Select (U8, R264). -/
abbrev captureSelect : Nat := key (0x3460) (0x01)
/-- 0x3460:02 Offset (U32, R264). -/
abbrev captureOffset : Nat := key (0x3460) (0x02)
/-- 0x3460:03 Block (DOMAIN, R264). -/
abbrev captureBlock : Nat := key (0x3460) (0x03)
/-- 0x3460:04 FreeBuffers (U8, R264). -/
abbrev captureFreeBuffers : Nat := key (0x3460) (0x04)

/-- 0x3468–0x346F:01 Loop (U16, R265). -/
abbrev traceLoop (n : Nat) : Nat := key (0x3468 + n) (0x01)
/-- 0x3468–0x346F:02 Enable (BOOL, R265). -/
abbrev traceEnable (n : Nat) : Nat := key (0x3468 + n) (0x02)
/-- 0x3468–0x346F:03 TriggerEvent (U16, R265). -/
abbrev traceTriggerEvent (n : Nat) : Nat := key (0x3468 + n) (0x03)
/-- 0x3468–0x346F:04 PostSamples (U16, R265). -/
abbrev tracePostSamples (n : Nat) : Nat := key (0x3468 + n) (0x04)
/-- 0x3468–0x346F:05 Decimation (U16, R265). -/
abbrev traceDecimation (n : Nat) : Nat := key (0x3468 + n) (0x05)
/-- 0x3468–0x346F:06 Command (U8, R265). -/
abbrev traceCommand (n : Nat) : Nat := key (0x3468 + n) (0x06)
/-- 0x3468–0x346F:07 State (U8, R265). -/
abbrev traceState (n : Nat) : Nat := key (0x3468 + n) (0x07)
/-- 0x3468–0x346F:08 RecordCount (U16, R265). -/
abbrev traceRecordCount (n : Nat) : Nat := key (0x3468 + n) (0x08)
/-- 0x3468–0x346F:09 TriggerTime (U64, R265). -/
abbrev traceTriggerTime (n : Nat) : Nat := key (0x3468 + n) (0x09)
/-- 0x3468–0x346F:0A Buffer (DOMAIN, R265). -/
abbrev traceBuffer (n : Nat) : Nat := key (0x3468 + n) (0x0A)

/-- 0x3480:01 EnginesInService (U8, R269). -/
abbrev engEnginesInService : Nat := key (0x3480) (0x01)
/-- 0x3480:02 HealthyReserves (U8, R269). -/
abbrev engHealthyReserves : Nat := key (0x3480) (0x02)
/-- 0x3480:03 LoopLoad (F32, R269). -/
abbrev engLoopLoad : Nat := key (0x3480) (0x03)
/-- 0x3480:04 PoolMedian (F32, R269). -/
abbrev engPoolMedian : Nat := key (0x3480) (0x04)
/-- 0x3480:05 RetireCount (U32, R269). -/
abbrev engRetireCount : Nat := key (0x3480) (0x05)
/-- 0x3480:06 FailCount (U32, R269). -/
abbrev engFailCount : Nat := key (0x3480) (0x06)

/-- 0x3481:01–:12 EngineState (U8, R269). -/
abbrev engStateEngineState (i : Nat) : Nat := key (0x3481) (0x01 + i)

/-- 0x3482:01–:12 EngineMedian (F32, R269). -/
abbrev engMedianEngineMedian (i : Nat) : Nat := key (0x3482) (0x01 + i)

/-- 0x3483:01–:12 EngineSamples (U32, R269). -/
abbrev engSamplesEngineSamples (i : Nat) : Nat := key (0x3483) (0x01 + i)

end Ob

end Sys2Proof.Machine
end

