-- ==== Sys2Proof/Machine/Dict.lean ====
section
/-! DEFINITION. The object dictionary (R44–R51): every block of indices with its highest subindex, and every row with its
type, access class, default, own range check and whether it is stored. Written from the object tables of the chapters. -/
namespace Sys2Proof.Machine

/-- Object types (R47). -/
inductive Ty where
  | bool | u8 | i8 | u16 | i16 | u32 | i32 | u64 | i64 | f32 | bf24 | str | domain
  deriving DecidableEq, Repr

/-- Access classes (R50); `chanValue` is the Value of a channel, whose access its type decides (R66). -/
inductive Access where
  | const | ro | rw | rwp | wo | chanValue
  deriving DecidableEq, Repr

/-- The check a write makes against the object's own range (R52). F32 bounds are binary32 words. -/
inductive Chk where
  | any | bool | nat (lo hi : Nat) | natOr (lo hi alt : Nat) | enum (lo hi : Nat) | oneOf (vs : List Nat)
  | int (lo hi : Int) | f32 (lo hi : Nat) | f32any | f32nz | f32pos | f32nonneg
  | mask (reserved : Nat) | len (lo hi : Nat) | binding | station | filter | bf24 | capture
  | multiple (k hi : Nat) | contiguous
  deriving DecidableEq, Repr

/-- A row of the dictionary: subindices lo–hi, all alike. `chans` is the set of channel types a channel reference admits
(bit t for type t), checked under R52; 0 where the row names no channel. -/
structure Row where
  lo : Nat
  hi : Nat
  ty : Ty
  acc : Access
  dflt : Nat
  chk : Chk
  stored : Bool
  chans : Nat
  deriving DecidableEq, Repr

/-- A block of `count` indices from `base` on, all alike. -/
structure Block where
  base : Nat
  count : Nat
  highest : Nat
  rows : List Row
  deriving DecidableEq, Repr

/-- Ident: 0x1000, 1 index. -/
def blk1000 : Block := ⟨0x1000, 1, 0x07,
  [⟨0x01, 0x01, .str, .const, 0, .len 0 32, false, 0⟩,
    ⟨0x02, 0x02, .str, .const, 0, .len 0 32, false, 0⟩,
    ⟨0x03, 0x03, .str, .const, 0, .len 0 32, false, 0⟩,
    ⟨0x04, 0x04, .str, .const, 0, .len 0 32, false, 0⟩,
    ⟨0x05, 0x05, .u8, .const, 0, .any, false, 0⟩,
    ⟨0x06, 0x06, .u8, .const, 0, .any, false, 0⟩,
    ⟨0x07, 0x07, .u16, .const, 256, .any, false, 0⟩]⟩

/-- Image: 0x1001, 1 index. -/
def blk1001 : Block := ⟨0x1001, 1, 0x03,
  [⟨0x01, 0x01, .u32, .ro, 0, .any, false, 0⟩,
    ⟨0x02, 0x02, .u32, .ro, 0, .any, false, 0⟩,
    ⟨0x03, 0x03, .u8, .ro, 0, .any, false, 0⟩]⟩

/-- Op: 0x1010, 1 index. -/
def blk1010 : Block := ⟨0x1010, 1, 0x09,
  [⟨0x01, 0x01, .u8, .ro, 0, .any, false, 0⟩,
    ⟨0x02, 0x02, .u8, .wo, 0, .enum 1 5, false, 0⟩,
    ⟨0x03, 0x03, .u8, .ro, 0, .any, false, 0⟩,
    ⟨0x04, 0x04, .u64, .ro, 0, .any, false, 0⟩,
    ⟨0x05, 0x05, .bool, .rwp, 0, .bool, true, 0⟩,
    ⟨0x06, 0x06, .u32, .ro, 0, .any, false, 0⟩,
    ⟨0x07, 0x07, .u16, .ro, 65535, .natOr 0 255 0xFFFF, false, 0⟩,
    ⟨0x08, 0x08, .u32, .ro, 0, .any, false, 0⟩,
    ⟨0x09, 0x09, .u8, .ro, 0, .any, false, 0⟩]⟩

/-- SafeTrip: 0x1012, 1 index. -/
def blk1012 : Block := ⟨0x1012, 1, 0x10,
  [⟨0x01, 0x10, .u16, .rwp, 65535, .natOr 0 255 0xFFFF, true, 0⟩]⟩

/-- Abort: 0x1020, 1 index. -/
def blk1020 : Block := ⟨0x1020, 1, 0x04,
  [⟨0x01, 0x01, .u32, .ro, 0, .any, false, 0⟩,
    ⟨0x02, 0x02, .u32, .ro, 0, .any, false, 0⟩,
    ⟨0x03, 0x03, .u8, .ro, 0, .any, false, 0⟩,
    ⟨0x04, 0x04, .u32, .ro, 0, .nat 0 0, false, 0⟩]⟩

/-- Chan: 0x2000, 4096 indices. -/
def blk2000 : Block := ⟨0x2000, 4096, 0x0A,
  [⟨0x01, 0x01, .f32, .chanValue, 0, .f32any, false, 0⟩,
    ⟨0x02, 0x02, .u64, .ro, 0, .any, false, 0⟩,
    ⟨0x03, 0x03, .u16, .ro, 0, .any, false, 0⟩,
    ⟨0x04, 0x04, .u8, .rwp, 0, .enum 0 11, true, 0⟩,
    ⟨0x05, 0x05, .u32, .rwp, 0, .binding, true, 0⟩,
    ⟨0x06, 0x06, .f32, .rwp, 1065353216, .f32nz, true, 0⟩,
    ⟨0x07, 0x07, .f32, .rwp, 0, .f32any, true, 0⟩,
    ⟨0x08, 0x08, .f32, .rw, 4048155338, .f32any, true, 0⟩,
    ⟨0x09, 0x09, .f32, .rw, 1900671690, .f32any, true, 0⟩,
    ⟨0x0A, 0x0A, .str, .rw, 0, .len 0 32, true, 0⟩]⟩

/-- Loop: 0x3000, 512 indices. -/
def blk3000 : Block := ⟨0x3000, 512, 0x43,
  [⟨0x01, 0x01, .bool, .rw, 0, .bool, true, 0⟩,
    ⟨0x02, 0x02, .u8, .rw, 0, .enum 0 2, false, 0⟩,
    ⟨0x03, 0x03, .bool, .rwp, 0, .bool, true, 0⟩,
    ⟨0x04, 0x04, .u16, .rwp, 65535, .natOr 0 4095 0xFFFF, true, 2554⟩,
    ⟨0x05, 0x05, .u16, .rwp, 65535, .natOr 0 4095 0xFFFF, true, 2554⟩,
    ⟨0x06, 0x06, .u16, .rwp, 65535, .natOr 0 4095 0xFFFF, true, 12⟩,
    ⟨0x07, 0x07, .u16, .rwp, 65535, .natOr 0 4095 0xFFFF, true, 4090⟩,
    ⟨0x08, 0x08, .u16, .rwp, 65535, .natOr 0 4095 0xFFFF, true, 4090⟩,
    ⟨0x09, 0x09, .u16, .rwp, 65535, .natOr 0 4095 0xFFFF, true, 2048⟩,
    ⟨0x0A, 0x0A, .u8, .rwp, 0, .enum 0 1, true, 0⟩,
    ⟨0x0B, 0x0B, .f32, .rw, 1065353216, .f32nz, true, 0⟩,
    ⟨0x0C, 0x0C, .f32, .rw, 0, .f32nonneg, true, 0⟩,
    ⟨0x0D, 0x0D, .u8, .rwp, 1, .nat 1 4, true, 0⟩,
    ⟨0x0E, 0x0E, .u8, .rwp, 0, .mask 0xF0, true, 0⟩,
    ⟨0x0F, 0x12, .i8, .rwp, 0, .int (-31) 31, true, 0⟩,
    ⟨0x13, 0x13, .f32, .rw, 4048155338, .f32any, true, 0⟩,
    ⟨0x14, 0x14, .f32, .rw, 1900671690, .f32any, true, 0⟩,
    ⟨0x15, 0x15, .f32, .rw, 0, .f32nonneg, true, 0⟩,
    ⟨0x16, 0x16, .f32, .rw, 0, .f32any, true, 0⟩,
    ⟨0x17, 0x17, .f32, .rw, 0, .f32any, true, 0⟩] ++
   [⟨0x18, 0x18, .f32, .rw, 0, .f32any, true, 0⟩,
    ⟨0x19, 0x19, .f32, .rw, 0, .f32any, true, 0⟩,
    ⟨0x1A, 0x1A, .f32, .rw, 0, .f32any, true, 0⟩,
    ⟨0x1B, 0x36, .bf24, .rw, 0, .bf24, true, 0⟩,
    ⟨0x37, 0x37, .u8, .wo, 0, .enum 1 1, false, 0⟩,
    ⟨0x38, 0x38, .u16, .ro, 0, .any, false, 0⟩,
    ⟨0x39, 0x39, .f32, .ro, 0, .f32any, false, 0⟩,
    ⟨0x3A, 0x3A, .f32, .ro, 0, .f32any, false, 0⟩,
    ⟨0x3B, 0x3B, .f32, .ro, 0, .f32any, false, 0⟩,
    ⟨0x3C, 0x3C, .u32, .ro, 0, .any, false, 0⟩,
    ⟨0x3D, 0x3D, .u32, .ro, 0, .any, false, 0⟩,
    ⟨0x3E, 0x3E, .u32, .ro, 0, .any, false, 0⟩,
    ⟨0x3F, 0x3F, .u64, .ro, 0, .any, false, 0⟩,
    ⟨0x40, 0x40, .f32, .ro, 0, .f32any, false, 0⟩,
    ⟨0x41, 0x41, .u16, .ro, 65535, .any, false, 0⟩,
    ⟨0x42, 0x42, .domain, .ro, 0, .any, false, 0⟩,
    ⟨0x43, 0x43, .str, .rw, 0, .len 0 32, true, 0⟩]⟩

/-- Prof: 0x3200, 512 indices. -/
def blk3200 : Block := ⟨0x3200, 512, 0xE3,
  [⟨0x01, 0x01, .bool, .rw, 0, .bool, true, 0⟩,
    ⟨0x02, 0x02, .f32, .rw, 1065353216, .f32pos, true, 0⟩,
    ⟨0x03, 0x03, .f32, .rw, 1065353216, .f32pos, true, 0⟩,
    ⟨0x04, 0x04, .f32, .rw, 1065353216, .f32pos, true, 0⟩,
    ⟨0x05, 0x05, .f32, .ro, 0, .f32any, false, 0⟩,
    ⟨0x06, 0x06, .f32, .ro, 0, .f32any, false, 0⟩,
    ⟨0x07, 0x07, .f32, .ro, 0, .f32any, false, 0⟩,
    ⟨0x08, 0x08, .u16, .ro, 0, .any, false, 0⟩,
    ⟨0x09, 0x09, .u8, .rwp, 1, .nat 1 8, true, 0⟩,
    ⟨0x0A, 0x0A, .u16, .rwp, 65535, .natOr 0 4095 0xFFFF, true, 4094⟩,
    ⟨0x0B, 0x11, .f32, .rw, 0, .f32any, true, 0⟩,
    ⟨0x12, 0x12, .f32, .rw, 0, .f32nonneg, true, 0⟩,
    ⟨0x13, 0x13, .u16, .rw, 0, .any, true, 0⟩,
    ⟨0x14, 0x14, .u8, .rw, 0, .nat 0 7, true, 0⟩,
    ⟨0x15, 0x15, .u8, .rw, 255, .natOr 0 7 0xFF, false, 0⟩,
    ⟨0x16, 0x16, .u8, .ro, 0, .nat 0 7, false, 0⟩,
    ⟨0x17, 0x17, .u16, .ro, 0, .any, false, 0⟩,
    ⟨0x18, 0x18, .u32, .ro, 0, .any, false, 0⟩,
    ⟨0x19, 0x19, .u8, .wo, 0, .oneOf [1, 2, 3, 4, 5, 6, 7, 0xFF], false, 0⟩,
    ⟨0x20, 0xE3, .bf24, .rw, 0, .bf24, true, 0⟩]⟩

/-- SupClass: 0x3400, 8 indices. -/
def blk3400 : Block := ⟨0x3400, 8, 0x40,
  [⟨0x01, 0x40, .u8, .rwp, 255, .natOr 0 31 0xFF, true, 0⟩]⟩

/-- SupFallback: 0x3408, 8 indices. -/
def blk3408 : Block := ⟨0x3408, 8, 0x40,
  [⟨0x01, 0x40, .f32, .rw, 0, .f32any, true, 0⟩]⟩

/-- SupSubst: 0x3410, 8 indices. -/
def blk3410 : Block := ⟨0x3410, 8, 0x40,
  [⟨0x01, 0x40, .u16, .rwp, 65535, .natOr 0 4095 0xFFFF, true, 128⟩]⟩

/-- SupStatus: 0x3418, 8 indices. -/
def blk3418 : Block := ⟨0x3418, 8, 0x40,
  [⟨0x01, 0x40, .u16, .ro, 0, .any, false, 0⟩]⟩

/-- Sclass: 0x3420, 32 indices. -/
def blk3420 : Block := ⟨0x3420, 32, 0x08,
  [⟨0x01, 0x01, .u16, .rw, 3, .nat 0 1000, true, 0⟩,
    ⟨0x02, 0x02, .u16, .rw, 0, .natOr 8 4096 0, true, 0⟩,
    ⟨0x03, 0x03, .f32, .rw, 0, .f32nonneg, true, 0⟩,
    ⟨0x04, 0x04, .u16, .rw, 1, .nat 0 1000, true, 0⟩,
    ⟨0x05, 0x05, .u16, .rw, 3, .nat 1 1000, true, 0⟩,
    ⟨0x06, 0x06, .u8, .rw, 0, .enum 0 2, true, 0⟩,
    ⟨0x07, 0x07, .f32, .rw, 1065353216, .f32pos, true, 0⟩,
    ⟨0x08, 0x08, .str, .rw, 0, .len 0 32, true, 0⟩]⟩

/-- Inj: 0x3440, 32 indices. -/
def blk3440 : Block := ⟨0x3440, 32, 0x13,
  [⟨0x01, 0x01, .u16, .rw, 65535, .natOr 0 511 0xFFFF, true, 0⟩,
    ⟨0x02, 0x02, .u8, .rw, 0, .enum 0 1, true, 0⟩,
    ⟨0x03, 0x03, .u8, .rw, 0, .enum 0 2, true, 0⟩,
    ⟨0x04, 0x04, .f32, .rw, 0, .f32any, true, 0⟩,
    ⟨0x05, 0x05, .u8, .rw, 9, .oneOf [7, 9, 10, 11, 15], true, 0⟩,
    ⟨0x06, 0x06, .u16, .rw, 1, .nat 1 1024, true, 0⟩,
    ⟨0x07, 0x07, .f32, .rw, 981668463, .f32 0x3727C5AC 0x3F000000, true, 0⟩,
    ⟨0x08, 0x08, .f32, .rw, 1036831949, .f32 0x3727C5AC 0x3F000000, true, 0⟩,
    ⟨0x09, 0x09, .u32, .rw, 1000, .nat 1 10000000, true, 0⟩,
    ⟨0x0A, 0x0A, .u32, .rw, 100, .nat 0 1000000, true, 0⟩,
    ⟨0x0B, 0x0B, .u32, .rw, 100, .nat 0 1000000, true, 0⟩,
    ⟨0x0C, 0x0C, .u8, .rw, 127, .capture, true, 0⟩,
    ⟨0x0D, 0x0D, .u8, .wo, 0, .enum 1 3, false, 0⟩,
    ⟨0x0E, 0x0E, .u8, .ro, 0, .any, false, 0⟩,
    ⟨0x0F, 0x0F, .u8, .ro, 255, .natOr 0 15 0xFF, false, 0⟩,
    ⟨0x10, 0x10, .u32, .ro, 0, .any, false, 0⟩,
    ⟨0x11, 0x11, .u16, .ro, 0, .any, false, 0⟩,
    ⟨0x12, 0x12, .u8, .ro, 0, .any, false, 0⟩,
    ⟨0x13, 0x13, .bool, .ro, 0, .bool, false, 0⟩]⟩

/-- Capture: 0x3460, 1 index. -/
def blk3460 : Block := ⟨0x3460, 1, 0x04,
  [⟨0x01, 0x01, .u8, .rw, 0, .nat 0 31, false, 0⟩,
    ⟨0x02, 0x02, .u32, .rw, 0, .multiple 4096 4190208, false, 0⟩,
    ⟨0x03, 0x03, .domain, .ro, 0, .any, false, 0⟩,
    ⟨0x04, 0x04, .u8, .ro, 16, .nat 0 16, false, 0⟩]⟩

/-- Trace: 0x3468, 8 indices. -/
def blk3468 : Block := ⟨0x3468, 8, 0x0A,
  [⟨0x01, 0x01, .u16, .rwp, 65535, .natOr 0 511 0xFFFF, true, 0⟩,
    ⟨0x02, 0x02, .bool, .rw, 0, .bool, true, 0⟩,
    ⟨0x03, 0x03, .u16, .rw, 65535, .natOr 0 255 0xFFFF, true, 0⟩,
    ⟨0x04, 0x04, .u16, .rw, 512, .nat 0 1023, true, 0⟩,
    ⟨0x05, 0x05, .u16, .rw, 1, .nat 1 65535, true, 0⟩,
    ⟨0x06, 0x06, .u8, .wo, 0, .enum 1 2, false, 0⟩,
    ⟨0x07, 0x07, .u8, .ro, 0, .any, false, 0⟩,
    ⟨0x08, 0x08, .u16, .ro, 0, .nat 0 1024, false, 0⟩,
    ⟨0x09, 0x09, .u64, .ro, 0, .any, false, 0⟩,
    ⟨0x0A, 0x0A, .domain, .ro, 0, .any, false, 0⟩]⟩

/-- Eng: 0x3480, 1 index. -/
def blk3480 : Block := ⟨0x3480, 1, 0x06,
  [⟨0x01, 0x01, .u8, .ro, 16, .nat 0 16, false, 0⟩,
    ⟨0x02, 0x02, .u8, .ro, 2, .nat 0 2, false, 0⟩,
    ⟨0x03, 0x03, .f32, .ro, 0, .f32any, false, 0⟩,
    ⟨0x04, 0x04, .f32, .ro, 0, .f32any, false, 0⟩,
    ⟨0x05, 0x05, .u32, .ro, 0, .any, false, 0⟩,
    ⟨0x06, 0x06, .u32, .ro, 0, .any, false, 0⟩]⟩

/-- EngState: 0x3481, 1 index. -/
def blk3481 : Block := ⟨0x3481, 1, 0x12,
  [⟨0x01, 0x12, .u8, .ro, 0, .any, false, 0⟩]⟩

/-- EngMedian: 0x3482, 1 index. -/
def blk3482 : Block := ⟨0x3482, 1, 0x12,
  [⟨0x01, 0x12, .f32, .ro, 0, .f32any, false, 0⟩]⟩

/-- EngSamples: 0x3483, 1 index. -/
def blk3483 : Block := ⟨0x3483, 1, 0x12,
  [⟨0x01, 0x12, .u32, .ro, 0, .any, false, 0⟩]⟩

/-- Ledger: 0x4000, 1 index. -/
def blk4000 : Block := ⟨0x4000, 1, 0x0F,
  [⟨0x01, 0x01, .u64, .ro, 0, .any, false, 0⟩,
    ⟨0x02, 0x02, .u64, .ro, 0, .any, false, 0⟩,
    ⟨0x03, 0x03, .u64, .ro, 0, .any, false, 0⟩,
    ⟨0x04, 0x04, .u64, .ro, 0, .any, false, 0⟩,
    ⟨0x05, 0x05, .u64, .ro, 0, .any, false, 0⟩,
    ⟨0x06, 0x06, .u64, .ro, 0, .any, false, 0⟩,
    ⟨0x07, 0x07, .u64, .ro, 0, .any, false, 0⟩,
    ⟨0x08, 0x08, .u64, .ro, 0, .any, false, 0⟩,
    ⟨0x09, 0x09, .u64, .ro, 0, .any, false, 0⟩,
    ⟨0x0A, 0x0A, .u64, .ro, 0, .any, false, 0⟩,
    ⟨0x0B, 0x0B, .u64, .ro, 0, .any, false, 0⟩,
    ⟨0x0C, 0x0C, .u64, .ro, 0, .any, false, 0⟩,
    ⟨0x0D, 0x0D, .i64, .ro, 0, .any, false, 0⟩,
    ⟨0x0E, 0x0E, .u16, .ro, 1, .any, false, 0⟩,
    ⟨0x0F, 0x0F, .u8, .wo, 0, .enum 1 1, false, 0⟩]⟩

/-- PTable: 0x4001, 1 index. -/
def blk4001 : Block := ⟨0x4001, 1, 0x04,
  [⟨0x01, 0x01, .u16, .ro, 0, .nat 0 16384, false, 0⟩,
    ⟨0x02, 0x02, .u16, .ro, 0, .nat 0 16384, false, 0⟩,
    ⟨0x03, 0x03, .u32, .ro, 0, .any, false, 0⟩,
    ⟨0x04, 0x04, .u32, .ro, 0, .any, false, 0⟩]⟩

/-- Path: 0x4010, 16 indices. -/
def blk4010 : Block := ⟨0x4010, 16, 0x14,
  [⟨0x01, 0x01, .bool, .rwp, 0, .bool, true, 0⟩,
    ⟨0x02, 0x02, .u8, .rwp, 0, .nat 0 7, true, 0⟩,
    ⟨0x03, 0x03, .u8, .rwp, 0, .enum 0 2, true, 0⟩,
    ⟨0x04, 0x04, .u8, .rwp, 0, .nat 0 63, true, 0⟩,
    ⟨0x05, 0x05, .u32, .rwp, 1000000, .nat 1 4294967295, true, 0⟩,
    ⟨0x06, 0x06, .f32, .rwp, 1148846080, .f32 0x41200000 0x44FA0000, true, 0⟩,
    ⟨0x07, 0x07, .u32, .rwp, 64, .nat 1 65535, true, 0⟩,
    ⟨0x08, 0x08, .u16, .rwp, 65535, .natOr 0 4095 0xFFFF, true, 2112⟩,
    ⟨0x09, 0x09, .u16, .rwp, 65535, .natOr 0 4095 0xFFFF, true, 2306⟩,
    ⟨0x0A, 0x0A, .f32, .rw, 1101004800, .f32 0x00000000 0x42440000, true, 0⟩,
    ⟨0x0B, 0x0B, .u8, .rw, 0, .nat 0 31, true, 0⟩,
    ⟨0x0C, 0x0C, .u8, .rw, 0, .enum 0 2, true, 0⟩,
    ⟨0x0D, 0x0D, .u8, .rw, 0, .nat 0 63, true, 0⟩,
    ⟨0x0E, 0x0E, .u8, .rwp, 0, .nat 0 32, true, 0⟩,
    ⟨0x0F, 0x0F, .u16, .ro, 0, .any, false, 0⟩,
    ⟨0x10, 0x10, .u16, .ro, 0, .nat 0 16384, false, 0⟩,
    ⟨0x11, 0x11, .f32, .ro, 0, .f32any, false, 0⟩,
    ⟨0x12, 0x12, .u16, .ro, 65535, .any, false, 0⟩,
    ⟨0x13, 0x13, .u16, .ro, 65535, .any, false, 0⟩,
    ⟨0x14, 0x14, .u8, .wo, 0, .enum 1 1, false, 0⟩]⟩

/-- StnOff: 0x4020, 16 indices. -/
def blk4020 : Block := ⟨0x4020, 16, 0x20,
  [⟨0x01, 0x20, .u32, .rwp, 0, .any, true, 0⟩]⟩

/-- StnSrc: 0x4030, 16 indices. -/
def blk4030 : Block := ⟨0x4030, 16, 0x20,
  [⟨0x01, 0x20, .u32, .rwp, 0, .station, true, 0⟩]⟩

/-- Bin: 0x4040, 64 indices. -/
def blk4040 : Block := ⟨0x4040, 64, 0x11,
  [⟨0x01, 0x01, .bool, .rwp, 0, .bool, true, 0⟩,
    ⟨0x02, 0x02, .f32, .rwp, 1232348160, .f32 0x447A0000 0x4CBEBC20, true, 0⟩,
    ⟨0x03, 0x03, .f32, .rwp, 1184645120, .f32 0x42C80000 0x4B189680, true, 0⟩,
    ⟨0x04, 0x04, .u64, .ro, 0, .any, false, 0⟩,
    ⟨0x05, 0x05, .u64, .ro, 0, .any, false, 0⟩,
    ⟨0x06, 0x06, .f32, .ro, 0, .f32any, false, 0⟩,
    ⟨0x07, 0x07, .f32, .ro, 0, .f32any, false, 0⟩,
    ⟨0x08, 0x08, .u8, .ro, 0, .nat 0 64, false, 0⟩,
    ⟨0x09, 0x09, .u16, .ro, 0, .any, false, 0⟩,
    ⟨0x0A, 0x0A, .u64, .ro, 0, .any, false, 0⟩,
    ⟨0x0B, 0x0B, .u64, .ro, 0, .any, false, 0⟩,
    ⟨0x0C, 0x0C, .u64, .rw, 0, .any, false, 0⟩,
    ⟨0x0D, 0x0D, .u64, .rw, 0, .any, false, 0⟩,
    ⟨0x0E, 0x0E, .f32, .rw, 0, .f32 0x00000000 0x4CBEBC20, false, 0⟩,
    ⟨0x0F, 0x0F, .u8, .rw, 0, .nat 0 31, false, 0⟩,
    ⟨0x10, 0x10, .u8, .wo, 0, .enum 1 3, false, 0⟩,
    ⟨0x11, 0x11, .f32, .rw, 1101004800, .f32 0xC2200000 0x42C80000, false, 0⟩]⟩

/-- PathAcct: 0x4080, 16 indices. -/
def blk4080 : Block := ⟨0x4080, 16, 0x08,
  [⟨0x01, 0x01, .u64, .ro, 0, .any, false, 0⟩,
    ⟨0x02, 0x02, .u64, .ro, 0, .any, false, 0⟩,
    ⟨0x03, 0x03, .u64, .ro, 0, .any, false, 0⟩,
    ⟨0x04, 0x04, .u64, .ro, 0, .any, false, 0⟩,
    ⟨0x05, 0x05, .u64, .ro, 0, .any, false, 0⟩,
    ⟨0x06, 0x06, .u64, .ro, 0, .any, false, 0⟩,
    ⟨0x07, 0x07, .i64, .ro, 0, .any, false, 0⟩,
    ⟨0x08, 0x08, .u32, .ro, 0, .any, false, 0⟩]⟩

/-- Archive: 0x4090, 1 index. -/
def blk4090 : Block := ⟨0x4090, 1, 0x05,
  [⟨0x01, 0x01, .u64, .ro, 0, .any, false, 0⟩,
    ⟨0x02, 0x02, .u64, .ro, 0, .any, false, 0⟩,
    ⟨0x03, 0x03, .u64, .rw, 0, .any, false, 0⟩,
    ⟨0x04, 0x04, .domain, .ro, 0, .any, false, 0⟩,
    ⟨0x05, 0x05, .domain, .ro, 0, .any, false, 0⟩]⟩

/-- Ckpt: 0x40A0, 1 index. -/
def blk40A0 : Block := ⟨0x40A0, 1, 0x05,
  [⟨0x01, 0x01, .f32, .rw, 1114636288, .f32 0x41200000 0x45610000, true, 0⟩,
    ⟨0x02, 0x02, .u32, .ro, 0, .any, false, 0⟩,
    ⟨0x03, 0x03, .u64, .ro, 0, .any, false, 0⟩,
    ⟨0x04, 0x04, .f32, .ro, 0, .f32any, false, 0⟩,
    ⟨0x05, 0x05, .u8, .ro, 0, .any, false, 0⟩]⟩

/-- Win: 0x4100, 8 indices. -/
def blk4100 : Block := ⟨0x4100, 8, 0x0C,
  [⟨0x01, 0x01, .u8, .rw, 0, .enum 0 2, false, 0⟩,
    ⟨0x02, 0x02, .u32, .rw, 0, .any, false, 0⟩,
    ⟨0x03, 0x03, .u8, .rw, 0, .nat 0 63, false, 0⟩,
    ⟨0x04, 0x04, .u16, .rw, 0, .any, false, 0⟩,
    ⟨0x05, 0x05, .bool, .ro, 0, .bool, false, 0⟩,
    ⟨0x06, 0x06, .domain, .ro, 0, .any, false, 0⟩,
    ⟨0x07, 0x07, .f32, .ro, 0, .f32any, false, 0⟩,
    ⟨0x08, 0x08, .f32, .ro, 0, .f32any, false, 0⟩,
    ⟨0x09, 0x09, .u64, .ro, 0, .any, false, 0⟩,
    ⟨0x0A, 0x0A, .u64, .ro, 0, .any, false, 0⟩,
    ⟨0x0B, 0x0B, .f32, .ro, 0, .f32any, false, 0⟩,
    ⟨0x0C, 0x0C, .f32, .ro, 3212836864, .f32any, false, 0⟩]⟩

/-- Model: 0x4200, 1 index. -/
def blk4200 : Block := ⟨0x4200, 1, 0x0C,
  [⟨0x01, 0x01, .bool, .rwp, 0, .bool, true, 0⟩,
    ⟨0x02, 0x02, .u16, .rwp, 65535, .natOr 0 4095 0xFFFF, true, 2306⟩,
    ⟨0x03, 0x03, .u16, .rwp, 65535, .natOr 0 4095 0xFFFF, true, 2306⟩,
    ⟨0x04, 0x04, .u16, .rwp, 65535, .natOr 0 4095 0xFFFF, true, 2306⟩,
    ⟨0x05, 0x05, .f32, .rw, 1204151936, .f32 0x47435000 0x47D6D800, true, 0⟩,
    ⟨0x06, 0x06, .u8, .ro, 4, .nat 0 4, false, 0⟩,
    ⟨0x07, 0x07, .f32, .ro, 0, .f32any, false, 0⟩,
    ⟨0x08, 0x08, .u32, .ro, 0, .any, false, 0⟩,
    ⟨0x09, 0x09, .u32, .ro, 0, .any, false, 0⟩,
    ⟨0x0A, 0x0A, .u32, .ro, 0, .any, false, 0⟩,
    ⟨0x0B, 0x0B, .f32, .ro, 0, .f32any, false, 0⟩,
    ⟨0x0C, 0x0C, .bool, .ro, 0, .bool, false, 0⟩]⟩

/-- Zone: 0x4210, 64 indices. -/
def blk4210 : Block := ⟨0x4210, 64, 0x11,
  [⟨0x01, 0x01, .bool, .rwp, 0, .bool, true, 0⟩,
    ⟨0x02, 0x02, .u8, .rwp, 0, .nat 0 15, true, 0⟩,
    ⟨0x03, 0x03, .f32, .ro, 0, .f32any, false, 0⟩,
    ⟨0x04, 0x04, .f32, .ro, 0, .f32any, false, 0⟩,
    ⟨0x05, 0x05, .f32, .ro, 0, .f32any, false, 0⟩,
    ⟨0x06, 0x06, .u32, .rwp, 0, .any, true, 0⟩,
    ⟨0x07, 0x07, .u32, .rwp, 0, .any, true, 0⟩,
    ⟨0x08, 0x08, .u16, .rwp, 65535, .natOr 0 4095 0xFFFF, true, 2322⟩,
    ⟨0x09, 0x09, .u16, .rwp, 65535, .natOr 0 4095 0xFFFF, true, 2322⟩,
    ⟨0x0A, 0x0A, .u8, .rwp, 0, .enum 0 3, true, 0⟩,
    ⟨0x0B, 0x0B, .u16, .rwp, 65535, .natOr 0 4095 0xFFFF, true, 2322⟩,
    ⟨0x0C, 0x0C, .f32, .rw, 1101004800, .f32 0xC2200000 0x43480000, true, 0⟩,
    ⟨0x0D, 0x0D, .f32, .rw, 1058642330, .f32 0x00000000 0x3F800000, true, 0⟩,
    ⟨0x0E, 0x0E, .f32, .rw, 0, .f32 0x00000000 0x447A0000, true, 0⟩,
    ⟨0x0F, 0x0F, .bool, .rwp, 0, .bool, true, 0⟩,
    ⟨0x10, 0x10, .u16, .ro, 0, .any, false, 0⟩,
    ⟨0x11, 0x11, .f32, .ro, 0, .f32any, false, 0⟩]⟩

/-- Grain: 0x4260, 32 indices. -/
def blk4260 : Block := ⟨0x4260, 32, 0x15,
  [⟨0x01, 0x01, .str, .rw, 0, .len 0 32, true, 0⟩,
    ⟨0x02, 0x02, .f32, .rw, 1144258560, .f32 0x43960000 0x447A0000, true, 0⟩,
    ⟨0x03, 0x03, .u8, .rw, 3, .enum 0 3, true, 0⟩,
    ⟨0x04, 0x04, .f32, .rw, 1096810496, .f32any, true, 0⟩,
    ⟨0x05, 0x05, .f32, .rw, 3178611343, .f32any, true, 0⟩,
    ⟨0x06, 0x06, .f32, .rw, 1077936128, .f32nz, true, 0⟩,
    ⟨0x07, 0x07, .u8, .rw, 0, .enum 0 1, true, 0⟩,
    ⟨0x08, 0x08, .f32, .rw, 1075838976, .f32 0x3089705F 0x49742400, true, 0⟩,
    ⟨0x09, 0x09, .f32, .rw, 1161527296, .f32 0x00000000 0x469C4000, true, 0⟩,
    ⟨0x0A, 0x0A, .f32, .rw, 1056964608, .f32 0x00000000 0x40000000, true, 0⟩,
    ⟨0x0B, 0x0B, .f32, .rw, 1065353216, .f32 0x3E99999A 0x40000000, true, 0⟩,
    ⟨0x0C, 0x0C, .f32, .rw, 1065353216, .f32 0x3A83126F 0x41200000, true, 0⟩,
    ⟨0x0D, 0x0D, .f32, .rw, 1153548288, .f32 0x43FA0000 0x457A0000, true, 0⟩,
    ⟨0x0E, 0x0E, .f32, .rw, 1056964608, .f32 0x00000000 0x40A00000, true, 0⟩,
    ⟨0x0F, 0x0F, .f32, .rw, 1101004800, .f32 0x00000000 0x42C80000, true, 0⟩,
    ⟨0x10, 0x10, .f32, .rw, 1008981770, .f32 0x3727C5AC 0x3F800000, true, 0⟩,
    ⟨0x11, 0x11, .f32, .rw, 1056964608, .f32 0x00000000 0x40000000, true, 0⟩,
    ⟨0x12, 0x12, .f32, .rw, 1114636288, .f32 0x00000000 0x43160000, true, 0⟩,
    ⟨0x13, 0x13, .f32, .rw, 1112014848, .f32 0x00000000 0x43160000, true, 0⟩,
    ⟨0x14, 0x14, .f32, .rw, 1142292480, .f32 0x3F800000 0x47A8C000, true, 0⟩] ++
   [⟨0x15, 0x15, .f32, .rw, 1065353216, .f32 0x00000000 0x42C80000, true, 0⟩]⟩

/-- Eval: 0x4280, 1 index. -/
def blk4280 : Block := ⟨0x4280, 1, 0x0C,
  [⟨0x01, 0x01, .f32, .rw, 1101004800, .f32 0xC2200000 0x43480000, false, 0⟩,
    ⟨0x02, 0x02, .f32, .rw, 1058642330, .f32any, false, 0⟩,
    ⟨0x03, 0x03, .u8, .rw, 0, .enum 0 2, false, 0⟩,
    ⟨0x04, 0x04, .f32, .rw, 1204151936, .f32 0x47435000 0x47D6D800, false, 0⟩,
    ⟨0x05, 0x05, .u8, .rw, 0, .nat 0 31, false, 0⟩,
    ⟨0x06, 0x06, .f32, .ro, 0, .f32any, false, 0⟩,
    ⟨0x07, 0x07, .f32, .ro, 0, .f32any, false, 0⟩,
    ⟨0x08, 0x08, .f32, .ro, 0, .f32any, false, 0⟩,
    ⟨0x09, 0x09, .f32, .ro, 0, .f32any, false, 0⟩,
    ⟨0x0A, 0x0A, .f32, .ro, 0, .f32any, false, 0⟩,
    ⟨0x0B, 0x0B, .f32, .ro, 0, .f32any, false, 0⟩,
    ⟨0x0C, 0x0C, .f32, .ro, 0, .f32any, false, 0⟩]⟩

/-- Pmodel: 0x4290, 16 indices. -/
def blk4290 : Block := ⟨0x4290, 16, 0x0E,
  [⟨0x01, 0x01, .u8, .rwp, 0, .enum 0 1, true, 0⟩,
    ⟨0x02, 0x02, .f32, .rwp, 1065353216, .f32 0x3DCCCCCD 0x41200000, true, 0⟩,
    ⟨0x03, 0x03, .u16, .rwp, 65535, .natOr 0 4095 0xFFFF, true, 2322⟩,
    ⟨0x04, 0x04, .f32, .rw, 1097859072, .f32 0xC2200000 0x42700000, true, 0⟩,
    ⟨0x05, 0x05, .u32, .rw, 0, .any, true, 0⟩,
    ⟨0x06, 0x06, .u32, .rw, 0, .any, true, 0⟩,
    ⟨0x07, 0x07, .f32, .rw, 1065353216, .f32 0x3A83126F 0x48F42400, true, 0⟩,
    ⟨0x08, 0x08, .f32, .ro, 0, .f32any, false, 0⟩,
    ⟨0x09, 0x09, .f32, .ro, 0, .f32any, false, 0⟩,
    ⟨0x0A, 0x0A, .f32, .ro, 0, .f32any, false, 0⟩,
    ⟨0x0B, 0x0B, .f32, .ro, 0, .f32any, false, 0⟩,
    ⟨0x0C, 0x0C, .u16, .ro, 0, .any, false, 0⟩,
    ⟨0x0D, 0x0D, .u64, .ro, 0, .any, false, 0⟩,
    ⟨0x0E, 0x0E, .f32, .ro, 0, .f32any, false, 0⟩]⟩

/-- Fe: 0x4300, 1 index. -/
def blk4300 : Block := ⟨0x4300, 1, 0x06,
  [⟨0x01, 0x01, .u8, .rwp, 16, .nat 1 16, true, 0⟩,
    ⟨0x02, 0x02, .u16, .ro, 0, .any, false, 0⟩,
    ⟨0x03, 0x03, .f32, .ro, 0, .f32any, false, 0⟩,
    ⟨0x04, 0x04, .f32, .ro, 0, .f32any, false, 0⟩,
    ⟨0x05, 0x05, .f32, .ro, 1045220557, .f32any, false, 0⟩,
    ⟨0x06, 0x06, .u32, .ro, 0, .any, false, 0⟩]⟩

/-- Freq: 0x4301, 1 index. -/
def blk4301 : Block := ⟨0x4301, 1, 0x10,
  [⟨0x01, 0x10, .f32, .rwp, 0, .f32 0x4B189680 0x4D6E6B28, true, 0⟩]⟩

/-- FreqTrim: 0x4302, 1 index. -/
def blk4302 : Block := ⟨0x4302, 1, 0x10,
  [⟨0x01, 0x10, .f32, .const, 0, .f32any, false, 0⟩]⟩

/-- GainTrim: 0x4303, 1 index. -/
def blk4303 : Block := ⟨0x4303, 1, 0x10,
  [⟨0x01, 0x10, .f32, .const, 0, .f32any, false, 0⟩]⟩

/-- Cell: 0x4310, 4 indices. -/
def blk4310 : Block := ⟨0x4310, 4, 0x15,
  [⟨0x01, 0x01, .bool, .rwp, 0, .bool, true, 0⟩,
    ⟨0x02, 0x02, .f32, .rwp, 1045220557, .f32 0x3D4CCCCD 0x3F800000, true, 0⟩,
    ⟨0x03, 0x03, .u8, .rwp, 255, .natOr 0 31 0xFF, true, 0⟩,
    ⟨0x04, 0x04, .u8, .rw, 0, .nat 0 31, true, 0⟩,
    ⟨0x05, 0x05, .u16, .rwp, 65535, .natOr 0 4095 0xFFFF, true, 2322⟩,
    ⟨0x06, 0x06, .f32, .rw, 1101004800, .f32 0xC2200000 0x42A00000, true, 0⟩,
    ⟨0x07, 0x07, .f32, .rw, 1067869798, .f32 0x3F800000 0x40400000, true, 0⟩,
    ⟨0x08, 0x08, .f32, .ro, 0, .f32any, false, 0⟩,
    ⟨0x09, 0x09, .f32, .ro, 0, .f32any, false, 0⟩,
    ⟨0x0A, 0x0A, .f32, .ro, 0, .f32any, false, 0⟩,
    ⟨0x0B, 0x0B, .f32, .ro, 0, .f32any, false, 0⟩,
    ⟨0x0C, 0x0C, .f32, .ro, 0, .f32any, false, 0⟩,
    ⟨0x0D, 0x0D, .u16, .ro, 0, .any, false, 0⟩,
    ⟨0x0E, 0x0E, .u64, .ro, 0, .any, false, 0⟩,
    ⟨0x0F, 0x0F, .u32, .ro, 0, .any, false, 0⟩,
    ⟨0x10, 0x10, .u8, .wo, 0, .enum 1 4, false, 0⟩,
    ⟨0x11, 0x11, .f32, .rw, 1073951539, .f32 0x3FC00000 0x41200000, true, 0⟩,
    ⟨0x12, 0x12, .u8, .ro, 0, .any, false, 0⟩,
    ⟨0x13, 0x13, .f32, .ro, 0, .f32any, false, 0⟩,
    ⟨0x14, 0x14, .u32, .ro, 0, .any, false, 0⟩] ++
   [⟨0x15, 0x15, .u32, .ro, 0, .any, false, 0⟩]⟩

/-- EpsR: 0x4320, 4 indices. -/
def blk4320 : Block := ⟨0x4320, 4, 0x10,
  [⟨0x01, 0x10, .f32, .ro, 0, .f32any, false, 0⟩]⟩

/-- EpsI: 0x4324, 4 indices. -/
def blk4324 : Block := ⟨0x4324, 4, 0x10,
  [⟨0x01, 0x10, .f32, .ro, 0, .f32any, false, 0⟩]⟩

/-- LossF: 0x4328, 4 indices. -/
def blk4328 : Block := ⟨0x4328, 4, 0x10,
  [⟨0x01, 0x10, .f32, .ro, 0, .f32any, false, 0⟩]⟩

/-- ReflF: 0x432C, 4 indices. -/
def blk432C : Block := ⟨0x432C, 4, 0x10,
  [⟨0x01, 0x10, .f32, .ro, 0, .f32any, false, 0⟩]⟩

/-- CalData: 0x4340, 4 indices. -/
def blk4340 : Block := ⟨0x4340, 4, 0x01,
  [⟨0x01, 0x01, .domain, .rwp, 0, .len 268 268, true, 0⟩]⟩

/-- Coef: 0x4380, 32 indices. -/
def blk4380 : Block := ⟨0x4380, 32, 0x08,
  [⟨0x01, 0x01, .u16, .rw, 512, .any, true, 0⟩,
    ⟨0x02, 0x02, .f32, .rw, 1082130432, .f32 0x3DCCCCCD 0x42C80000, true, 0⟩,
    ⟨0x03, 0x03, .f32, .rw, 1073741824, .f32any, true, 0⟩,
    ⟨0x04, 0x04, .f32, .rw, 1125515264, .f32any, true, 0⟩,
    ⟨0x05, 0x05, .f32, .rw, 3175926989, .f32any, true, 0⟩,
    ⟨0x06, 0x06, .f32, .rw, 0, .f32any, true, 0⟩,
    ⟨0x07, 0x07, .f32, .rw, 1103101952, .f32 0xC2200000 0x42A00000, true, 0⟩,
    ⟨0x08, 0x08, .str, .rw, 0, .len 0 32, true, 0⟩]⟩

/-- Entry: 0x5000, 1024 indices. -/
def blk5000 : Block := ⟨0x5000, 1024, 0x0C,
  [⟨0x01, 0x01, .bool, .rw, 0, .bool, true, 0⟩,
    ⟨0x02, 0x02, .u8, .rwp, 9, .enum 0 9, true, 0⟩,
    ⟨0x03, 0x03, .u64, .rw, 0, .any, true, 0⟩,
    ⟨0x04, 0x04, .u64, .rwp, 0, .any, true, 0⟩,
    ⟨0x05, 0x05, .u8, .rwp, 0, .enum 0 7, true, 0⟩,
    ⟨0x06, 0x06, .u16, .rwp, 0, .any, true, 0⟩,
    ⟨0x07, 0x07, .u32, .rwp, 0, .any, true, 0⟩,
    ⟨0x08, 0x08, .u16, .ro, 0, .any, false, 0⟩,
    ⟨0x09, 0x09, .u32, .ro, 0, .any, false, 0⟩,
    ⟨0x0A, 0x0A, .u32, .ro, 0, .any, false, 0⟩,
    ⟨0x0B, 0x0B, .u32, .ro, 0, .any, false, 0⟩,
    ⟨0x0C, 0x0C, .u64, .ro, 0, .any, false, 0⟩]⟩

/-- Gc: 0x5400, 8 indices. -/
def blk5400 : Block := ⟨0x5400, 8, 0x0D,
  [⟨0x01, 0x01, .bool, .rwp, 0, .bool, true, 0⟩,
    ⟨0x02, 0x02, .u8, .rwp, 0, .enum 0 1, true, 0⟩,
    ⟨0x03, 0x03, .u8, .rwp, 0, .enum 0 2, true, 0⟩,
    ⟨0x04, 0x04, .u8, .rwp, 0, .enum 0 1, true, 0⟩,
    ⟨0x05, 0x05, .f32, .rwp, 897988541, .f32 0x33D6BF95 0x37A7C5AC, true, 0⟩,
    ⟨0x06, 0x06, .f32, .rwp, 1008981770, .f32 0x358637BD 0x447A0000, true, 0⟩,
    ⟨0x07, 0x07, .u64, .ro, 0, .nat 0 2, false, 0⟩,
    ⟨0x08, 0x08, .f32, .rw, 1073741824, .f32 0x3C23D70A 0x42700000, true, 0⟩,
    ⟨0x09, 0x09, .f32, .ro, 0, .f32any, false, 0⟩,
    ⟨0x0A, 0x0A, .f32, .ro, 0, .f32any, false, 0⟩,
    ⟨0x0B, 0x0B, .u16, .ro, 0, .any, false, 0⟩,
    ⟨0x0C, 0x0C, .u32, .ro, 0, .any, false, 0⟩,
    ⟨0x0D, 0x0D, .u32, .ro, 0, .any, false, 0⟩]⟩

/-- Mp: 0x5410, 1 index. -/
def blk5410 : Block := ⟨0x5410, 1, 0x07,
  [⟨0x01, 0x01, .bool, .rwp, 0, .bool, true, 0⟩,
    ⟨0x02, 0x02, .f32, .ro, 0, .f32any, false, 0⟩,
    ⟨0x03, 0x03, .u16, .ro, 0, .nat 0 1023, false, 0⟩,
    ⟨0x04, 0x04, .u64, .ro, 0, .nat 0 2, false, 0⟩,
    ⟨0x05, 0x05, .u16, .ro, 0, .any, false, 0⟩,
    ⟨0x06, 0x06, .i16, .rw, 0, .int (-512) 511, true, 0⟩,
    ⟨0x07, 0x07, .u32, .ro, 0, .any, false, 0⟩]⟩

/-- Wc: 0x5420, 1 index. -/
def blk5420 : Block := ⟨0x5420, 1, 0x07,
  [⟨0x01, 0x01, .u64, .rw, 0, .any, false, 0⟩,
    ⟨0x02, 0x02, .u8, .rwp, 0, .enum 0 2, true, 0⟩,
    ⟨0x03, 0x03, .u16, .ro, 0, .any, false, 0⟩,
    ⟨0x04, 0x04, .i32, .ro, 0, .any, false, 0⟩,
    ⟨0x05, 0x05, .f32, .ro, 0, .f32any, false, 0⟩,
    ⟨0x06, 0x06, .f32, .rw, 1092616192, .f32 0x3F800000 0x44160000, true, 0⟩,
    ⟨0x07, 0x07, .u32, .rw, 100000, .nat 1000 10000000, true, 0⟩]⟩

/-- Group: 0x6000, 4 indices. -/
def blk6000 : Block := ⟨0x6000, 4, 0x07,
  [⟨0x01, 0x01, .u8, .const, 0, .any, false, 0⟩,
    ⟨0x02, 0x02, .f32, .ro, 0, .f32any, false, 0⟩,
    ⟨0x03, 0x03, .u16, .ro, 0, .any, false, 0⟩,
    ⟨0x04, 0x04, .bool, .rw, 0, .bool, true, 0⟩,
    ⟨0x05, 0x05, .u8, .wo, 0, .enum 1 1, false, 0⟩,
    ⟨0x06, 0x06, .f32, .ro, 0, .f32any, false, 0⟩,
    ⟨0x07, 0x07, .u32, .ro, 0, .any, false, 0⟩]⟩

/-- Silence: 0x6008, 1 index. -/
def blk6008 : Block := ⟨0x6008, 1, 0x05,
  [⟨0x01, 0x01, .f32, .rwp, 1036831949, .f32 0x3C23D70A 0x40000000, true, 0⟩,
    ⟨0x02, 0x02, .f32, .rwp, 1092616192, .f32 0x3C23D70A 0x44160000, true, 0⟩,
    ⟨0x03, 0x03, .u8, .ro, 0, .any, false, 0⟩,
    ⟨0x04, 0x04, .u32, .ro, 0, .any, false, 0⟩,
    ⟨0x05, 0x05, .bool, .ro, 0, .bool, false, 0⟩]⟩

/-- Pin: 0x6010, 32 indices. -/
def blk6010 : Block := ⟨0x6010, 32, 0x12,
  [⟨0x01, 0x01, .u8, .rwp, 0, .enum 0 2, true, 0⟩,
    ⟨0x02, 0x02, .u8, .rwp, 1, .enum 0 1, true, 0⟩,
    ⟨0x03, 0x03, .f32, .rwp, 994352038, .f32 0x36A7C5AC 0x3DCCCCCD, true, 0⟩,
    ⟨0x04, 0x04, .bool, .rwp, 0, .bool, true, 0⟩,
    ⟨0x05, 0x05, .u8, .rw, 0, .enum 0 3, true, 0⟩,
    ⟨0x06, 0x06, .f32, .rw, 1065353216, .f32 0x3DCCCCCD 0x41200000, true, 0⟩,
    ⟨0x07, 0x07, .f32, .rw, 1084227584, .f32 0x3DCCCCCD 0x42700000, true, 0⟩,
    ⟨0x08, 0x08, .u8, .rwp, 0, .enum 0 1, true, 0⟩,
    ⟨0x09, 0x09, .u8, .rwp, 0, .enum 0 2, true, 0⟩,
    ⟨0x0A, 0x0A, .u8, .rw, 3, .nat 0 10, true, 0⟩,
    ⟨0x0B, 0x0B, .bool, .rw, 0, .bool, true, 0⟩,
    ⟨0x0C, 0x0C, .u16, .ro, 0, .any, false, 0⟩,
    ⟨0x0D, 0x0D, .u32, .ro, 0, .any, false, 0⟩,
    ⟨0x0E, 0x0E, .f32, .ro, 0, .f32any, false, 0⟩,
    ⟨0x0F, 0x0F, .f32, .ro, 0, .f32any, false, 0⟩,
    ⟨0x10, 0x10, .u32, .ro, 0, .any, false, 0⟩,
    ⟨0x11, 0x11, .u8, .wo, 0, .enum 1 1, false, 0⟩,
    ⟨0x12, 0x12, .str, .rw, 0, .len 0 32, true, 0⟩]⟩

/-- Ai: 0x6110, 16 indices. -/
def blk6110 : Block := ⟨0x6110, 16, 0x09,
  [⟨0x01, 0x01, .bool, .rwp, 0, .bool, true, 0⟩,
    ⟨0x02, 0x02, .u8, .rwp, 0, .enum 0 3, true, 0⟩,
    ⟨0x03, 0x03, .u8, .rwp, 2, .enum 0 3, true, 0⟩,
    ⟨0x04, 0x04, .bool, .rwp, 0, .bool, true, 0⟩,
    ⟨0x05, 0x05, .f32, .rw, 1036831949, .f32 0x00000000 0x41200000, true, 0⟩,
    ⟨0x06, 0x06, .f32, .ro, 0, .f32any, false, 0⟩,
    ⟨0x07, 0x07, .u16, .ro, 0, .any, false, 0⟩,
    ⟨0x08, 0x08, .f32, .ro, 0, .f32any, false, 0⟩,
    ⟨0x09, 0x09, .str, .rw, 0, .len 0 32, true, 0⟩]⟩

/-- Ao: 0x6130, 8 indices. -/
def blk6130 : Block := ⟨0x6130, 8, 0x10,
  [⟨0x01, 0x01, .bool, .rwp, 0, .bool, true, 0⟩,
    ⟨0x02, 0x02, .u8, .rwp, 0, .enum 0 2, true, 0⟩,
    ⟨0x03, 0x03, .f32, .rwp, 998445679, .f32 0x00000000 0x3CC49BA6, true, 0⟩,
    ⟨0x04, 0x04, .u8, .rwp, 0, .enum 0 1, true, 0⟩,
    ⟨0x05, 0x05, .f32, .rwp, 998445679, .f32 0x00000000 0x3CC49BA6, true, 0⟩,
    ⟨0x06, 0x06, .f32, .ro, 0, .f32any, false, 0⟩,
    ⟨0x07, 0x07, .f32, .ro, 0, .f32any, false, 0⟩,
    ⟨0x08, 0x08, .u16, .ro, 0, .any, false, 0⟩,
    ⟨0x09, 0x09, .f32, .ro, 0, .f32any, false, 0⟩,
    ⟨0x0A, 0x0A, .f32, .rwp, 1065353216, .f32 0x3F7AE148 0x3F828F5C, true, 0⟩,
    ⟨0x0B, 0x0B, .f32, .rwp, 0, .f32 0xB951B717 0x3951B717, true, 0⟩,
    ⟨0x0C, 0x0C, .u8, .wo, 0, .enum 1 4, false, 0⟩,
    ⟨0x0D, 0x0D, .f32, .rw, 0, .f32 0x00000000 0x3CC49BA6, false, 0⟩,
    ⟨0x0E, 0x0E, .u8, .ro, 0, .any, false, 0⟩,
    ⟨0x0F, 0x0F, .u32, .ro, 0, .any, false, 0⟩,
    ⟨0x10, 0x10, .str, .rw, 0, .len 0 32, true, 0⟩]⟩

/-- Rt: 0x6140, 8 indices. -/
def blk6140 : Block := ⟨0x6140, 8, 0x0A,
  [⟨0x01, 0x01, .bool, .rwp, 0, .bool, true, 0⟩,
    ⟨0x02, 0x02, .u8, .rwp, 0, .enum 0 1, true, 0⟩,
    ⟨0x03, 0x03, .u8, .rwp, 0, .enum 0 1, true, 0⟩,
    ⟨0x04, 0x04, .u8, .rwp, 2, .enum 1 3, true, 0⟩,
    ⟨0x05, 0x05, .f32, .ro, 0, .f32any, false, 0⟩,
    ⟨0x06, 0x06, .f32, .ro, 0, .f32any, false, 0⟩,
    ⟨0x07, 0x07, .f32, .ro, 0, .f32any, false, 0⟩,
    ⟨0x08, 0x08, .u16, .ro, 0, .any, false, 0⟩,
    ⟨0x09, 0x09, .f32, .rw, 0, .f32 0xC1200000 0x41200000, true, 0⟩,
    ⟨0x0A, 0x0A, .str, .rw, 0, .len 0 32, true, 0⟩]⟩

/-- Fan: 0x6210, 8 indices. -/
def blk6210 : Block := ⟨0x6210, 8, 0x18,
  [⟨0x01, 0x01, .bool, .rwp, 0, .bool, true, 0⟩,
    ⟨0x02, 0x02, .u8, .rwp, 0, .enum 0 1, true, 0⟩,
    ⟨0x03, 0x03, .u8, .rwp, 1, .enum 1 2, true, 0⟩,
    ⟨0x04, 0x04, .u8, .rwp, 2, .nat 0 4, true, 0⟩,
    ⟨0x05, 0x05, .f32, .rw, 1084227584, .f32 0x40400000 0x41C00000, true, 0⟩,
    ⟨0x06, 0x06, .f32, .rw, 1103101952, .f32 0x40400000 0x41C00000, true, 0⟩,
    ⟨0x07, 0x07, .f32, .rw, 1133903872, .f32 0x41200000 0x469C4000, true, 0⟩,
    ⟨0x08, 0x08, .f32, .rw, 990057071, .f32 0x00000000 0x3F800000, true, 0⟩,
    ⟨0x09, 0x09, .f32, .rw, 1000593162, .f32 0x00000000 0x41200000, true, 0⟩,
    ⟨0x0A, 0x0A, .f32, .rwp, 0, .f32any, true, 0⟩,
    ⟨0x0B, 0x0B, .u8, .rwp, 0, .enum 0 1, true, 0⟩,
    ⟨0x0C, 0x0C, .f32, .rwp, 0, .f32any, true, 0⟩,
    ⟨0x0D, 0x0D, .f32, .rw, 1048576000, .f32 0x3D4CCCCD 0x3F800000, true, 0⟩,
    ⟨0x0E, 0x0E, .f32, .ro, 0, .f32any, false, 0⟩,
    ⟨0x0F, 0x0F, .f32, .ro, 0, .f32any, false, 0⟩,
    ⟨0x10, 0x10, .f32, .ro, 0, .f32any, false, 0⟩,
    ⟨0x11, 0x11, .f32, .ro, 0, .f32any, false, 0⟩,
    ⟨0x12, 0x12, .f32, .ro, 0, .f32any, false, 0⟩,
    ⟨0x13, 0x13, .u16, .ro, 0, .any, false, 0⟩,
    ⟨0x14, 0x14, .u8, .ro, 0, .any, false, 0⟩] ++
   [⟨0x15, 0x15, .u8, .wo, 0, .enum 1 1, false, 0⟩,
    ⟨0x16, 0x16, .u32, .ro, 0, .any, false, 0⟩,
    ⟨0x17, 0x17, .u32, .ro, 0, .any, false, 0⟩,
    ⟨0x18, 0x18, .str, .rw, 0, .len 0 32, true, 0⟩]⟩

/-- Seq: 0x6300, 1 index. -/
def blk6300 : Block := ⟨0x6300, 1, 0x03,
  [⟨0x01, 0x01, .bool, .ro, 0, .bool, false, 0⟩,
    ⟨0x02, 0x02, .u32, .ro, 0, .any, false, 0⟩,
    ⟨0x03, 0x03, .f32, .ro, 0, .f32any, false, 0⟩]⟩

/-- Dryer: 0x6310, 4 indices. -/
def blk6310 : Block := ⟨0x6310, 4, 0x21,
  [⟨0x01, 0x01, .bool, .rwp, 0, .bool, true, 0⟩,
    ⟨0x02, 0x02, .u8, .rwp, 0, .enum 0 1, true, 0⟩,
    ⟨0x03, 0x03, .u16, .rwp, 65535, .natOr 0 511 0xFFFF, true, 0⟩,
    ⟨0x04, 0x04, .u16, .rwp, 65535, .natOr 0 511 0xFFFF, true, 0⟩,
    ⟨0x05, 0x05, .f32, .rw, 0, .f32any, true, 0⟩,
    ⟨0x06, 0x06, .u16, .rwp, 65535, .natOr 0 4095 0xFFFF, true, 258⟩,
    ⟨0x07, 0x07, .u16, .rwp, 65535, .natOr 0 4095 0xFFFF, true, 258⟩,
    ⟨0x08, 0x08, .u16, .rwp, 65535, .natOr 0 4095 0xFFFF, true, 258⟩,
    ⟨0x09, 0x09, .u16, .rwp, 65535, .natOr 0 4095 0xFFFF, true, 4⟩,
    ⟨0x0A, 0x0A, .u16, .rwp, 65535, .natOr 0 4095 0xFFFF, true, 258⟩,
    ⟨0x0B, 0x0B, .u16, .rwp, 65535, .natOr 0 4095 0xFFFF, true, 4⟩,
    ⟨0x0C, 0x0C, .u8, .rwp, 255, .natOr 0 7 0xFF, true, 0⟩,
    ⟨0x0D, 0x0D, .f32, .rw, 1073741824, .f32any, true, 0⟩,
    ⟨0x0E, 0x0E, .f32, .rw, 1155596288, .f32 0x41200000 0x47A8C000, true, 0⟩,
    ⟨0x0F, 0x0F, .f32, .rw, 1106247680, .f32 0x3F800000 0x44160000, true, 0⟩,
    ⟨0x10, 0x10, .f32, .rw, 1073741824, .f32 0x3DCCCCCD 0x42700000, true, 0⟩,
    ⟨0x11, 0x11, .f32, .rw, 1077936128, .f32 0x3DCCCCCD 0x42480000, true, 0⟩,
    ⟨0x12, 0x12, .f32, .rw, 1114636288, .f32 0x00000000 0x45610000, true, 0⟩,
    ⟨0x13, 0x13, .f32, .rw, 1123024896, .f32 0x00000000 0x43960000, true, 0⟩,
    ⟨0x14, 0x14, .f32, .rw, 1142292480, .f32 0x00000000 0x45E10000, true, 0⟩] ++
   [⟨0x15, 0x15, .f32, .rw, 1106247680, .f32 0x00000000 0x44160000, true, 0⟩,
    ⟨0x16, 0x16, .f32, .rw, 1163984896, .f32 0x41200000 0x47A8C000, true, 0⟩,
    ⟨0x17, 0x17, .f32, .rw, 1114636288, .f32 0x3F800000 0x45610000, true, 0⟩,
    ⟨0x18, 0x18, .u16, .rwp, 65535, .natOr 0 4095 0xFFFF, true, 192⟩,
    ⟨0x19, 0x19, .f32, .rw, 1097859072, .f32 0x00000000 0x42440000, true, 0⟩,
    ⟨0x1A, 0x1A, .bool, .rw, 0, .bool, true, 0⟩,
    ⟨0x1B, 0x1B, .u8, .wo, 0, .enum 1 4, false, 0⟩,
    ⟨0x1C, 0x1C, .u8, .ro, 0, .nat 0 6, false, 0⟩,
    ⟨0x1D, 0x1D, .f32, .ro, 0, .f32any, false, 0⟩,
    ⟨0x1E, 0x1E, .u16, .ro, 0, .any, false, 0⟩,
    ⟨0x1F, 0x1F, .u16, .ro, 0, .any, false, 0⟩,
    ⟨0x20, 0x20, .u64, .ro, 0, .any, false, 0⟩,
    ⟨0x21, 0x21, .str, .rw, 0, .len 0 32, true, 0⟩]⟩

/-- Conv: 0x6320, 32 indices. -/
def blk6320 : Block := ⟨0x6320, 32, 0x0E,
  [⟨0x01, 0x01, .bool, .rwp, 0, .bool, true, 0⟩,
    ⟨0x02, 0x02, .u16, .rwp, 65535, .natOr 0 4095 0xFFFF, true, 4⟩,
    ⟨0x03, 0x03, .u16, .rwp, 65535, .natOr 0 4095 0xFFFF, true, 258⟩,
    ⟨0x04, 0x04, .f32, .rw, 1065353216, .f32 0x3C23D70A 0x47C35000, true, 0⟩,
    ⟨0x05, 0x05, .f32, .rw, 1084227584, .f32 0x3DCCCCCD 0x42F00000, true, 0⟩,
    ⟨0x06, 0x06, .f32, .rw, 1073741824, .f32 0x3DCCCCCD 0x42700000, true, 0⟩,
    ⟨0x07, 0x07, .u16, .rwp, 65535, .natOr 0 4095 0xFFFF, true, 258⟩,
    ⟨0x08, 0x08, .f32, .rw, 1065353216, .f32 0x00000000 0x42700000, true, 0⟩,
    ⟨0x09, 0x09, .f32, .rw, 1077936128, .f32 0x00000000 0x44160000, true, 0⟩,
    ⟨0x0A, 0x0A, .f32, .rw, 1101004800, .f32 0x00000000 0x45610000, true, 0⟩,
    ⟨0x0B, 0x0B, .u8, .ro, 0, .any, false, 0⟩,
    ⟨0x0C, 0x0C, .u8, .ro, 0, .any, false, 0⟩,
    ⟨0x0D, 0x0D, .f32, .ro, 0, .f32any, false, 0⟩,
    ⟨0x0E, 0x0E, .str, .rw, 0, .len 0 32, true, 0⟩]⟩

/-- Chain: 0x6340, 8 indices. -/
def blk6340 : Block := ⟨0x6340, 8, 0x27,
  [⟨0x01, 0x01, .bool, .rwp, 0, .bool, true, 0⟩,
    ⟨0x02, 0x02, .u8, .rwp, 0, .nat 0 32, true, 0⟩,
    ⟨0x03, 0x22, .u8, .rwp, 255, .natOr 0 31 0xFF, true, 0⟩,
    ⟨0x23, 0x23, .u8, .wo, 0, .enum 1 3, false, 0⟩,
    ⟨0x24, 0x24, .u8, .ro, 0, .any, false, 0⟩,
    ⟨0x25, 0x25, .u8, .ro, 255, .any, false, 0⟩,
    ⟨0x26, 0x26, .u64, .ro, 0, .any, false, 0⟩,
    ⟨0x27, 0x27, .str, .rw, 0, .len 0 32, true, 0⟩]⟩

/-- Aer: 0x6380, 64 indices. -/
def blk6380 : Block := ⟨0x6380, 64, 0x17,
  [⟨0x01, 0x01, .u8, .rw, 0, .enum 0 4, true, 0⟩,
    ⟨0x02, 0x02, .u16, .rwp, 65535, .natOr 0 4095 0xFFFF, true, 4⟩,
    ⟨0x03, 0x03, .u16, .rwp, 65535, .natOr 0 4095 0xFFFF, true, 258⟩,
    ⟨0x04, 0x04, .u16, .rwp, 65535, .natOr 0 4095 0xFFFF, true, 2322⟩,
    ⟨0x05, 0x05, .u8, .rw, 255, .natOr 0 31 0xFF, true, 0⟩,
    ⟨0x06, 0x06, .f32, .rw, 1096810496, .f32 0x40A00000 0x420C0000, true, 0⟩,
    ⟨0x07, 0x07, .f32, .rw, 1069547520, .f32 0x00000000 0x41200000, true, 0⟩,
    ⟨0x08, 0x08, .f32, .rw, 1084227584, .f32 0x00000000 0x41F00000, true, 0⟩,
    ⟨0x09, 0x09, .f32, .rw, 1065353216, .f32 0x00000000 0x41200000, true, 0⟩,
    ⟨0x0A, 0x0A, .f32, .rw, 1056964608, .f32 0x00000000 0x41200000, true, 0⟩,
    ⟨0x0B, 0x0B, .f32, .rw, 1073741824, .f32 0xC2200000 0x42200000, true, 0⟩,
    ⟨0x0C, 0x0C, .f32, .rw, 1142292480, .f32 0x00000000 0x47A8C000, true, 0⟩,
    ⟨0x0D, 0x0D, .f32, .rw, 1133903872, .f32 0x00000000 0x47A8C000, true, 0⟩,
    ⟨0x0E, 0x0E, .f32, .rw, 1155596288, .f32 0x00000000 0x47A8C000, true, 0⟩,
    ⟨0x0F, 0x0F, .f32, .rw, 1147207680, .f32 0x00000000 0x47A8C000, true, 0⟩,
    ⟨0x10, 0x10, .u8, .wo, 0, .enum 1 1, false, 0⟩,
    ⟨0x11, 0x11, .u8, .ro, 0, .any, false, 0⟩,
    ⟨0x12, 0x12, .u16, .ro, 0, .any, false, 0⟩,
    ⟨0x13, 0x13, .f32, .ro, 0, .f32any, false, 0⟩,
    ⟨0x14, 0x14, .f32, .ro, 0, .f32any, false, 0⟩] ++
   [⟨0x15, 0x15, .f32, .ro, 0, .f32any, false, 0⟩,
    ⟨0x16, 0x16, .f32, .ro, 0, .f32any, false, 0⟩,
    ⟨0x17, 0x17, .u32, .ro, 0, .any, false, 0⟩]⟩

/-- Bus: 0x7000, 4 indices. -/
def blk7000 : Block := ⟨0x7000, 4, 0x0C,
  [⟨0x01, 0x01, .bool, .rwp, 0, .bool, true, 0⟩,
    ⟨0x02, 0x02, .u8, .rw, 0, .enum 0 3, true, 0⟩,
    ⟨0x03, 0x03, .bool, .rwp, 1, .bool, true, 0⟩,
    ⟨0x04, 0x04, .u8, .rwp, 1, .enum 0 1, true, 0⟩,
    ⟨0x05, 0x05, .u8, .rw, 0, .enum 0 1, true, 0⟩,
    ⟨0x06, 0x06, .u8, .rw, 0, .enum 0 1, true, 0⟩,
    ⟨0x07, 0x07, .f32, .rw, 1065353216, .f32 0x3DCCCCCD 0x42700000, true, 0⟩,
    ⟨0x08, 0x08, .u8, .wo, 0, .enum 1 1, false, 0⟩,
    ⟨0x09, 0x09, .u32, .ro, 0, .any, false, 0⟩,
    ⟨0x0A, 0x0A, .u16, .ro, 0, .nat 0 256, false, 0⟩,
    ⟨0x0B, 0x0B, .u8, .ro, 0, .any, false, 0⟩,
    ⟨0x0C, 0x0C, .u8, .ro, 0, .nat 0 128, false, 0⟩]⟩

/-- BusTiming: 0x7010, 4 indices. -/
def blk7010 : Block := ⟨0x7010, 4, 0x0D,
  [⟨0x01, 0x01, .u16, .rwp, 1, .nat 1 512, true, 0⟩,
    ⟨0x02, 0x02, .u16, .rwp, 127, .nat 1 256, true, 0⟩,
    ⟨0x03, 0x03, .u8, .rwp, 32, .nat 1 128, true, 0⟩,
    ⟨0x04, 0x04, .u8, .rwp, 32, .nat 1 128, true, 0⟩,
    ⟨0x05, 0x05, .u8, .rwp, 1, .nat 1 32, true, 0⟩,
    ⟨0x06, 0x06, .u8, .rwp, 29, .nat 1 32, true, 0⟩,
    ⟨0x07, 0x07, .u8, .rwp, 10, .nat 1 16, true, 0⟩,
    ⟨0x08, 0x08, .u8, .rwp, 10, .nat 1 16, true, 0⟩,
    ⟨0x09, 0x09, .u8, .rwp, 1, .enum 0 1, true, 0⟩,
    ⟨0x0A, 0x0A, .u8, .rwp, 30, .nat 0 127, true, 0⟩,
    ⟨0x0B, 0x0B, .u8, .ro, 0, .nat 0 127, false, 0⟩,
    ⟨0x0C, 0x0C, .f32, .ro, 1223959552, .f32any, false, 0⟩,
    ⟨0x0D, 0x0D, .f32, .ro, 1240736768, .f32any, false, 0⟩]⟩

/-- Filter: 0x7020, 4 indices. -/
def blk7020 : Block := ⟨0x7020, 4, 0x22,
  [⟨0x01, 0x20, .u64, .rw, 0, .filter, true, 0⟩,
    ⟨0x21, 0x21, .u8, .rw, 0, .enum 0 1, true, 0⟩,
    ⟨0x22, 0x22, .u8, .rw, 0, .enum 0 1, true, 0⟩]⟩

/-- BusTx: 0x7030, 4 indices. -/
def blk7030 : Block := ⟨0x7030, 4, 0x09,
  [⟨0x01, 0x01, .domain, .wo, 0, .len 16 80, false, 0⟩,
    ⟨0x02, 0x02, .u8, .wo, 0, .enum 1 1, false, 0⟩,
    ⟨0x03, 0x05, .u8, .ro, 0, .nat 0 6, false, 0⟩,
    ⟨0x06, 0x06, .u32, .ro, 0, .any, false, 0⟩,
    ⟨0x07, 0x07, .u32, .ro, 0, .any, false, 0⟩,
    ⟨0x08, 0x08, .u32, .ro, 0, .any, false, 0⟩,
    ⟨0x09, 0x09, .u32, .ro, 0, .any, false, 0⟩]⟩

/-- BusRx: 0x7040, 4 indices. -/
def blk7040 : Block := ⟨0x7040, 4, 0x08,
  [⟨0x01, 0x01, .u32, .ro, 0, .any, false, 0⟩,
    ⟨0x02, 0x02, .u32, .ro, 0, .any, false, 0⟩,
    ⟨0x03, 0x03, .u32, .rw, 0, .any, false, 0⟩,
    ⟨0x04, 0x04, .domain, .ro, 0, .any, false, 0⟩,
    ⟨0x05, 0x05, .u32, .ro, 0, .any, false, 0⟩,
    ⟨0x06, 0x06, .u32, .ro, 0, .any, false, 0⟩,
    ⟨0x07, 0x07, .u32, .ro, 0, .any, false, 0⟩,
    ⟨0x08, 0x08, .u8, .ro, 0, .nat 0 48, false, 0⟩]⟩

/-- Worust: 0x7100, 1 index. -/
def blk7100 : Block := ⟨0x7100, 1, 0x07,
  [⟨0x01, 0x01, .u8, .rwp, 1, .nat 1 126, true, 0⟩,
    ⟨0x02, 0x02, .f32, .rw, 1084227584, .f32 0x3DCCCCCD 0x44160000, true, 0⟩,
    ⟨0x03, 0x03, .u16, .rwp, 48410, .nat 1024 65535, true, 0⟩,
    ⟨0x04, 0x04, .u8, .rw, 15, .mask 0xF0, true, 0⟩,
    ⟨0x05, 0x05, .u32, .ro, 0, .any, false, 0⟩,
    ⟨0x06, 0x06, .u32, .ro, 0, .any, false, 0⟩,
    ⟨0x07, 0x07, .u32, .ro, 0, .any, false, 0⟩]⟩

/-- Eth: 0x7110, 2 indices. -/
def blk7110 : Block := ⟨0x7110, 2, 0x07,
  [⟨0x01, 0x01, .bool, .rwp, 1, .bool, true, 0⟩,
    ⟨0x02, 0x02, .u8, .rwp, 0, .enum 0 5, true, 0⟩,
    ⟨0x03, 0x03, .u8, .ro, 0, .any, false, 0⟩,
    ⟨0x04, 0x04, .u32, .ro, 0, .any, false, 0⟩,
    ⟨0x05, 0x05, .u32, .ro, 0, .any, false, 0⟩,
    ⟨0x06, 0x06, .u32, .ro, 0, .any, false, 0⟩,
    ⟨0x07, 0x07, .u32, .ro, 0, .any, false, 0⟩]⟩

/-- Ip: 0x7118, 1 index. -/
def blk7118 : Block := ⟨0x7118, 1, 0x09,
  [⟨0x01, 0x01, .u64, .const, 0, .any, false, 0⟩,
    ⟨0x02, 0x02, .u8, .rwp, 0, .enum 0 1, true, 0⟩,
    ⟨0x03, 0x03, .u32, .rwp, 3232238090, .any, true, 0⟩,
    ⟨0x04, 0x04, .u32, .rwp, 4294967040, .contiguous, true, 0⟩,
    ⟨0x05, 0x05, .u32, .rwp, 0, .any, true, 0⟩,
    ⟨0x06, 0x06, .u32, .ro, 0, .any, false, 0⟩,
    ⟨0x07, 0x07, .u32, .ro, 0, .any, false, 0⟩,
    ⟨0x08, 0x08, .u32, .ro, 0, .any, false, 0⟩,
    ⟨0x09, 0x09, .u16, .ro, 0, .any, false, 0⟩]⟩

/-- Tsync: 0x7120, 1 index. -/
def blk7120 : Block := ⟨0x7120, 1, 0x07,
  [⟨0x01, 0x01, .u8, .rwp, 0, .nat 0 3, true, 0⟩,
    ⟨0x02, 0x02, .u8, .rw, 0, .mask 0xF0, true, 0⟩,
    ⟨0x03, 0x03, .f32, .rw, 1065353216, .f32 0x3DCCCCCD 0x41200000, true, 0⟩,
    ⟨0x04, 0x04, .u32, .rwp, 0, .any, true, 0⟩,
    ⟨0x05, 0x05, .u16, .rwp, 48410, .nat 1 65535, true, 0⟩,
    ⟨0x06, 0x06, .f32, .rw, 1065353216, .f32 0x3E800000 0x42800000, true, 0⟩,
    ⟨0x07, 0x07, .f32, .ro, 0, .f32any, false, 0⟩]⟩

/-- Pub: 0x7140, 32 indices. -/
def blk7140 : Block := ⟨0x7140, 32, 0x0A,
  [⟨0x01, 0x01, .bool, .rw, 0, .bool, true, 0⟩,
    ⟨0x02, 0x02, .u16, .rwp, 65535, .natOr 0 4095 0xFFFF, true, 4094⟩,
    ⟨0x03, 0x03, .u8, .rw, 16, .oneOf [0x10, 0x11, 0x12, 0x13, 0x20], true, 0⟩,
    ⟨0x04, 0x04, .u8, .rw, 127, .nat 1 127, true, 0⟩,
    ⟨0x05, 0x05, .u32, .rw, 0, .any, true, 0⟩,
    ⟨0x06, 0x06, .u16, .rw, 48410, .nat 1 65535, true, 0⟩,
    ⟨0x07, 0x07, .u8, .rw, 0, .any, true, 0⟩,
    ⟨0x08, 0x08, .f32, .rw, 1065353216, .f32 0x3C23D70A 0x42700000, true, 0⟩,
    ⟨0x09, 0x09, .f32, .rw, 0, .f32nonneg, true, 0⟩,
    ⟨0x0A, 0x0A, .u32, .ro, 0, .any, false, 0⟩]⟩

/-- Sub: 0x7160, 16 indices. -/
def blk7160 : Block := ⟨0x7160, 16, 0x0F,
  [⟨0x01, 0x01, .bool, .rw, 0, .bool, true, 0⟩,
    ⟨0x02, 0x02, .u8, .rw, 16, .oneOf [0x10, 0x11, 0x12, 0x13, 0x20], true, 0⟩,
    ⟨0x03, 0x03, .u8, .rw, 127, .nat 1 127, true, 0⟩,
    ⟨0x04, 0x04, .u32, .rw, 0, .any, true, 0⟩,
    ⟨0x05, 0x05, .u16, .rw, 48410, .nat 1 65535, true, 0⟩,
    ⟨0x06, 0x0D, .u32, .rw, 0, .any, true, 0⟩,
    ⟨0x0E, 0x0E, .u32, .ro, 0, .any, false, 0⟩,
    ⟨0x0F, 0x0F, .u32, .ro, 0, .any, false, 0⟩]⟩

/-- Wake: 0x7180, 4 indices. -/
def blk7180 : Block := ⟨0x7180, 4, 0x0A,
  [⟨0x01, 0x01, .bool, .rw, 0, .bool, true, 0⟩,
    ⟨0x02, 0x02, .u8, .rw, 0, .enum 0 1, true, 0⟩,
    ⟨0x03, 0x03, .u32, .rw, 0, .mask 0x60000000, true, 0⟩,
    ⟨0x04, 0x04, .u32, .rw, 536870911, .mask 0xE0000000, true, 0⟩,
    ⟨0x05, 0x05, .u8, .rw, 0, .nat 0 8, true, 0⟩,
    ⟨0x06, 0x06, .u64, .rw, 0, .any, true, 0⟩,
    ⟨0x07, 0x07, .u8, .rw, 2, .enum 0 3, true, 0⟩,
    ⟨0x08, 0x08, .u8, .ro, 0, .any, false, 0⟩,
    ⟨0x09, 0x09, .u32, .ro, 0, .any, false, 0⟩,
    ⟨0x0A, 0x0A, .u32, .ro, 0, .any, false, 0⟩]⟩

/-- Therm: 0x8000, 1 index. -/
def blk8000 : Block := ⟨0x8000, 1, 0x0D,
  [⟨0x01, 0x01, .u8, .ro, 0, .nat 0 3, false, 0⟩,
    ⟨0x02, 0x02, .u8, .ro, 0, .nat 0 4, false, 0⟩,
    ⟨0x03, 0x03, .f32, .ro, 0, .f32any, false, 0⟩,
    ⟨0x04, 0x04, .u8, .ro, 0, .nat 0 15, false, 0⟩,
    ⟨0x05, 0x05, .bool, .rwp, 0, .bool, true, 0⟩,
    ⟨0x06, 0x06, .f32, .rw, 1073741824, .f32 0x3F000000 0x41200000, true, 0⟩,
    ⟨0x07, 0x07, .f32, .rw, 1092616192, .f32 0x3F800000 0x42700000, true, 0⟩,
    ⟨0x08, 0x08, .u8, .rw, 4, .nat 1 4, true, 0⟩,
    ⟨0x09, 0x09, .u16, .ro, 0, .any, false, 0⟩,
    ⟨0x0A, 0x0A, .f32, .ro, 0, .f32any, false, 0⟩,
    ⟨0x0B, 0x0B, .u32, .ro, 0, .any, false, 0⟩,
    ⟨0x0C, 0x0C, .u32, .ro, 0, .any, false, 0⟩,
    ⟨0x0D, 0x0D, .f32, .ro, 1317997848, .f32any, false, 0⟩]⟩

/-- TsRead: 0x8010, 1 index. -/
def blk8010 : Block := ⟨0x8010, 1, 0x10,
  [⟨0x01, 0x10, .f32, .ro, 0, .f32any, false, 0⟩]⟩

/-- TsRaw: 0x8011, 1 index. -/
def blk8011 : Block := ⟨0x8011, 1, 0x10,
  [⟨0x01, 0x10, .f32, .ro, 0, .f32any, false, 0⟩]⟩

/-- TsState: 0x8012, 1 index. -/
def blk8012 : Block := ⟨0x8012, 1, 0x10,
  [⟨0x01, 0x10, .u8, .ro, 0, .any, false, 0⟩]⟩

/-- Supply: 0x8020, 1 index. -/
def blk8020 : Block := ⟨0x8020, 1, 0x0B,
  [⟨0x01, 0x01, .u8, .ro, 0, .any, false, 0⟩,
    ⟨0x02, 0x02, .f32, .ro, 0, .f32any, false, 0⟩,
    ⟨0x03, 0x03, .f32, .ro, 0, .f32any, false, 0⟩,
    ⟨0x04, 0x04, .f32, .ro, 0, .f32any, false, 0⟩,
    ⟨0x05, 0x05, .f32, .ro, 0, .f32any, false, 0⟩,
    ⟨0x06, 0x06, .f32, .ro, 0, .f32any, false, 0⟩,
    ⟨0x07, 0x07, .u16, .ro, 0, .any, false, 0⟩,
    ⟨0x08, 0x08, .f32, .ro, 0, .f32any, false, 0⟩,
    ⟨0x09, 0x09, .u32, .ro, 0, .any, false, 0⟩,
    ⟨0x0A, 0x0A, .u32, .ro, 0, .any, false, 0⟩,
    ⟨0x0B, 0x0B, .u64, .ro, 0, .any, false, 0⟩]⟩

/-- Season: 0x8030, 1 index. -/
def blk8030 : Block := ⟨0x8030, 1, 0x05,
  [⟨0x01, 0x01, .u8, .wo, 0, .enum 1 1, false, 0⟩,
    ⟨0x02, 0x02, .u64, .ro, 0, .any, false, 0⟩,
    ⟨0x03, 0x03, .u32, .ro, 0, .any, false, 0⟩,
    ⟨0x04, 0x04, .u8, .ro, 255, .nat 0 3, false, 0⟩,
    ⟨0x05, 0x05, .u32, .ro, 0, .any, false, 0⟩]⟩

/-- Reset: 0x8040, 1 index. -/
def blk8040 : Block := ⟨0x8040, 1, 0x05,
  [⟨0x01, 0x01, .u8, .ro, 0, .nat 0 6, false, 0⟩,
    ⟨0x02, 0x02, .u32, .ro, 0, .any, false, 0⟩,
    ⟨0x03, 0x03, .u32, .ro, 0, .any, false, 0⟩,
    ⟨0x04, 0x04, .f32, .ro, 0, .f32any, false, 0⟩,
    ⟨0x05, 0x05, .u8, .ro, 0, .any, false, 0⟩]⟩

/-- Config: 0x9000, 1 index. -/
def blk9000 : Block := ⟨0x9000, 1, 0x0B,
  [⟨0x01, 0x01, .u8, .wo, 0, .enum 1 2, false, 0⟩,
    ⟨0x02, 0x02, .u8, .ro, 255, .any, false, 0⟩,
    ⟨0x03, 0x03, .u32, .ro, 0, .any, false, 0⟩,
    ⟨0x04, 0x04, .u32, .ro, 0, .any, false, 0⟩,
    ⟨0x05, 0x05, .u32, .ro, 0, .any, false, 0⟩,
    ⟨0x06, 0x06, .u16, .ro, 0, .any, false, 0⟩,
    ⟨0x07, 0x07, .u8, .ro, 0, .any, false, 0⟩,
    ⟨0x08, 0x08, .u8, .ro, 0, .any, false, 0⟩,
    ⟨0x09, 0x09, .u64, .ro, 0, .any, false, 0⟩,
    ⟨0x0A, 0x0A, .u32, .ro, 0, .any, false, 0⟩,
    ⟨0x0B, 0x0B, .u32, .ro, 0, .any, false, 0⟩]⟩

/-- Enable: 0x9010, 1 index. -/
def blk9010 : Block := ⟨0x9010, 1, 0x05,
  [⟨0x01, 0x01, .u8, .rw, 63, .mask 0xC0, true, 0⟩,
    ⟨0x02, 0x02, .u8, .rw, 63, .mask 0xC0, true, 0⟩,
    ⟨0x03, 0x03, .u8, .rw, 63, .mask 0xC0, true, 0⟩,
    ⟨0x04, 0x04, .bool, .ro, 0, .bool, false, 0⟩,
    ⟨0x05, 0x05, .bool, .ro, 0, .bool, false, 0⟩]⟩

/-- Journal: 0x9020, 1 index. -/
def blk9020 : Block := ⟨0x9020, 1, 0x0A,
  [⟨0x01, 0x01, .u64, .ro, 0, .any, false, 0⟩,
    ⟨0x02, 0x02, .u64, .ro, 0, .any, false, 0⟩,
    ⟨0x03, 0x03, .u64, .rw, 0, .any, false, 0⟩,
    ⟨0x04, 0x04, .domain, .ro, 0, .any, false, 0⟩,
    ⟨0x05, 0x05, .domain, .ro, 0, .any, false, 0⟩,
    ⟨0x06, 0x06, .domain, .ro, 0, .any, false, 0⟩,
    ⟨0x07, 0x07, .domain, .ro, 0, .any, false, 0⟩,
    ⟨0x08, 0x08, .u16, .ro, 0, .nat 0 768, false, 0⟩,
    ⟨0x09, 0x09, .u16, .ro, 0, .any, false, 0⟩,
    ⟨0x0A, 0x0A, .u32, .ro, 0, .any, false, 0⟩]⟩

/-- Sec: 0xA000, 1 index. -/
def blkA000 : Block := ⟨0xA000, 1, 0x05,
  [⟨0x01, 0x01, .u8, .ro, 0, .nat 0 63, false, 0⟩,
    ⟨0x02, 0x02, .u8, .ro, 0, .any, false, 0⟩,
    ⟨0x03, 0x03, .u8, .ro, 0, .any, false, 0⟩,
    ⟨0x04, 0x04, .u32, .ro, 0, .any, false, 0⟩,
    ⟨0x05, 0x05, .u64, .ro, 0, .any, false, 0⟩]⟩

/-- Update: 0xA010, 1 index. -/
def blkA010 : Block := ⟨0xA010, 1, 0x07,
  [⟨0x01, 0x01, .u8, .wo, 0, .enum 1 4, false, 0⟩,
    ⟨0x02, 0x02, .u32, .rw, 0, .multiple 65536 33488896, false, 0⟩,
    ⟨0x03, 0x03, .domain, .wo, 0, .len 65536 65536, false, 0⟩,
    ⟨0x04, 0x04, .u8, .ro, 0, .any, false, 0⟩,
    ⟨0x05, 0x05, .u8, .ro, 255, .any, false, 0⟩,
    ⟨0x06, 0x06, .u32, .ro, 0, .any, false, 0⟩,
    ⟨0x07, 0x07, .u8, .ro, 0, .any, false, 0⟩]⟩

/-- Erase: 0xA020, 1 index. -/
def blkA020 : Block := ⟨0xA020, 1, 0x02,
  [⟨0x01, 0x01, .u16, .wo, 0, .oneOf [0x5EC0], false, 0⟩,
    ⟨0x02, 0x02, .u8, .wo, 0, .enum 1 1, false, 0⟩]⟩

/-- Fault: 0xB000, 1 index. -/
def blkB000 : Block := ⟨0xB000, 1, 0x13,
  [⟨0x01, 0x01, .u32, .ro, 0, .any, false, 0⟩,
    ⟨0x02, 0x02, .u32, .ro, 0, .any, false, 0⟩,
    ⟨0x03, 0x03, .u32, .ro, 0, .any, false, 0⟩,
    ⟨0x04, 0x04, .u32, .ro, 0, .any, false, 0⟩,
    ⟨0x05, 0x05, .u32, .ro, 0, .any, false, 0⟩,
    ⟨0x06, 0x06, .u32, .ro, 0, .any, false, 0⟩,
    ⟨0x07, 0x07, .u32, .ro, 0, .any, false, 0⟩,
    ⟨0x08, 0x08, .u32, .ro, 0, .any, false, 0⟩,
    ⟨0x09, 0x09, .u32, .ro, 0, .any, false, 0⟩,
    ⟨0x0A, 0x0A, .u32, .ro, 0, .any, false, 0⟩,
    ⟨0x0B, 0x0B, .u32, .ro, 0, .any, false, 0⟩,
    ⟨0x0C, 0x0C, .u32, .ro, 0, .any, false, 0⟩,
    ⟨0x0D, 0x0D, .u32, .ro, 0, .any, false, 0⟩,
    ⟨0x0E, 0x0E, .u32, .ro, 0, .any, false, 0⟩,
    ⟨0x0F, 0x0F, .u64, .ro, 0, .any, false, 0⟩,
    ⟨0x10, 0x10, .u64, .ro, 0, .any, false, 0⟩,
    ⟨0x11, 0x11, .u16, .ro, 0, .any, false, 0⟩,
    ⟨0x12, 0x12, .u32, .ro, 0, .any, false, 0⟩,
    ⟨0x13, 0x13, .u64, .ro, 0, .any, false, 0⟩]⟩

/-- Router: 0xF000, 1 index. -/
def blkF000 : Block := ⟨0xF000, 1, 0x05,
  [⟨0x01, 0x01, .u32, .ro, 0, .any, false, 0⟩,
    ⟨0x02, 0x02, .u32, .ro, 0, .any, false, 0⟩,
    ⟨0x03, 0x03, .u16, .ro, 0, .nat 0 2048, false, 0⟩,
    ⟨0x04, 0x04, .u16, .ro, 0, .nat 0 2048, false, 0⟩,
    ⟨0x05, 0x05, .u16, .ro, 0, .nat 0 2048, false, 0⟩]⟩

/-- SrcCfgA: 0xF001, 1 index. -/
def blkF001 : Block := ⟨0xF001, 1, 0x80,
  [⟨0x01, 0x80, .u32, .rwp, 84148228, .mask 0xF8000000, true, 0⟩]⟩

/-- SrcCfgB: 0xF002, 1 index. -/
def blkF002 : Block := ⟨0xF002, 1, 0x80,
  [⟨0x01, 0x80, .u32, .rwp, 84148228, .mask 0xF8000000, true, 0⟩]⟩

/-- OverrunA: 0xF003, 1 index. -/
def blkF003 : Block := ⟨0xF003, 1, 0x80,
  [⟨0x01, 0x80, .u32, .ro, 0, .any, false, 0⟩]⟩

/-- OverrunB: 0xF004, 1 index. -/
def blkF004 : Block := ⟨0xF004, 1, 0x80,
  [⟨0x01, 0x80, .u32, .ro, 0, .any, false, 0⟩]⟩

/-- The blocks by the leading digit of the index. -/
def dictBlocks (nibble : Nat) : List Block :=
  if nibble = 1 then [blk1000, blk1001, blk1010, blk1012, blk1020]
  else if nibble = 2 then [blk2000]
  else if nibble = 3 then [blk3000, blk3200, blk3400, blk3408, blk3410, blk3418, blk3420, blk3440, blk3460, blk3468, blk3480, blk3481, blk3482, blk3483]
  else if nibble = 4 then [blk4000, blk4001, blk4010, blk4020, blk4030, blk4040, blk4080, blk4090, blk40A0, blk4100, blk4200, blk4210, blk4260, blk4280, blk4290, blk4300, blk4301, blk4302, blk4303, blk4310, blk4320, blk4324, blk4328, blk432C, blk4340, blk4380]
  else if nibble = 5 then [blk5000, blk5400, blk5410, blk5420]
  else if nibble = 6 then [blk6000, blk6008, blk6010, blk6110, blk6130, blk6140, blk6210, blk6300, blk6310, blk6320, blk6340, blk6380]
  else if nibble = 7 then [blk7000, blk7010, blk7020, blk7030, blk7040, blk7100, blk7110, blk7118, blk7120, blk7140, blk7160, blk7180]
  else if nibble = 8 then [blk8000, blk8010, blk8011, blk8012, blk8020, blk8030, blk8040]
  else if nibble = 9 then [blk9000, blk9010, blk9020]
  else if nibble = 10 then [blkA000, blkA010, blkA020]
  else if nibble = 11 then [blkB000]
  else if nibble = 15 then [blkF000, blkF001, blkF002, blkF003, blkF004]
  else []

/-- The block that holds an index. -/
def findBlock (idx : Nat) : Option Block :=
  (dictBlocks (idx / 4096)).find? (fun b => b.base ≤ idx && idx < b.base + b.count)

/-- The row of an index and a subindex other than 0 (R44). -/
def findRow (idx sub : Nat) : Option Row :=
  match findBlock idx with
  | none => none
  | some b => b.rows.find? (fun r => r.lo ≤ sub && sub ≤ r.hi)

/-- Plan frequency i by default: 10 + 16 i MHz, as binary32 words. -/
def freqDefault (sub : Nat) : Nat :=
  [1259902592, 1271291200, 1277179808, 1281179808, 1284318416, 1286318416, 1288318416, 1290318416, 1292082024, 1293082024, 1294082024, 1295082024, 1296082024, 1297082024, 1298082024, 1299082024].getD (sub - 1) 0

/-- The default an object holds while nothing else is written to it (R51). The plan frequencies (R187) the supply of
an output group (R356) and the state of an engine (reserves 16 and 17, R269) differ along their range. -/
def dfltOf (k : Nat) : Nat :=
  let idx := k / 256
  let sub := k % 256
  match findRow idx sub with
  | none => 0
  | some r =>
    if idx = 0x4301 then freqDefault sub
    else if k = key 0x6002 1 ∨ k = key 0x6003 1 ∨ k = key 0x3481 0x11 ∨ k = key 0x3481 0x12 then 1
    else r.dflt

end Sys2Proof.Machine
end

