-- ==== Sys2Proof/Machine/ObjectsB.lean ====
section
/-! DEFINITION. The names of the objects at 0x4000–0x5420 (R44, R46): each is the key of one index and subindex. -/
namespace Sys2Proof.Machine

namespace Ob

/-- 0x4000:01 DryIn (U64, R145). -/
abbrev ledgerDryIn : Nat := key (0x4000) (0x01)
/-- 0x4000:02 DryAdjustIn (U64, R145). -/
abbrev ledgerDryAdjustIn : Nat := key (0x4000) (0x02)
/-- 0x4000:03 DryInProcess (U64, R145). -/
abbrev ledgerDryInProcess : Nat := key (0x4000) (0x03)
/-- 0x4000:04 DryInBins (U64, R145). -/
abbrev ledgerDryInBins : Nat := key (0x4000) (0x04)
/-- 0x4000:05 DryOut (U64, R145). -/
abbrev ledgerDryOut : Nat := key (0x4000) (0x05)
/-- 0x4000:06 DryAdjustOut (U64, R145). -/
abbrev ledgerDryAdjustOut : Nat := key (0x4000) (0x06)
/-- 0x4000:07 WaterIn (U64, R145). -/
abbrev ledgerWaterIn : Nat := key (0x4000) (0x07)
/-- 0x4000:08 WaterAdjustIn (U64, R145). -/
abbrev ledgerWaterAdjustIn : Nat := key (0x4000) (0x08)
/-- 0x4000:09 WaterInProcess (U64, R145). -/
abbrev ledgerWaterInProcess : Nat := key (0x4000) (0x09)
/-- 0x4000:0A WaterInBins (U64, R145). -/
abbrev ledgerWaterInBins : Nat := key (0x4000) (0x0A)
/-- 0x4000:0B WaterOut (U64, R145). -/
abbrev ledgerWaterOut : Nat := key (0x4000) (0x0B)
/-- 0x4000:0C WaterAdjustOut (U64, R145). -/
abbrev ledgerWaterAdjustOut : Nat := key (0x4000) (0x0C)
/-- 0x4000:0D WaterEvaporated (I64, R145). -/
abbrev ledgerWaterEvaporated : Nat := key (0x4000) (0x0D)
/-- 0x4000:0E LedgerStatus (U16, R145). -/
abbrev ledgerLedgerStatus : Nat := key (0x4000) (0x0E)
/-- 0x4000:0F LedgerReset (U8, R145). -/
abbrev ledgerLedgerReset : Nat := key (0x4000) (0x0F)

/-- 0x4001:01 EntriesInUse (U16, R148). -/
abbrev pTableEntriesInUse : Nat := key (0x4001) (0x01)
/-- 0x4001:02 HighWater (U16, R148). -/
abbrev pTableHighWater : Nat := key (0x4001) (0x02)
/-- 0x4001:03 CoalesceCount (U32, R148). -/
abbrev pTableCoalesceCount : Nat := key (0x4001) (0x03)
/-- 0x4001:04 DeferCount (U32, R148). -/
abbrev pTableDeferCount : Nat := key (0x4001) (0x04)

/-- 0x4010–0x401F:01 Enable (BOOL, R129). -/
abbrev pathEnable (n : Nat) : Nat := key (0x4010 + n) (0x01)
/-- 0x4010–0x401F:02 Clock (U8, R129). -/
abbrev pathClock (n : Nat) : Nat := key (0x4010 + n) (0x02)
/-- 0x4010–0x401F:03 InletKind (U8, R129). -/
abbrev pathInletKind (n : Nat) : Nat := key (0x4010 + n) (0x03)
/-- 0x4010–0x401F:04 InletBin (U8, R129). -/
abbrev pathInletBin (n : Nat) : Nat := key (0x4010 + n) (0x04)
/-- 0x4010–0x401F:05 LengthCounts (U32, R129). -/
abbrev pathLengthCounts (n : Nat) : Nat := key (0x4010 + n) (0x05)
/-- 0x4010–0x401F:06 ParcelVolume (F32, R129). -/
abbrev pathParcelVolume (n : Nat) : Nat := key (0x4010 + n) (0x06)
/-- 0x4010–0x401F:07 AdvancePeriod (U32, R129). -/
abbrev pathAdvancePeriod (n : Nat) : Nat := key (0x4010 + n) (0x07)
/-- 0x4010–0x401F:08 MoistureChannel (U16, R129). -/
abbrev pathMoistureChannel (n : Nat) : Nat := key (0x4010 + n) (0x08)
/-- 0x4010–0x401F:09 DensityChannel (U16, R129). -/
abbrev pathDensityChannel (n : Nat) : Nat := key (0x4010 + n) (0x09)
/-- 0x4010–0x401F:0A FallbackMoisture (F32, R129). -/
abbrev pathFallbackMoisture (n : Nat) : Nat := key (0x4010 + n) (0x0A)
/-- 0x4010–0x401F:0B Profile (U8, R129). -/
abbrev pathProfile (n : Nat) : Nat := key (0x4010 + n) (0x0B)
/-- 0x4010–0x401F:0C EndAction (U8, R129). -/
abbrev pathEndAction (n : Nat) : Nat := key (0x4010 + n) (0x0C)
/-- 0x4010–0x401F:0D EndTarget (U8, R129). -/
abbrev pathEndTarget (n : Nat) : Nat := key (0x4010 + n) (0x0D)
/-- 0x4010–0x401F:0E StationCount (U8, R129). -/
abbrev pathStationCount (n : Nat) : Nat := key (0x4010 + n) (0x0E)
/-- 0x4010–0x401F:0F Status (U16, R129). -/
abbrev pathStatus (n : Nat) : Nat := key (0x4010 + n) (0x0F)
/-- 0x4010–0x401F:10 ParcelCount (U16, R129). -/
abbrev pathParcelCount (n : Nat) : Nat := key (0x4010 + n) (0x10)
/-- 0x4010–0x401F:11 EffectiveVolume (F32, R129). -/
abbrev pathEffectiveVolume (n : Nat) : Nat := key (0x4010 + n) (0x11)
/-- 0x4010–0x401F:12 CreateEntry (U16, R129). -/
abbrev pathCreateEntry (n : Nat) : Nat := key (0x4010 + n) (0x12)
/-- 0x4010–0x401F:13 AdvanceEntry (U16, R129). -/
abbrev pathAdvanceEntry (n : Nat) : Nat := key (0x4010 + n) (0x13)
/-- 0x4010–0x401F:14 Purge (U8, R129). -/
abbrev pathPurge (n : Nat) : Nat := key (0x4010 + n) (0x14)

/-- 0x4020–0x402F:01–:20 StationOffset (U32, R132). -/
abbrev stnOffStationOffset (n : Nat) (i : Nat) : Nat := key (0x4020 + n) (0x01 + i)

/-- 0x4030–0x403F:01–:20 StationSource (U32, R132). -/
abbrev stnSrcStationSource (n : Nat) (i : Nat) : Nat := key (0x4030 + n) (0x01 + i)

/-- 0x4040–0x407F:01 Enable (BOOL, R143). -/
abbrev binEnable (n : Nat) : Nat := key (0x4040 + n) (0x01)
/-- 0x4040–0x407F:02 Capacity (F32, R143). -/
abbrev binCapacity (n : Nat) : Nat := key (0x4040 + n) (0x02)
/-- 0x4040–0x407F:03 LayerVolume (F32, R143). -/
abbrev binLayerVolume (n : Nat) : Nat := key (0x4040 + n) (0x03)
/-- 0x4040–0x407F:04 DryMass (U64, R143). -/
abbrev binDryMass (n : Nat) : Nat := key (0x4040 + n) (0x04)
/-- 0x4040–0x407F:05 WaterMass (U64, R143). -/
abbrev binWaterMass (n : Nat) : Nat := key (0x4040 + n) (0x05)
/-- 0x4040–0x407F:06 GrainVolume (F32, R143). -/
abbrev binGrainVolume (n : Nat) : Nat := key (0x4040 + n) (0x06)
/-- 0x4040–0x407F:07 MoistureWB (F32, R143). -/
abbrev binMoistureWB (n : Nat) : Nat := key (0x4040 + n) (0x07)
/-- 0x4040–0x407F:08 LayerCount (U8, R143). -/
abbrev binLayerCount (n : Nat) : Nat := key (0x4040 + n) (0x08)
/-- 0x4040–0x407F:09 Status (U16, R143). -/
abbrev binStatus (n : Nat) : Nat := key (0x4040 + n) (0x09)
/-- 0x4040–0x407F:0A DryReceived (U64, R143). -/
abbrev binDryReceived (n : Nat) : Nat := key (0x4040 + n) (0x0A)
/-- 0x4040–0x407F:0B DryUnloaded (U64, R143). -/
abbrev binDryUnloaded (n : Nat) : Nat := key (0x4040 + n) (0x0B)
/-- 0x4040–0x407F:0C AdjustDry (U64, R143). -/
abbrev binAdjustDry (n : Nat) : Nat := key (0x4040 + n) (0x0C)
/-- 0x4040–0x407F:0D AdjustWater (U64, R143). -/
abbrev binAdjustWater (n : Nat) : Nat := key (0x4040 + n) (0x0D)
/-- 0x4040–0x407F:0E AdjustVolume (F32, R143). -/
abbrev binAdjustVolume (n : Nat) : Nat := key (0x4040 + n) (0x0E)
/-- 0x4040–0x407F:0F AdjustProfile (U8, R143). -/
abbrev binAdjustProfile (n : Nat) : Nat := key (0x4040 + n) (0x0F)
/-- 0x4040–0x407F:10 AdjustCommand (U8, R143). -/
abbrev binAdjustCommand (n : Nat) : Nat := key (0x4040 + n) (0x10)
/-- 0x4040–0x407F:11 AdjustTemp (F32, R143). -/
abbrev binAdjustTemp (n : Nat) : Nat := key (0x4040 + n) (0x11)

/-- 0x4080–0x408F:01 DryCreated (U64, R148). -/
abbrev pathAcctDryCreated (n : Nat) : Nat := key (0x4080 + n) (0x01)
/-- 0x4080–0x408F:02 DryTransferredIn (U64, R148). -/
abbrev pathAcctDryTransferredIn (n : Nat) : Nat := key (0x4080 + n) (0x02)
/-- 0x4080–0x408F:03 DryTransferredOut (U64, R148). -/
abbrev pathAcctDryTransferredOut (n : Nat) : Nat := key (0x4080 + n) (0x03)
/-- 0x4080–0x408F:04 DryDelivered (U64, R148). -/
abbrev pathAcctDryDelivered (n : Nat) : Nat := key (0x4080 + n) (0x04)
/-- 0x4080–0x408F:05 DryExited (U64, R148). -/
abbrev pathAcctDryExited (n : Nat) : Nat := key (0x4080 + n) (0x05)
/-- 0x4080–0x408F:06 DryOnPath (U64, R148). -/
abbrev pathAcctDryOnPath (n : Nat) : Nat := key (0x4080 + n) (0x06)
/-- 0x4080–0x408F:07 WaterEvaporated (I64, R148). -/
abbrev pathAcctWaterEvaporated (n : Nat) : Nat := key (0x4080 + n) (0x07)
/-- 0x4080–0x408F:08 ParcelsCreated (U32, R148). -/
abbrev pathAcctParcelsCreated (n : Nat) : Nat := key (0x4080 + n) (0x08)

/-- 0x4090:01 OldestSeq (U64, R150). -/
abbrev archiveOldestSeq : Nat := key (0x4090) (0x01)
/-- 0x4090:02 NewestSeq (U64, R150). -/
abbrev archiveNewestSeq : Nat := key (0x4090) (0x02)
/-- 0x4090:03 Select (U64, R150). -/
abbrev archiveSelect : Nat := key (0x4090) (0x03)
/-- 0x4090:04 Record (DOMAIN, R150). -/
abbrev archiveRecord : Nat := key (0x4090) (0x04)
/-- 0x4090:05 Block (DOMAIN, R150). -/
abbrev archiveBlock : Nat := key (0x4090) (0x05)

/-- 0x40A0:01 Period (F32, R155). -/
abbrev ckptPeriod : Nat := key (0x40A0) (0x01)
/-- 0x40A0:02 Sequence (U32, R155). -/
abbrev ckptSequence : Nat := key (0x40A0) (0x02)
/-- 0x40A0:03 LastTime (U64, R155). -/
abbrev ckptLastTime : Nat := key (0x40A0) (0x03)
/-- 0x40A0:04 LastDuration (F32, R155). -/
abbrev ckptLastDuration : Nat := key (0x40A0) (0x04)
/-- 0x40A0:05 Restored (U8, R155). -/
abbrev ckptRestored : Nat := key (0x40A0) (0x05)

/-- 0x4100–0x4107:01 Mode (U8, R156). -/
abbrev winMode (n : Nat) : Nat := key (0x4100 + n) (0x01)
/-- 0x4100–0x4107:02 SelectId (U32, R156). -/
abbrev winSelectId (n : Nat) : Nat := key (0x4100 + n) (0x02)
/-- 0x4100–0x4107:03 SelectPath (U8, R156). -/
abbrev winSelectPath (n : Nat) : Nat := key (0x4100 + n) (0x03)
/-- 0x4100–0x4107:04 SelectOrdinal (U16, R156). -/
abbrev winSelectOrdinal (n : Nat) : Nat := key (0x4100 + n) (0x04)
/-- 0x4100–0x4107:05 Found (BOOL, R156). -/
abbrev winFound (n : Nat) : Nat := key (0x4100 + n) (0x05)
/-- 0x4100–0x4107:06 Record (DOMAIN, R156). -/
abbrev winRecord (n : Nat) : Nat := key (0x4100 + n) (0x06)
/-- 0x4100–0x4107:07 MoistureWB (F32, R156). -/
abbrev winMoistureWB (n : Nat) : Nat := key (0x4100 + n) (0x07)
/-- 0x4100–0x4107:08 GrainTemp (F32, R156). -/
abbrev winGrainTemp (n : Nat) : Nat := key (0x4100 + n) (0x08)
/-- 0x4100–0x4107:09 DryMass (U64, R156). -/
abbrev winDryMass (n : Nat) : Nat := key (0x4100 + n) (0x09)
/-- 0x4100–0x4107:0A WaterMass (U64, R156). -/
abbrev winWaterMass (n : Nat) : Nat := key (0x4100 + n) (0x0A)
/-- 0x4100–0x4107:0B PositionVolume (F32, R156). -/
abbrev winPositionVolume (n : Nat) : Nat := key (0x4100 + n) (0x0B)
/-- 0x4100–0x4107:0C MeasuredMoistureWB (F32, R156). -/
abbrev winMeasuredMoistureWB (n : Nat) : Nat := key (0x4100 + n) (0x0C)

/-- 0x4200:01 ModelEnable (BOOL, R181). -/
abbrev modelModelEnable : Nat := key (0x4200) (0x01)
/-- 0x4200:02 AmbientTempChannel (U16, R181). -/
abbrev modelAmbientTempChannel : Nat := key (0x4200) (0x02)
/-- 0x4200:03 AmbientRHChannel (U16, R181). -/
abbrev modelAmbientRHChannel : Nat := key (0x4200) (0x03)
/-- 0x4200:04 PressureChannel (U16, R181). -/
abbrev modelPressureChannel : Nat := key (0x4200) (0x04)
/-- 0x4200:05 AtmPressure (F32, R181). -/
abbrev modelAtmPressure : Nat := key (0x4200) (0x05)
/-- 0x4200:06 EnginesWorking (U8, R181). -/
abbrev modelEnginesWorking : Nat := key (0x4200) (0x06)
/-- 0x4200:07 UpdatesPerSecond (F32, R181). -/
abbrev modelUpdatesPerSecond : Nat := key (0x4200) (0x07)
/-- 0x4200:08 StepsSkipped (U32, R181). -/
abbrev modelStepsSkipped : Nat := key (0x4200) (0x08)
/-- 0x4200:09 StepsClipped (U32, R181). -/
abbrev modelStepsClipped : Nat := key (0x4200) (0x09)
/-- 0x4200:0A IsoDomainCount (U32, R181). -/
abbrev modelIsoDomainCount : Nat := key (0x4200) (0x0A)
/-- 0x4200:0B Load (F32, R181). -/
abbrev modelLoad : Nat := key (0x4200) (0x0B)
/-- 0x4200:0C StepRateHalved (BOOL, R181). -/
abbrev modelStepRateHalved : Nat := key (0x4200) (0x0C)

/-- 0x4210–0x424F:01 Enable (BOOL, R164). -/
abbrev zoneEnable (n : Nat) : Nat := key (0x4210 + n) (0x01)
/-- 0x4210–0x424F:02 Path (U8, R164). -/
abbrev zonePath (n : Nat) : Nat := key (0x4210 + n) (0x02)
/-- 0x4210–0x424F:03 AirZoneTemp (F32, R164). -/
abbrev zoneAirZoneTemp (n : Nat) : Nat := key (0x4210 + n) (0x03)
/-- 0x4210–0x424F:04 AirZoneRH (F32, R164). -/
abbrev zoneAirZoneRH (n : Nat) : Nat := key (0x4210 + n) (0x04)
/-- 0x4210–0x424F:05 AirZoneFlow (F32, R164). -/
abbrev zoneAirZoneFlow (n : Nat) : Nat := key (0x4210 + n) (0x05)
/-- 0x4210–0x424F:06 StartOffset (U32, R164). -/
abbrev zoneStartOffset (n : Nat) : Nat := key (0x4210 + n) (0x06)
/-- 0x4210–0x424F:07 EndOffset (U32, R164). -/
abbrev zoneEndOffset (n : Nat) : Nat := key (0x4210 + n) (0x07)
/-- 0x4210–0x424F:08 TempChannel (U16, R164). -/
abbrev zoneTempChannel (n : Nat) : Nat := key (0x4210 + n) (0x08)
/-- 0x4210–0x424F:09 HumidityChannel (U16, R164). -/
abbrev zoneHumidityChannel (n : Nat) : Nat := key (0x4210 + n) (0x09)
/-- 0x4210–0x424F:0A HumidityKind (U8, R164). -/
abbrev zoneHumidityKind (n : Nat) : Nat := key (0x4210 + n) (0x0A)
/-- 0x4210–0x424F:0B FlowChannel (U16, R164). -/
abbrev zoneFlowChannel (n : Nat) : Nat := key (0x4210 + n) (0x0B)
/-- 0x4210–0x424F:0C FallbackTemp (F32, R164). -/
abbrev zoneFallbackTemp (n : Nat) : Nat := key (0x4210 + n) (0x0C)
/-- 0x4210–0x424F:0D FallbackRH (F32, R164). -/
abbrev zoneFallbackRH (n : Nat) : Nat := key (0x4210 + n) (0x0D)
/-- 0x4210–0x424F:0E FallbackFlow (F32, R164). -/
abbrev zoneFallbackFlow (n : Nat) : Nat := key (0x4210 + n) (0x0E)
/-- 0x4210–0x424F:0F Heated (BOOL, R164). -/
abbrev zoneHeated (n : Nat) : Nat := key (0x4210 + n) (0x0F)
/-- 0x4210–0x424F:10 Status (U16, R164). -/
abbrev zoneStatus (n : Nat) : Nat := key (0x4210 + n) (0x10)
/-- 0x4210–0x424F:11 EMC (F32, R164). -/
abbrev zoneEMC (n : Nat) : Nat := key (0x4210 + n) (0x11)

/-- 0x4260–0x427F:01 ProfileName (STR, R176). -/
abbrev grainProfileName (n : Nat) : Nat := key (0x4260 + n) (0x01)
/-- 0x4260–0x427F:02 BulkDensity (F32, R176). -/
abbrev grainBulkDensity (n : Nat) : Nat := key (0x4260 + n) (0x02)
/-- 0x4260–0x427F:03 IsoForm (U8, R176). -/
abbrev grainIsoForm (n : Nat) : Nat := key (0x4260 + n) (0x03)
/-- 0x4260–0x427F:04 IsoA (F32, R176). -/
abbrev grainIsoA (n : Nat) : Nat := key (0x4260 + n) (0x04)
/-- 0x4260–0x427F:05 IsoB (F32, R176). -/
abbrev grainIsoB (n : Nat) : Nat := key (0x4260 + n) (0x05)
/-- 0x4260–0x427F:06 IsoC (F32, R176). -/
abbrev grainIsoC (n : Nat) : Nat := key (0x4260 + n) (0x06)
/-- 0x4260–0x427F:07 ModelForm (U8, R176). -/
abbrev grainModelForm (n : Nat) : Nat := key (0x4260 + n) (0x07)
/-- 0x4260–0x427F:08 RateK0 (F32, R176). -/
abbrev grainRateK0 (n : Nat) : Nat := key (0x4260 + n) (0x08)
/-- 0x4260–0x427F:09 RateEa (F32, R176). -/
abbrev grainRateEa (n : Nat) : Nat := key (0x4260 + n) (0x09)
/-- 0x4260–0x427F:0A AirflowExp (F32, R176). -/
abbrev grainAirflowExp (n : Nat) : Nat := key (0x4260 + n) (0x0A)
/-- 0x4260–0x427F:0B PageN (F32, R176). -/
abbrev grainPageN (n : Nat) : Nat := key (0x4260 + n) (0x0B)
/-- 0x4260–0x427F:0C QRef (F32, R176). -/
abbrev grainQRef (n : Nat) : Nat := key (0x4260 + n) (0x0C)
/-- 0x4260–0x427F:0D CpDry (F32, R176). -/
abbrev grainCpDry (n : Nat) : Nat := key (0x4260 + n) (0x0D)
/-- 0x4260–0x427F:0E LatentA (F32, R176). -/
abbrev grainLatentA (n : Nat) : Nat := key (0x4260 + n) (0x0E)
/-- 0x4260–0x427F:0F LatentB (F32, R176). -/
abbrev grainLatentB (n : Nat) : Nat := key (0x4260 + n) (0x0F)
/-- 0x4260–0x427F:10 HeatK0 (F32, R176). -/
abbrev grainHeatK0 (n : Nat) : Nat := key (0x4260 + n) (0x10)
/-- 0x4260–0x427F:11 HeatAirflowExp (F32, R176). -/
abbrev grainHeatAirflowExp (n : Nat) : Nat := key (0x4260 + n) (0x11)
/-- 0x4260–0x427F:12 MaxGrainTemp (F32, R176). -/
abbrev grainMaxGrainTemp (n : Nat) : Nat := key (0x4260 + n) (0x12)
/-- 0x4260–0x427F:13 SafeGrainTemp (F32, R176). -/
abbrev grainSafeGrainTemp (n : Nat) : Nat := key (0x4260 + n) (0x13)
/-- 0x4260–0x427F:14 TemperTau (F32, R176). -/
abbrev grainTemperTau (n : Nat) : Nat := key (0x4260 + n) (0x14)
/-- 0x4260–0x427F:15 GradGain (F32, R176). -/
abbrev grainGradGain (n : Nat) : Nat := key (0x4260 + n) (0x15)

/-- 0x4280:01 EvalTemp (F32, R182). -/
abbrev evalEvalTemp : Nat := key (0x4280) (0x01)
/-- 0x4280:02 EvalHumidity (F32, R182). -/
abbrev evalEvalHumidity : Nat := key (0x4280) (0x02)
/-- 0x4280:03 EvalKind (U8, R182). -/
abbrev evalEvalKind : Nat := key (0x4280) (0x03)
/-- 0x4280:04 EvalPressure (F32, R182). -/
abbrev evalEvalPressure : Nat := key (0x4280) (0x04)
/-- 0x4280:05 EvalProfile (U8, R182). -/
abbrev evalEvalProfile : Nat := key (0x4280) (0x05)
/-- 0x4280:06 SatPressure (F32, R182). -/
abbrev evalSatPressure : Nat := key (0x4280) (0x06)
/-- 0x4280:07 RelHumidity (F32, R182). -/
abbrev evalRelHumidity : Nat := key (0x4280) (0x07)
/-- 0x4280:08 HumidityRatio (F32, R182). -/
abbrev evalHumidityRatio : Nat := key (0x4280) (0x08)
/-- 0x4280:09 DewPoint (F32, R182). -/
abbrev evalDewPoint : Nat := key (0x4280) (0x09)
/-- 0x4280:0A Enthalpy (F32, R182). -/
abbrev evalEnthalpy : Nat := key (0x4280) (0x0A)
/-- 0x4280:0B EmcDB (F32, R182). -/
abbrev evalEmcDB : Nat := key (0x4280) (0x0B)
/-- 0x4280:0C EmcWB (F32, R182). -/
abbrev evalEmcWB : Nat := key (0x4280) (0x0C)

/-- 0x4290–0x429F:01 StepMode (U8, R179). -/
abbrev pmodelStepMode (n : Nat) : Nat := key (0x4290 + n) (0x01)
/-- 0x4290–0x429F:02 StepPeriod (F32, R179). -/
abbrev pmodelStepPeriod (n : Nat) : Nat := key (0x4290 + n) (0x02)
/-- 0x4290–0x429F:03 InletTempChannel (U16, R179). -/
abbrev pmodelInletTempChannel (n : Nat) : Nat := key (0x4290 + n) (0x03)
/-- 0x4290–0x429F:04 FallbackInletTemp (F32, R179). -/
abbrev pmodelFallbackInletTemp (n : Nat) : Nat := key (0x4290 + n) (0x04)
/-- 0x4290–0x429F:05 LeadCounts (U32, R179). -/
abbrev pmodelLeadCounts (n : Nat) : Nat := key (0x4290 + n) (0x05)
/-- 0x4290–0x429F:06 WindowCounts (U32, R179). -/
abbrev pmodelWindowCounts (n : Nat) : Nat := key (0x4290 + n) (0x06)
/-- 0x4290–0x429F:07 MinPredRate (F32, R179). -/
abbrev pmodelMinPredRate (n : Nat) : Nat := key (0x4290 + n) (0x07)
/-- 0x4290–0x429F:08 PredLead (F32, R179). -/
abbrev pmodelPredLead (n : Nat) : Nat := key (0x4290 + n) (0x08)
/-- 0x4290–0x429F:09 PredWindow (F32, R179). -/
abbrev pmodelPredWindow (n : Nat) : Nat := key (0x4290 + n) (0x09)
/-- 0x4290–0x429F:0A ModelDischarge (F32, R179). -/
abbrev pmodelModelDischarge (n : Nat) : Nat := key (0x4290 + n) (0x0A)
/-- 0x4290–0x429F:0B LeadTime (F32, R179). -/
abbrev pmodelLeadTime (n : Nat) : Nat := key (0x4290 + n) (0x0B)
/-- 0x4290–0x429F:0C ModelStatus (U16, R179). -/
abbrev pmodelModelStatus (n : Nat) : Nat := key (0x4290 + n) (0x0C)
/-- 0x4290–0x429F:0D LastStepTime (U64, R179). -/
abbrev pmodelLastStepTime (n : Nat) : Nat := key (0x4290 + n) (0x0D)
/-- 0x4290–0x429F:0E LastStepDuration (F32, R179). -/
abbrev pmodelLastStepDuration (n : Nat) : Nat := key (0x4290 + n) (0x0E)

/-- 0x4300:01 FrequencyCount (U8, R203). -/
abbrev feFrequencyCount : Nat := key (0x4300) (0x01)
/-- 0x4300:02 Status (U16, R203). -/
abbrev feStatus : Nat := key (0x4300) (0x02)
/-- 0x4300:03 DieTemp (F32, R203). -/
abbrev feDieTemp : Nat := key (0x4300) (0x03)
/-- 0x4300:04 FreqCorrection (F32, R203). -/
abbrev feFreqCorrection : Nat := key (0x4300) (0x04)
/-- 0x4300:05 CyclePeriod (F32, R203). -/
abbrev feCyclePeriod : Nat := key (0x4300) (0x05)
/-- 0x4300:06 FrontEndFaults (U32, R203). -/
abbrev feFrontEndFaults : Nat := key (0x4300) (0x06)

/-- 0x4301:01–:10 Frequency (F32, R203). -/
abbrev freqFrequency (i : Nat) : Nat := key (0x4301) (0x01 + i)

/-- 0x4302:01–:10 FreqTrim (F32, R203). -/
abbrev freqTrimFreqTrim (i : Nat) : Nat := key (0x4302) (0x01 + i)

/-- 0x4303:01–:10 GainTrim (F32, R203). -/
abbrev gainTrimGainTrim (i : Nat) : Nat := key (0x4303) (0x01 + i)

/-- 0x4310–0x4313:01 Enable (BOOL, R204). -/
abbrev cellEnable (n : Nat) : Nat := key (0x4310 + n) (0x01)
/-- 0x4310–0x4313:02 CellLength (F32, R204). -/
abbrev cellCellLength (n : Nat) : Nat := key (0x4310 + n) (0x02)
/-- 0x4310–0x4313:03 CoeffSelect (U8, R204). -/
abbrev cellCoeffSelect (n : Nat) : Nat := key (0x4310 + n) (0x03)
/-- 0x4310–0x4313:04 DefaultProfile (U8, R204). -/
abbrev cellDefaultProfile (n : Nat) : Nat := key (0x4310 + n) (0x04)
/-- 0x4310–0x4313:05 GrainTempChannel (U16, R204). -/
abbrev cellGrainTempChannel (n : Nat) : Nat := key (0x4310 + n) (0x05)
/-- 0x4310–0x4313:06 FallbackGrainTemp (F32, R204). -/
abbrev cellFallbackGrainTemp (n : Nat) : Nat := key (0x4310 + n) (0x06)
/-- 0x4310–0x4313:07 EmptyThreshold (F32, R204). -/
abbrev cellEmptyThreshold (n : Nat) : Nat := key (0x4310 + n) (0x07)
/-- 0x4310–0x4313:08 Moisture (F32, R204). -/
abbrev cellMoisture (n : Nat) : Nat := key (0x4310 + n) (0x08)
/-- 0x4310–0x4313:09 Psi (F32, R204). -/
abbrev cellPsi (n : Nat) : Nat := key (0x4310 + n) (0x09)
/-- 0x4310–0x4313:0A EpsReal (F32, R204). -/
abbrev cellEpsReal (n : Nat) : Nat := key (0x4310 + n) (0x0A)
/-- 0x4310–0x4313:0B EpsImag (F32, R204). -/
abbrev cellEpsImag (n : Nat) : Nat := key (0x4310 + n) (0x0B)
/-- 0x4310–0x4313:0C GrainTempUsed (F32, R204). -/
abbrev cellGrainTempUsed (n : Nat) : Nat := key (0x4310 + n) (0x0C)
/-- 0x4310–0x4313:0D Status (U16, R204). -/
abbrev cellStatus (n : Nat) : Nat := key (0x4310 + n) (0x0D)
/-- 0x4310–0x4313:0E LastReadingTime (U64, R204). -/
abbrev cellLastReadingTime (n : Nat) : Nat := key (0x4310 + n) (0x0E)
/-- 0x4310–0x4313:0F TaggedParcel (U32, R204). -/
abbrev cellTaggedParcel (n : Nat) : Nat := key (0x4310 + n) (0x0F)
/-- 0x4310–0x4313:10 CalCommand (U8, R204). -/
abbrev cellCalCommand (n : Nat) : Nat := key (0x4310 + n) (0x10)
/-- 0x4310–0x4313:11 RefPermittivity (F32, R204). -/
abbrev cellRefPermittivity (n : Nat) : Nat := key (0x4310 + n) (0x11)
/-- 0x4310–0x4313:12 CalStatus (U8, R204). -/
abbrev cellCalStatus (n : Nat) : Nat := key (0x4310 + n) (0x12)
/-- 0x4310–0x4313:13 EffectiveLength (F32, R204). -/
abbrev cellEffectiveLength (n : Nat) : Nat := key (0x4310 + n) (0x13)
/-- 0x4310–0x4313:14 NoParcelCount (U32, R204). -/
abbrev cellNoParcelCount (n : Nat) : Nat := key (0x4310 + n) (0x14)
/-- 0x4310–0x4313:15 TagLostCount (U32, R204). -/
abbrev cellTagLostCount (n : Nat) : Nat := key (0x4310 + n) (0x15)

/-- 0x4320–0x4323:01–:10 EpsRealF (F32, R204). -/
abbrev epsREpsRealF (n : Nat) (i : Nat) : Nat := key (0x4320 + n) (0x01 + i)

/-- 0x4324–0x4327:01–:10 EpsImagF (F32, R204). -/
abbrev epsIEpsImagF (n : Nat) (i : Nat) : Nat := key (0x4324 + n) (0x01 + i)

/-- 0x4328–0x432B:01–:10 LossF (F32, R204). -/
abbrev lossFLossF (n : Nat) (i : Nat) : Nat := key (0x4328 + n) (0x01 + i)

/-- 0x432C–0x432F:01–:10 ReflectionF (F32, R204). -/
abbrev reflFReflectionF (n : Nat) (i : Nat) : Nat := key (0x432C + n) (0x01 + i)

/-- 0x4340–0x4343:01 CalData (DOMAIN, R204). -/
abbrev calDataCalData (n : Nat) : Nat := key (0x4340 + n) (0x01)

/-- 0x4380–0x439F:01 FreqMask (U16, R199). -/
abbrev coefFreqMask (n : Nat) : Nat := key (0x4380 + n) (0x01)
/-- 0x4380–0x439F:02 PsiA (F32, R199). -/
abbrev coefPsiA (n : Nat) : Nat := key (0x4380 + n) (0x02)
/-- 0x4380–0x439F:03 C0 (F32, R199). -/
abbrev coefC0 (n : Nat) : Nat := key (0x4380 + n) (0x03)
/-- 0x4380–0x439F:04 C1 (F32, R199). -/
abbrev coefC1 (n : Nat) : Nat := key (0x4380 + n) (0x04)
/-- 0x4380–0x439F:05 C2 (F32, R199). -/
abbrev coefC2 (n : Nat) : Nat := key (0x4380 + n) (0x05)
/-- 0x4380–0x439F:06 C3 (F32, R199). -/
abbrev coefC3 (n : Nat) : Nat := key (0x4380 + n) (0x06)
/-- 0x4380–0x439F:07 Tref (F32, R199). -/
abbrev coefTref (n : Nat) : Nat := key (0x4380 + n) (0x07)
/-- 0x4380–0x439F:08 SetName (STR, R199). -/
abbrev coefSetName (n : Nat) : Nat := key (0x4380 + n) (0x08)

/-- 0x5000–0x53FF:01 Enable (BOOL, R103). -/
abbrev entryEnable (n : Nat) : Nat := key (0x5000 + n) (0x01)
/-- 0x5000–0x53FF:02 Domain (U8, R103). -/
abbrev entryDomain (n : Nat) : Nat := key (0x5000 + n) (0x02)
/-- 0x5000–0x53FF:03 Target (U64, R103). -/
abbrev entryTarget (n : Nat) : Nat := key (0x5000 + n) (0x03)
/-- 0x5000–0x53FF:04 Period (U64, R103). -/
abbrev entryPeriod (n : Nat) : Nat := key (0x5000 + n) (0x04)
/-- 0x5000–0x53FF:05 Action (U8, R103). -/
abbrev entryAction (n : Nat) : Nat := key (0x5000 + n) (0x05)
/-- 0x5000–0x53FF:06 ActionTarget (U16, R103). -/
abbrev entryActionTarget (n : Nat) : Nat := key (0x5000 + n) (0x06)
/-- 0x5000–0x53FF:07 ActionParam (U32, R103). -/
abbrev entryActionParam (n : Nat) : Nat := key (0x5000 + n) (0x07)
/-- 0x5000–0x53FF:08 Status (U16, R103). -/
abbrev entryStatus (n : Nat) : Nat := key (0x5000 + n) (0x08)
/-- 0x5000–0x53FF:09 FireCount (U32, R103). -/
abbrev entryFireCount (n : Nat) : Nat := key (0x5000 + n) (0x09)
/-- 0x5000–0x53FF:0A LateCount (U32, R103). -/
abbrev entryLateCount (n : Nat) : Nat := key (0x5000 + n) (0x0A)
/-- 0x5000–0x53FF:0B MissedCount (U32, R103). -/
abbrev entryMissedCount (n : Nat) : Nat := key (0x5000 + n) (0x0B)
/-- 0x5000–0x53FF:0C LastFireTime (U64, R103). -/
abbrev entryLastFireTime (n : Nat) : Nat := key (0x5000 + n) (0x0C)

/-- 0x5400–0x5407:01 Enable (BOOL, R90). -/
abbrev gcEnable (n : Nat) : Nat := key (0x5400 + n) (0x01)
/-- 0x5400–0x5407:02 SignalStandard (U8, R90). -/
abbrev gcSignalStandard (n : Nat) : Nat := key (0x5400 + n) (0x02)
/-- 0x5400–0x5407:03 CountMode (U8, R90). -/
abbrev gcCountMode (n : Nat) : Nat := key (0x5400 + n) (0x03)
/-- 0x5400–0x5407:04 Direction (U8, R90). -/
abbrev gcDirection (n : Nat) : Nat := key (0x5400 + n) (0x04)
/-- 0x5400–0x5407:05 FilterTime (F32, R90). -/
abbrev gcFilterTime (n : Nat) : Nat := key (0x5400 + n) (0x05)
/-- 0x5400–0x5407:06 LitresPerCount (F32, R90). -/
abbrev gcLitresPerCount (n : Nat) : Nat := key (0x5400 + n) (0x06)
/-- 0x5400–0x5407:07 Position (U64, R90). -/
abbrev gcPosition (n : Nat) : Nat := key (0x5400 + n) (0x07)
/-- 0x5400–0x5407:08 StallTime (F32, R90). -/
abbrev gcStallTime (n : Nat) : Nat := key (0x5400 + n) (0x08)
/-- 0x5400–0x5407:09 Rate (F32, R90). -/
abbrev gcRate (n : Nat) : Nat := key (0x5400 + n) (0x09)
/-- 0x5400–0x5407:0A VolumeRate (F32, R90). -/
abbrev gcVolumeRate (n : Nat) : Nat := key (0x5400 + n) (0x0A)
/-- 0x5400–0x5407:0B Status (U16, R90). -/
abbrev gcStatus (n : Nat) : Nat := key (0x5400 + n) (0x0B)
/-- 0x5400–0x5407:0C QuadratureErrors (U32, R90). -/
abbrev gcQuadratureErrors (n : Nat) : Nat := key (0x5400 + n) (0x0C)
/-- 0x5400–0x5407:0D GlitchCount (U32, R90). -/
abbrev gcGlitchCount (n : Nat) : Nat := key (0x5400 + n) (0x0D)

/-- 0x5410:01 Enable (BOOL, R96). -/
abbrev mpEnable : Nat := key (0x5410) (0x01)
/-- 0x5410:02 Frequency (F32, R96). -/
abbrev mpFrequency : Nat := key (0x5410) (0x02)
/-- 0x5410:03 Phase (U16, R96). -/
abbrev mpPhase : Nat := key (0x5410) (0x03)
/-- 0x5410:04 Position (U64, R96). -/
abbrev mpPosition : Nat := key (0x5410) (0x04)
/-- 0x5410:05 Status (U16, R96). -/
abbrev mpStatus : Nat := key (0x5410) (0x05)
/-- 0x5410:06 PhaseOffset (I16, R96). -/
abbrev mpPhaseOffset : Nat := key (0x5410) (0x06)
/-- 0x5410:07 LockLossCount (U32, R96). -/
abbrev mpLockLossCount : Nat := key (0x5410) (0x07)

/-- 0x5420:01 Time (U64, R101). -/
abbrev wcTime : Nat := key (0x5420) (0x01)
/-- 0x5420:02 SyncSource (U8, R101). -/
abbrev wcSyncSource : Nat := key (0x5420) (0x02)
/-- 0x5420:03 SyncStatus (U16, R101). -/
abbrev wcSyncStatus : Nat := key (0x5420) (0x03)
/-- 0x5420:04 Offset (I32, R101). -/
abbrev wcOffset : Nat := key (0x5420) (0x04)
/-- 0x5420:05 RateCorrection (F32, R101). -/
abbrev wcRateCorrection : Nat := key (0x5420) (0x05)
/-- 0x5420:06 SyncLossTime (F32, R101). -/
abbrev wcSyncLossTime : Nat := key (0x5420) (0x06)
/-- 0x5420:07 StepThreshold (U32, R101). -/
abbrev wcStepThreshold : Nat := key (0x5420) (0x07)

end Ob

end Sys2Proof.Machine
end

