-- ==== Sys2Proof/Machine/ObjectsC.lean ====
section
/-! DEFINITION. The names of the objects at 0x6000–0xF004 (R44, R46): each is the key of one index and subindex. -/
namespace Sys2Proof.Machine

namespace Ob

/-- 0x6000–0x6003:01 Supply (U8, R370). -/
abbrev groupSupply (n : Nat) : Nat := key (0x6000 + n) (0x01)
/-- 0x6000–0x6003:02 SupplyVoltage (F32, R370). -/
abbrev groupSupplyVoltage (n : Nat) : Nat := key (0x6000 + n) (0x02)
/-- 0x6000–0x6003:03 GroupStatus (U16, R370). -/
abbrev groupGroupStatus (n : Nat) : Nat := key (0x6000 + n) (0x03)
/-- 0x6000–0x6003:04 AutoRestore (BOOL, R370). -/
abbrev groupAutoRestore (n : Nat) : Nat := key (0x6000 + n) (0x04)
/-- 0x6000–0x6003:05 GroupReset (U8, R370). -/
abbrev groupGroupReset (n : Nat) : Nat := key (0x6000 + n) (0x05)
/-- 0x6000–0x6003:06 GroupCurrent (F32, R370). -/
abbrev groupGroupCurrent (n : Nat) : Nat := key (0x6000 + n) (0x06)
/-- 0x6000–0x6003:07 TripCount (U32, R370). -/
abbrev groupTripCount (n : Nat) : Nat := key (0x6000 + n) (0x07)

/-- 0x6008:01 SilenceTime (F32, R373). -/
abbrev silenceSilenceTime : Nat := key (0x6008) (0x01)
/-- 0x6008:02 AllOffTime (F32, R373). -/
abbrev silenceAllOffTime : Nat := key (0x6008) (0x02)
/-- 0x6008:03 SilenceState (U8, R373). -/
abbrev silenceSilenceState : Nat := key (0x6008) (0x03)
/-- 0x6008:04 SilenceCount (U32, R373). -/
abbrev silenceSilenceCount : Nat := key (0x6008) (0x04)
/-- 0x6008:05 SafeConfigValid (BOOL, R373). -/
abbrev silenceSafeConfigValid : Nat := key (0x6008) (0x05)

/-- 0x6010–0x602F:01 Direction (U8, R357). -/
abbrev pinDirection (n : Nat) : Nat := key (0x6010 + n) (0x01)
/-- 0x6010–0x602F:02 InputType (U8, R357). -/
abbrev pinInputType (n : Nat) : Nat := key (0x6010 + n) (0x02)
/-- 0x6010–0x602F:03 FilterTime (F32, R357). -/
abbrev pinFilterTime (n : Nat) : Nat := key (0x6010 + n) (0x03)
/-- 0x6010–0x602F:04 WireBreakEnable (BOOL, R357). -/
abbrev pinWireBreakEnable (n : Nat) : Nat := key (0x6010 + n) (0x04)
/-- 0x6010–0x602F:05 EdgeEvent (U8, R357). -/
abbrev pinEdgeEvent (n : Nat) : Nat := key (0x6010 + n) (0x05)
/-- 0x6010–0x602F:06 RateWindow (F32, R357). -/
abbrev pinRateWindow (n : Nat) : Nat := key (0x6010 + n) (0x06)
/-- 0x6010–0x602F:07 RateTimeout (F32, R357). -/
abbrev pinRateTimeout (n : Nat) : Nat := key (0x6010 + n) (0x07)
/-- 0x6010–0x602F:08 PowerUpValue (U8, R357). -/
abbrev pinPowerUpValue (n : Nat) : Nat := key (0x6010 + n) (0x08)
/-- 0x6010–0x602F:09 SafeState (U8, R357). -/
abbrev pinSafeState (n : Nat) : Nat := key (0x6010 + n) (0x09)
/-- 0x6010–0x602F:0A OverloadRetries (U8, R357). -/
abbrev pinOverloadRetries (n : Nat) : Nat := key (0x6010 + n) (0x0A)
/-- 0x6010–0x602F:0B OpenLoadEnable (BOOL, R357). -/
abbrev pinOpenLoadEnable (n : Nat) : Nat := key (0x6010 + n) (0x0B)
/-- 0x6010–0x602F:0C PinStatus (U16, R357). -/
abbrev pinPinStatus (n : Nat) : Nat := key (0x6010 + n) (0x0C)
/-- 0x6010–0x602F:0D PulseCount (U32, R357). -/
abbrev pinPulseCount (n : Nat) : Nat := key (0x6010 + n) (0x0D)
/-- 0x6010–0x602F:0E PulseRate (F32, R357). -/
abbrev pinPulseRate (n : Nat) : Nat := key (0x6010 + n) (0x0E)
/-- 0x6010–0x602F:0F OutputCurrent (F32, R357). -/
abbrev pinOutputCurrent (n : Nat) : Nat := key (0x6010 + n) (0x0F)
/-- 0x6010–0x602F:10 OverloadCount (U32, R357). -/
abbrev pinOverloadCount (n : Nat) : Nat := key (0x6010 + n) (0x10)
/-- 0x6010–0x602F:11 PinReset (U8, R357). -/
abbrev pinPinReset (n : Nat) : Nat := key (0x6010 + n) (0x11)
/-- 0x6010–0x602F:12 PinName (STR, R357). -/
abbrev pinPinName (n : Nat) : Nat := key (0x6010 + n) (0x12)

/-- 0x6110–0x611F:01 Enable (BOOL, R379). -/
abbrev aiEnable (n : Nat) : Nat := key (0x6110 + n) (0x01)
/-- 0x6110–0x611F:02 Range (U8, R379). -/
abbrev aiRange (n : Nat) : Nat := key (0x6110 + n) (0x02)
/-- 0x6110–0x611F:03 IntegrationMode (U8, R379). -/
abbrev aiIntegrationMode (n : Nat) : Nat := key (0x6110 + n) (0x03)
/-- 0x6110–0x611F:04 TxSupplyEnable (BOOL, R379). -/
abbrev aiTxSupplyEnable (n : Nat) : Nat := key (0x6110 + n) (0x04)
/-- 0x6110–0x611F:05 FaultConfirm (F32, R379). -/
abbrev aiFaultConfirm (n : Nat) : Nat := key (0x6110 + n) (0x05)
/-- 0x6110–0x611F:06 Reading (F32, R379). -/
abbrev aiReading (n : Nat) : Nat := key (0x6110 + n) (0x06)
/-- 0x6110–0x611F:07 InputStatus (U16, R379). -/
abbrev aiInputStatus (n : Nat) : Nat := key (0x6110 + n) (0x07)
/-- 0x6110–0x611F:08 TxSupplyCurrent (F32, R379). -/
abbrev aiTxSupplyCurrent (n : Nat) : Nat := key (0x6110 + n) (0x08)
/-- 0x6110–0x611F:09 InputName (STR, R379). -/
abbrev aiInputName (n : Nat) : Nat := key (0x6110 + n) (0x09)

/-- 0x6130–0x6137:01 Enable (BOOL, R383). -/
abbrev aoEnable (n : Nat) : Nat := key (0x6130 + n) (0x01)
/-- 0x6130–0x6137:02 Range (U8, R383). -/
abbrev aoRange (n : Nat) : Nat := key (0x6130 + n) (0x02)
/-- 0x6130–0x6137:03 PowerUpValue (F32, R383). -/
abbrev aoPowerUpValue (n : Nat) : Nat := key (0x6130 + n) (0x03)
/-- 0x6130–0x6137:04 SafeMode (U8, R383). -/
abbrev aoSafeMode (n : Nat) : Nat := key (0x6130 + n) (0x04)
/-- 0x6130–0x6137:05 SafeValue (F32, R383). -/
abbrev aoSafeValue (n : Nat) : Nat := key (0x6130 + n) (0x05)
/-- 0x6130–0x6137:06 Commanded (F32, R383). -/
abbrev aoCommanded (n : Nat) : Nat := key (0x6130 + n) (0x06)
/-- 0x6130–0x6137:07 Delivered (F32, R383). -/
abbrev aoDelivered (n : Nat) : Nat := key (0x6130 + n) (0x07)
/-- 0x6130–0x6137:08 OutputStatus (U16, R383). -/
abbrev aoOutputStatus (n : Nat) : Nat := key (0x6130 + n) (0x08)
/-- 0x6130–0x6137:09 Headroom (F32, R383). -/
abbrev aoHeadroom (n : Nat) : Nat := key (0x6130 + n) (0x09)
/-- 0x6130–0x6137:0A TrimGain (F32, R383). -/
abbrev aoTrimGain (n : Nat) : Nat := key (0x6130 + n) (0x0A)
/-- 0x6130–0x6137:0B TrimOffset (F32, R383). -/
abbrev aoTrimOffset (n : Nat) : Nat := key (0x6130 + n) (0x0B)
/-- 0x6130–0x6137:0C TrimCommand (U8, R383). -/
abbrev aoTrimCommand (n : Nat) : Nat := key (0x6130 + n) (0x0C)
/-- 0x6130–0x6137:0D TrimMeasured (F32, R383). -/
abbrev aoTrimMeasured (n : Nat) : Nat := key (0x6130 + n) (0x0D)
/-- 0x6130–0x6137:0E TrimStatus (U8, R383). -/
abbrev aoTrimStatus (n : Nat) : Nat := key (0x6130 + n) (0x0E)
/-- 0x6130–0x6137:0F NotAchCount (U32, R383). -/
abbrev aoNotAchCount (n : Nat) : Nat := key (0x6130 + n) (0x0F)
/-- 0x6130–0x6137:10 OutputName (STR, R383). -/
abbrev aoOutputName (n : Nat) : Nat := key (0x6130 + n) (0x10)

/-- 0x6140–0x6147:01 Enable (BOOL, R390). -/
abbrev rtEnable (n : Nat) : Nat := key (0x6140 + n) (0x01)
/-- 0x6140–0x6147:02 Element (U8, R390). -/
abbrev rtElement (n : Nat) : Nat := key (0x6140 + n) (0x02)
/-- 0x6140–0x6147:03 Wiring (U8, R390). -/
abbrev rtWiring (n : Nat) : Nat := key (0x6140 + n) (0x03)
/-- 0x6140–0x6147:04 IntegrationMode (U8, R390). -/
abbrev rtIntegrationMode (n : Nat) : Nat := key (0x6140 + n) (0x04)
/-- 0x6140–0x6147:05 Resistance (F32, R390). -/
abbrev rtResistance (n : Nat) : Nat := key (0x6140 + n) (0x05)
/-- 0x6140–0x6147:06 Temperature (F32, R390). -/
abbrev rtTemperature (n : Nat) : Nat := key (0x6140 + n) (0x06)
/-- 0x6140–0x6147:07 LeadResistance (F32, R390). -/
abbrev rtLeadResistance (n : Nat) : Nat := key (0x6140 + n) (0x07)
/-- 0x6140–0x6147:08 RtdStatus (U16, R390). -/
abbrev rtRtdStatus (n : Nat) : Nat := key (0x6140 + n) (0x08)
/-- 0x6140–0x6147:09 LeadOffset (F32, R390). -/
abbrev rtLeadOffset (n : Nat) : Nat := key (0x6140 + n) (0x09)
/-- 0x6140–0x6147:0A RtdName (STR, R390). -/
abbrev rtRtdName (n : Nat) : Nat := key (0x6140 + n) (0x0A)

/-- 0x6210–0x6217:01 Enable (BOOL, R395). -/
abbrev fanEnable (n : Nat) : Nat := key (0x6210 + n) (0x01)
/-- 0x6210–0x6217:02 Role (U8, R395). -/
abbrev fanRole (n : Nat) : Nat := key (0x6210 + n) (0x02)
/-- 0x6210–0x6217:03 ControlMode (U8, R395). -/
abbrev fanControlMode (n : Nat) : Nat := key (0x6210 + n) (0x03)
/-- 0x6210–0x6217:04 TachPulses (U8, R395). -/
abbrev fanTachPulses (n : Nat) : Nat := key (0x6210 + n) (0x04)
/-- 0x6210–0x6217:05 MinVoltage (F32, R395). -/
abbrev fanMinVoltage (n : Nat) : Nat := key (0x6210 + n) (0x05)
/-- 0x6210–0x6217:06 MaxVoltage (F32, R395). -/
abbrev fanMaxVoltage (n : Nat) : Nat := key (0x6210 + n) (0x06)
/-- 0x6210–0x6217:07 ProveSpeed (F32, R395). -/
abbrev fanProveSpeed (n : Nat) : Nat := key (0x6210 + n) (0x07)
/-- 0x6210–0x6217:08 SpeedKp (F32, R395). -/
abbrev fanSpeedKp (n : Nat) : Nat := key (0x6210 + n) (0x08)
/-- 0x6210–0x6217:09 SpeedKi (F32, R395). -/
abbrev fanSpeedKi (n : Nat) : Nat := key (0x6210 + n) (0x09)
/-- 0x6210–0x6217:0A PowerUpValue (F32, R395). -/
abbrev fanPowerUpValue (n : Nat) : Nat := key (0x6210 + n) (0x0A)
/-- 0x6210–0x6217:0B SafeMode (U8, R395). -/
abbrev fanSafeMode (n : Nat) : Nat := key (0x6210 + n) (0x0B)
/-- 0x6210–0x6217:0C SafeValue (F32, R395). -/
abbrev fanSafeValue (n : Nat) : Nat := key (0x6210 + n) (0x0C)
/-- 0x6210–0x6217:0D BandWidth (F32, R395). -/
abbrev fanBandWidth (n : Nat) : Nat := key (0x6210 + n) (0x0D)
/-- 0x6210–0x6217:0E Speed (F32, R395). -/
abbrev fanSpeed (n : Nat) : Nat := key (0x6210 + n) (0x0E)
/-- 0x6210–0x6217:0F AppliedVoltage (F32, R395). -/
abbrev fanAppliedVoltage (n : Nat) : Nat := key (0x6210 + n) (0x0F)
/-- 0x6210–0x6217:10 FanCurrent (F32, R395). -/
abbrev fanFanCurrent (n : Nat) : Nat := key (0x6210 + n) (0x10)
/-- 0x6210–0x6217:11 LearnedVoltage (F32, R395). -/
abbrev fanLearnedVoltage (n : Nat) : Nat := key (0x6210 + n) (0x11)
/-- 0x6210–0x6217:12 LearnedCurrent (F32, R395). -/
abbrev fanLearnedCurrent (n : Nat) : Nat := key (0x6210 + n) (0x12)
/-- 0x6210–0x6217:13 FanStatus (U16, R395). -/
abbrev fanFanStatus (n : Nat) : Nat := key (0x6210 + n) (0x13)
/-- 0x6210–0x6217:14 FaultCause (U8, R395). -/
abbrev fanFaultCause (n : Nat) : Nat := key (0x6210 + n) (0x14)
/-- 0x6210–0x6217:15 FanReset (U8, R395). -/
abbrev fanFanReset (n : Nat) : Nat := key (0x6210 + n) (0x15)
/-- 0x6210–0x6217:16 StartAttempts (U32, R395). -/
abbrev fanStartAttempts (n : Nat) : Nat := key (0x6210 + n) (0x16)
/-- 0x6210–0x6217:17 RunTime (U32, R395). -/
abbrev fanRunTime (n : Nat) : Nat := key (0x6210 + n) (0x17)
/-- 0x6210–0x6217:18 FanName (STR, R395). -/
abbrev fanFanName (n : Nat) : Nat := key (0x6210 + n) (0x18)

/-- 0x6300:01 RoundsRunning (BOOL, R276). -/
abbrev seqRoundsRunning : Nat := key (0x6300) (0x01)
/-- 0x6300:02 RoundOverruns (U32, R276). -/
abbrev seqRoundOverruns : Nat := key (0x6300) (0x02)
/-- 0x6300:03 LastRoundDuration (F32, R276). -/
abbrev seqLastRoundDuration : Nat := key (0x6300) (0x03)

/-- 0x6310–0x6313:01 Enable (BOOL, R283). -/
abbrev dryerEnable (n : Nat) : Nat := key (0x6310 + n) (0x01)
/-- 0x6310–0x6313:02 Kind (U8, R283). -/
abbrev dryerKind (n : Nat) : Nat := key (0x6310 + n) (0x02)
/-- 0x6310–0x6313:03 PlenumLoop (U16, R283). -/
abbrev dryerPlenumLoop (n : Nat) : Nat := key (0x6310 + n) (0x03)
/-- 0x6310–0x6313:04 DischargeLoop (U16, R283). -/
abbrev dryerDischargeLoop (n : Nat) : Nat := key (0x6310 + n) (0x04)
/-- 0x6310–0x6313:05 HeatOffValue (F32, R283). -/
abbrev dryerHeatOffValue (n : Nat) : Nat := key (0x6310 + n) (0x05)
/-- 0x6310–0x6313:06 HeatProvenChannel (U16, R283). -/
abbrev dryerHeatProvenChannel (n : Nat) : Nat := key (0x6310 + n) (0x06)
/-- 0x6310–0x6313:07 FullChannel (U16, R283). -/
abbrev dryerFullChannel (n : Nat) : Nat := key (0x6310 + n) (0x07)
/-- 0x6310–0x6313:08 EmptyChannel (U16, R283). -/
abbrev dryerEmptyChannel (n : Nat) : Nat := key (0x6310 + n) (0x08)
/-- 0x6310–0x6313:09 FanRunChannel (U16, R283). -/
abbrev dryerFanRunChannel (n : Nat) : Nat := key (0x6310 + n) (0x09)
/-- 0x6310–0x6313:0A FanProvenChannel (U16, R283). -/
abbrev dryerFanProvenChannel (n : Nat) : Nat := key (0x6310 + n) (0x0A)
/-- 0x6310–0x6313:0B MeteringRunChannel (U16, R283). -/
abbrev dryerMeteringRunChannel (n : Nat) : Nat := key (0x6310 + n) (0x0B)
/-- 0x6310–0x6313:0C DischargeChain (U8, R283). -/
abbrev dryerDischargeChain (n : Nat) : Nat := key (0x6310 + n) (0x0C)
/-- 0x6310–0x6313:0D UnloadSpeed (F32, R283). -/
abbrev dryerUnloadSpeed (n : Nat) : Nat := key (0x6310 + n) (0x0D)
/-- 0x6310–0x6313:0E FillTimeout (F32, R283). -/
abbrev dryerFillTimeout (n : Nat) : Nat := key (0x6310 + n) (0x0E)
/-- 0x6310–0x6313:0F ProvenTimeout (F32, R283). -/
abbrev dryerProvenTimeout (n : Nat) : Nat := key (0x6310 + n) (0x0F)
/-- 0x6310–0x6313:10 ProvenLossTime (F32, R283). -/
abbrev dryerProvenLossTime (n : Nat) : Nat := key (0x6310 + n) (0x10)
/-- 0x6310–0x6313:11 WarmupBand (F32, R283). -/
abbrev dryerWarmupBand (n : Nat) : Nat := key (0x6310 + n) (0x11)
/-- 0x6310–0x6313:12 WarmupDwell (F32, R283). -/
abbrev dryerWarmupDwell (n : Nat) : Nat := key (0x6310 + n) (0x12)
/-- 0x6310–0x6313:13 PlenumTrip (F32, R283). -/
abbrev dryerPlenumTrip (n : Nat) : Nat := key (0x6310 + n) (0x13)
/-- 0x6310–0x6313:14 CoolTime (F32, R283). -/
abbrev dryerCoolTime (n : Nat) : Nat := key (0x6310 + n) (0x14)
/-- 0x6310–0x6313:15 EmptyDwell (F32, R283). -/
abbrev dryerEmptyDwell (n : Nat) : Nat := key (0x6310 + n) (0x15)
/-- 0x6310–0x6313:16 EmptyTimeout (F32, R283). -/
abbrev dryerEmptyTimeout (n : Nat) : Nat := key (0x6310 + n) (0x16)
/-- 0x6310–0x6313:17 WaitTime (F32, R283). -/
abbrev dryerWaitTime (n : Nat) : Nat := key (0x6310 + n) (0x17)
/-- 0x6310–0x6313:18 BatchEndChannel (U16, R283). -/
abbrev dryerBatchEndChannel (n : Nat) : Nat := key (0x6310 + n) (0x18)
/-- 0x6310–0x6313:19 BatchTarget (F32, R283). -/
abbrev dryerBatchTarget (n : Nat) : Nat := key (0x6310 + n) (0x19)
/-- 0x6310–0x6313:1A AutoCycle (BOOL, R283). -/
abbrev dryerAutoCycle (n : Nat) : Nat := key (0x6310 + n) (0x1A)
/-- 0x6310–0x6313:1B Command (U8, R283). -/
abbrev dryerCommand (n : Nat) : Nat := key (0x6310 + n) (0x1B)
/-- 0x6310–0x6313:1C Step (U8, R283). -/
abbrev dryerStep (n : Nat) : Nat := key (0x6310 + n) (0x1C)
/-- 0x6310–0x6313:1D StepTime (F32, R283). -/
abbrev dryerStepTime (n : Nat) : Nat := key (0x6310 + n) (0x1D)
/-- 0x6310–0x6313:1E Status (U16, R283). -/
abbrev dryerStatus (n : Nat) : Nat := key (0x6310 + n) (0x1E)
/-- 0x6310–0x6313:1F FaultCause (U16, R283). -/
abbrev dryerFaultCause (n : Nat) : Nat := key (0x6310 + n) (0x1F)
/-- 0x6310–0x6313:20 FaultTime (U64, R283). -/
abbrev dryerFaultTime (n : Nat) : Nat := key (0x6310 + n) (0x20)
/-- 0x6310–0x6313:21 DryerName (STR, R283). -/
abbrev dryerDryerName (n : Nat) : Nat := key (0x6310 + n) (0x21)

/-- 0x6320–0x633F:01 Enable (BOOL, R277). -/
abbrev convEnable (n : Nat) : Nat := key (0x6320 + n) (0x01)
/-- 0x6320–0x633F:02 RunChannel (U16, R277). -/
abbrev convRunChannel (n : Nat) : Nat := key (0x6320 + n) (0x02)
/-- 0x6320–0x633F:03 MotionChannel (U16, R277). -/
abbrev convMotionChannel (n : Nat) : Nat := key (0x6320 + n) (0x03)
/-- 0x6320–0x633F:04 MinPulseRate (F32, R277). -/
abbrev convMinPulseRate (n : Nat) : Nat := key (0x6320 + n) (0x04)
/-- 0x6320–0x633F:05 MotionStartTime (F32, R277). -/
abbrev convMotionStartTime (n : Nat) : Nat := key (0x6320 + n) (0x05)
/-- 0x6320–0x633F:06 MotionLossTime (F32, R277). -/
abbrev convMotionLossTime (n : Nat) : Nat := key (0x6320 + n) (0x06)
/-- 0x6320–0x633F:07 PlugChannel (U16, R277). -/
abbrev convPlugChannel (n : Nat) : Nat := key (0x6320 + n) (0x07)
/-- 0x6320–0x633F:08 PlugTime (F32, R277). -/
abbrev convPlugTime (n : Nat) : Nat := key (0x6320 + n) (0x08)
/-- 0x6320–0x633F:09 StartDelay (F32, R277). -/
abbrev convStartDelay (n : Nat) : Nat := key (0x6320 + n) (0x09)
/-- 0x6320–0x633F:0A PurgeTime (F32, R277). -/
abbrev convPurgeTime (n : Nat) : Nat := key (0x6320 + n) (0x0A)
/-- 0x6320–0x633F:0B State (U8, R277). -/
abbrev convState (n : Nat) : Nat := key (0x6320 + n) (0x0B)
/-- 0x6320–0x633F:0C FaultCause (U8, R277). -/
abbrev convFaultCause (n : Nat) : Nat := key (0x6320 + n) (0x0C)
/-- 0x6320–0x633F:0D PulseRate (F32, R277). -/
abbrev convPulseRate (n : Nat) : Nat := key (0x6320 + n) (0x0D)
/-- 0x6320–0x633F:0E ConveyorName (STR, R277). -/
abbrev convConveyorName (n : Nat) : Nat := key (0x6320 + n) (0x0E)

/-- 0x6340–0x6347:01 Enable (BOOL, R278). -/
abbrev chainEnable (n : Nat) : Nat := key (0x6340 + n) (0x01)
/-- 0x6340–0x6347:02 MemberCount (U8, R278). -/
abbrev chainMemberCount (n : Nat) : Nat := key (0x6340 + n) (0x02)
/-- 0x6340–0x6347:03–:22 Member (U8, R278). -/
abbrev chainMember (n : Nat) (i : Nat) : Nat := key (0x6340 + n) (0x03 + i)
/-- 0x6340–0x6347:23 Command (U8, R278). -/
abbrev chainCommand (n : Nat) : Nat := key (0x6340 + n) (0x23)
/-- 0x6340–0x6347:24 State (U8, R278). -/
abbrev chainState (n : Nat) : Nat := key (0x6340 + n) (0x24)
/-- 0x6340–0x6347:25 FaultMember (U8, R278). -/
abbrev chainFaultMember (n : Nat) : Nat := key (0x6340 + n) (0x25)
/-- 0x6340–0x6347:26 FaultTime (U64, R278). -/
abbrev chainFaultTime (n : Nat) : Nat := key (0x6340 + n) (0x26)
/-- 0x6340–0x6347:27 ChainName (STR, R278). -/
abbrev chainChainName (n : Nat) : Nat := key (0x6340 + n) (0x27)

/-- 0x6380–0x63BF:01 Mode (U8, R291). -/
abbrev aerMode (n : Nat) : Nat := key (0x6380 + n) (0x01)
/-- 0x6380–0x63BF:02 FanRunChannel (U16, R291). -/
abbrev aerFanRunChannel (n : Nat) : Nat := key (0x6380 + n) (0x02)
/-- 0x6380–0x63BF:03 FanProvenChannel (U16, R291). -/
abbrev aerFanProvenChannel (n : Nat) : Nat := key (0x6380 + n) (0x03)
/-- 0x6380–0x63BF:04 GrainTempChannel (U16, R291). -/
abbrev aerGrainTempChannel (n : Nat) : Nat := key (0x6380 + n) (0x04)
/-- 0x6380–0x63BF:05 Profile (U8, R291). -/
abbrev aerProfile (n : Nat) : Nat := key (0x6380 + n) (0x05)
/-- 0x6380–0x63BF:06 TargetMoisture (F32, R291). -/
abbrev aerTargetMoisture (n : Nat) : Nat := key (0x6380 + n) (0x06)
/-- 0x6380–0x63BF:07 FanRise (F32, R291). -/
abbrev aerFanRise (n : Nat) : Nat := key (0x6380 + n) (0x07)
/-- 0x6380–0x63BF:08 CoolDelta (F32, R291). -/
abbrev aerCoolDelta (n : Nat) : Nat := key (0x6380 + n) (0x08)
/-- 0x6380–0x63BF:09 DryBand (F32, R291). -/
abbrev aerDryBand (n : Nat) : Nat := key (0x6380 + n) (0x09)
/-- 0x6380–0x63BF:0A WetBand (F32, R291). -/
abbrev aerWetBand (n : Nat) : Nat := key (0x6380 + n) (0x0A)
/-- 0x6380–0x63BF:0B MinAirTemp (F32, R291). -/
abbrev aerMinAirTemp (n : Nat) : Nat := key (0x6380 + n) (0x0B)
/-- 0x6380–0x63BF:0C OpenDwell (F32, R291). -/
abbrev aerOpenDwell (n : Nat) : Nat := key (0x6380 + n) (0x0C)
/-- 0x6380–0x63BF:0D CloseDwell (F32, R291). -/
abbrev aerCloseDwell (n : Nat) : Nat := key (0x6380 + n) (0x0D)
/-- 0x6380–0x63BF:0E MinRun (F32, R291). -/
abbrev aerMinRun (n : Nat) : Nat := key (0x6380 + n) (0x0E)
/-- 0x6380–0x63BF:0F MinOff (F32, R291). -/
abbrev aerMinOff (n : Nat) : Nat := key (0x6380 + n) (0x0F)
/-- 0x6380–0x63BF:10 Command (U8, R291). -/
abbrev aerCommand (n : Nat) : Nat := key (0x6380 + n) (0x10)
/-- 0x6380–0x63BF:11 State (U8, R291). -/
abbrev aerState (n : Nat) : Nat := key (0x6380 + n) (0x11)
/-- 0x6380–0x63BF:12 Status (U16, R291). -/
abbrev aerStatus (n : Nat) : Nat := key (0x6380 + n) (0x12)
/-- 0x6380–0x63BF:13 PlenumTemp (F32, R291). -/
abbrev aerPlenumTemp (n : Nat) : Nat := key (0x6380 + n) (0x13)
/-- 0x6380–0x63BF:14 PlenumRH (F32, R291). -/
abbrev aerPlenumRH (n : Nat) : Nat := key (0x6380 + n) (0x14)
/-- 0x6380–0x63BF:15 PlenumEMC (F32, R291). -/
abbrev aerPlenumEMC (n : Nat) : Nat := key (0x6380 + n) (0x15)
/-- 0x6380–0x63BF:16 GrainTemp (F32, R291). -/
abbrev aerGrainTemp (n : Nat) : Nat := key (0x6380 + n) (0x16)
/-- 0x6380–0x63BF:17 RunTime (U32, R291). -/
abbrev aerRunTime (n : Nat) : Nat := key (0x6380 + n) (0x17)

/-- 0x7000–0x7003:01 Enable (BOOL, R326). -/
abbrev busEnable (n : Nat) : Nat := key (0x7000 + n) (0x01)
/-- 0x7000–0x7003:02 OperatingMode (U8, R326). -/
abbrev busOperatingMode (n : Nat) : Nat := key (0x7000 + n) (0x02)
/-- 0x7000–0x7003:03 FdEnable (BOOL, R326). -/
abbrev busFdEnable (n : Nat) : Nat := key (0x7000 + n) (0x03)
/-- 0x7000–0x7003:04 ProtocolException (U8, R326). -/
abbrev busProtocolException (n : Nat) : Nat := key (0x7000 + n) (0x04)
/-- 0x7000–0x7003:05 TxOrder (U8, R326). -/
abbrev busTxOrder (n : Nat) : Nat := key (0x7000 + n) (0x05)
/-- 0x7000–0x7003:06 RecoveryMode (U8, R326). -/
abbrev busRecoveryMode (n : Nat) : Nat := key (0x7000 + n) (0x06)
/-- 0x7000–0x7003:07 RecoveryDelay (F32, R326). -/
abbrev busRecoveryDelay (n : Nat) : Nat := key (0x7000 + n) (0x07)
/-- 0x7000–0x7003:08 RecoveryCommand (U8, R326). -/
abbrev busRecoveryCommand (n : Nat) : Nat := key (0x7000 + n) (0x08)
/-- 0x7000–0x7003:09 Status (U32, R326). -/
abbrev busStatus (n : Nat) : Nat := key (0x7000 + n) (0x09)
/-- 0x7000–0x7003:0A TEC (U16, R326). -/
abbrev busTEC (n : Nat) : Nat := key (0x7000 + n) (0x0A)
/-- 0x7000–0x7003:0B REC (U8, R326). -/
abbrev busREC (n : Nat) : Nat := key (0x7000 + n) (0x0B)
/-- 0x7000–0x7003:0C RecoveryProgress (U8, R326). -/
abbrev busRecoveryProgress (n : Nat) : Nat := key (0x7000 + n) (0x0C)

/-- 0x7010–0x7013:01 NomPrescaler (U16, R307). -/
abbrev busTimingNomPrescaler (n : Nat) : Nat := key (0x7010 + n) (0x01)
/-- 0x7010–0x7013:02 NomTseg1 (U16, R307). -/
abbrev busTimingNomTseg1 (n : Nat) : Nat := key (0x7010 + n) (0x02)
/-- 0x7010–0x7013:03 NomTseg2 (U8, R307). -/
abbrev busTimingNomTseg2 (n : Nat) : Nat := key (0x7010 + n) (0x03)
/-- 0x7010–0x7013:04 NomSjw (U8, R307). -/
abbrev busTimingNomSjw (n : Nat) : Nat := key (0x7010 + n) (0x04)
/-- 0x7010–0x7013:05 DataPrescaler (U8, R307). -/
abbrev busTimingDataPrescaler (n : Nat) : Nat := key (0x7010 + n) (0x05)
/-- 0x7010–0x7013:06 DataTseg1 (U8, R307). -/
abbrev busTimingDataTseg1 (n : Nat) : Nat := key (0x7010 + n) (0x06)
/-- 0x7010–0x7013:07 DataTseg2 (U8, R307). -/
abbrev busTimingDataTseg2 (n : Nat) : Nat := key (0x7010 + n) (0x07)
/-- 0x7010–0x7013:08 DataSjw (U8, R307). -/
abbrev busTimingDataSjw (n : Nat) : Nat := key (0x7010 + n) (0x08)
/-- 0x7010–0x7013:09 TdcMode (U8, R307). -/
abbrev busTimingTdcMode (n : Nat) : Nat := key (0x7010 + n) (0x09)
/-- 0x7010–0x7013:0A TdcOffset (U8, R307). -/
abbrev busTimingTdcOffset (n : Nat) : Nat := key (0x7010 + n) (0x0A)
/-- 0x7010–0x7013:0B TdcMeasured (U8, R307). -/
abbrev busTimingTdcMeasured (n : Nat) : Nat := key (0x7010 + n) (0x0B)
/-- 0x7010–0x7013:0C NomBitRate (F32, R307). -/
abbrev busTimingNomBitRate (n : Nat) : Nat := key (0x7010 + n) (0x0C)
/-- 0x7010–0x7013:0D DataBitRate (F32, R307). -/
abbrev busTimingDataBitRate (n : Nat) : Nat := key (0x7010 + n) (0x0D)

/-- 0x7020–0x7023:01–:20 FilterElement (U64, R326). -/
abbrev filterFilterElement (n : Nat) (i : Nat) : Nat := key (0x7020 + n) (0x01 + i)
/-- 0x7020–0x7023:21 NonMatchAction (U8, R326). -/
abbrev filterNonMatchAction (n : Nat) : Nat := key (0x7020 + n) (0x21)
/-- 0x7020–0x7023:22 RemoteAction (U8, R326). -/
abbrev filterRemoteAction (n : Nat) : Nat := key (0x7020 + n) (0x22)

/-- 0x7030–0x7033:01 RawTxFrame (DOMAIN, R326). -/
abbrev busTxRawTxFrame (n : Nat) : Nat := key (0x7030 + n) (0x01)
/-- 0x7030–0x7033:02 RawTxCancel (U8, R326). -/
abbrev busTxRawTxCancel (n : Nat) : Nat := key (0x7030 + n) (0x02)
/-- 0x7030–0x7033:03–:05 BufferStatus (U8, R326). -/
abbrev busTxBufferStatus (n : Nat) (i : Nat) : Nat := key (0x7030 + n) (0x03 + i)
/-- 0x7030–0x7033:06 TxCount (U32, R326). -/
abbrev busTxTxCount (n : Nat) : Nat := key (0x7030 + n) (0x06)
/-- 0x7030–0x7033:07 ArbLostCount (U32, R326). -/
abbrev busTxArbLostCount (n : Nat) : Nat := key (0x7030 + n) (0x07)
/-- 0x7030–0x7033:08 CancelCount (U32, R326). -/
abbrev busTxCancelCount (n : Nat) : Nat := key (0x7030 + n) (0x08)
/-- 0x7030–0x7033:09 ErrorFrameCount (U32, R326). -/
abbrev busTxErrorFrameCount (n : Nat) : Nat := key (0x7030 + n) (0x09)

/-- 0x7040–0x7043:01 RawOldest (U32, R326). -/
abbrev busRxRawOldest (n : Nat) : Nat := key (0x7040 + n) (0x01)
/-- 0x7040–0x7043:02 RawNewest (U32, R326). -/
abbrev busRxRawNewest (n : Nat) : Nat := key (0x7040 + n) (0x02)
/-- 0x7040–0x7043:03 RawSelect (U32, R326). -/
abbrev busRxRawSelect (n : Nat) : Nat := key (0x7040 + n) (0x03)
/-- 0x7040–0x7043:04 RawFrame (DOMAIN, R326). -/
abbrev busRxRawFrame (n : Nat) : Nat := key (0x7040 + n) (0x04)
/-- 0x7040–0x7043:05 RawOverwritten (U32, R326). -/
abbrev busRxRawOverwritten (n : Nat) : Nat := key (0x7040 + n) (0x05)
/-- 0x7040–0x7043:06 RxCount (U32, R326). -/
abbrev busRxRxCount (n : Nat) : Nat := key (0x7040 + n) (0x06)
/-- 0x7040–0x7043:07 RxLost (U32, R326). -/
abbrev busRxRxLost (n : Nat) : Nat := key (0x7040 + n) (0x07)
/-- 0x7040–0x7043:08 QueueFill (U8, R326). -/
abbrev busRxQueueFill (n : Nat) : Nat := key (0x7040 + n) (0x08)

/-- 0x7100:01 NodeId (U8, R330). -/
abbrev worustNodeId : Nat := key (0x7100) (0x01)
/-- 0x7100:02 PointTimeout (F32, R330). -/
abbrev worustPointTimeout : Nat := key (0x7100) (0x02)
/-- 0x7100:03 UdpPort (U16, R330). -/
abbrev worustUdpPort : Nat := key (0x7100) (0x03)
/-- 0x7100:04 EmergencyChannels (U8, R330). -/
abbrev worustEmergencyChannels : Nat := key (0x7100) (0x04)
/-- 0x7100:05 RequestsServed (U32, R330). -/
abbrev worustRequestsServed : Nat := key (0x7100) (0x05)
/-- 0x7100:06 RequestsDropped (U32, R330). -/
abbrev worustRequestsDropped : Nat := key (0x7100) (0x06)
/-- 0x7100:07 MalformedCount (U32, R330). -/
abbrev worustMalformedCount : Nat := key (0x7100) (0x07)

/-- 0x7110–0x7111:01 Enable (BOOL, R350). -/
abbrev ethEnable (n : Nat) : Nat := key (0x7110 + n) (0x01)
/-- 0x7110–0x7111:02 LinkMode (U8, R350). -/
abbrev ethLinkMode (n : Nat) : Nat := key (0x7110 + n) (0x02)
/-- 0x7110–0x7111:03 LinkStatus (U8, R350). -/
abbrev ethLinkStatus (n : Nat) : Nat := key (0x7110 + n) (0x03)
/-- 0x7110–0x7111:04 RxFrames (U32, R350). -/
abbrev ethRxFrames (n : Nat) : Nat := key (0x7110 + n) (0x04)
/-- 0x7110–0x7111:05 TxFrames (U32, R350). -/
abbrev ethTxFrames (n : Nat) : Nat := key (0x7110 + n) (0x05)
/-- 0x7110–0x7111:06 RxErrors (U32, R350). -/
abbrev ethRxErrors (n : Nat) : Nat := key (0x7110 + n) (0x06)
/-- 0x7110–0x7111:07 StormDrops (U32, R350). -/
abbrev ethStormDrops (n : Nat) : Nat := key (0x7110 + n) (0x07)

/-- 0x7118:01 MacAddress (U64, R350). -/
abbrev ipMacAddress : Nat := key (0x7118) (0x01)
/-- 0x7118:02 AddressMode (U8, R350). -/
abbrev ipAddressMode : Nat := key (0x7118) (0x02)
/-- 0x7118:03 StaticAddress (U32, R350). -/
abbrev ipStaticAddress : Nat := key (0x7118) (0x03)
/-- 0x7118:04 StaticMask (U32, R350). -/
abbrev ipStaticMask : Nat := key (0x7118) (0x04)
/-- 0x7118:05 Gateway (U32, R350). -/
abbrev ipGateway : Nat := key (0x7118) (0x05)
/-- 0x7118:06 Address (U32, R350). -/
abbrev ipAddress : Nat := key (0x7118) (0x06)
/-- 0x7118:07 Mask (U32, R350). -/
abbrev ipMask : Nat := key (0x7118) (0x07)
/-- 0x7118:08 LeaseRemaining (U32, R350). -/
abbrev ipLeaseRemaining : Nat := key (0x7118) (0x08)
/-- 0x7118:09 IpStatus (U16, R350). -/
abbrev ipIpStatus : Nat := key (0x7118) (0x09)

/-- 0x7120:01 BusSyncChannel (U8, R344). -/
abbrev tsyncBusSyncChannel : Nat := key (0x7120) (0x01)
/-- 0x7120:02 MasterChannels (U8, R344). -/
abbrev tsyncMasterChannels : Nat := key (0x7120) (0x02)
/-- 0x7120:03 SyncInterval (F32, R344). -/
abbrev tsyncSyncInterval : Nat := key (0x7120) (0x03)
/-- 0x7120:04 ServerAddress (U32, R344). -/
abbrev tsyncServerAddress : Nat := key (0x7120) (0x04)
/-- 0x7120:05 ServerPort (U16, R344). -/
abbrev tsyncServerPort : Nat := key (0x7120) (0x05)
/-- 0x7120:06 PollInterval (F32, R344). -/
abbrev tsyncPollInterval : Nat := key (0x7120) (0x06)
/-- 0x7120:07 LastDelay (F32, R344). -/
abbrev tsyncLastDelay : Nat := key (0x7120) (0x07)

/-- 0x7140–0x715F:01 Enable (BOOL, R343). -/
abbrev pubEnable (n : Nat) : Nat := key (0x7140 + n) (0x01)
/-- 0x7140–0x715F:02 Channel (U16, R343). -/
abbrev pubChannel (n : Nat) : Nat := key (0x7140 + n) (0x02)
/-- 0x7140–0x715F:03 Interface (U8, R343). -/
abbrev pubInterface (n : Nat) : Nat := key (0x7140 + n) (0x03)
/-- 0x7140–0x715F:04 DestNode (U8, R343). -/
abbrev pubDestNode (n : Nat) : Nat := key (0x7140 + n) (0x04)
/-- 0x7140–0x715F:05 Address (U32, R343). -/
abbrev pubAddress (n : Nat) : Nat := key (0x7140 + n) (0x05)
/-- 0x7140–0x715F:06 Port (U16, R343). -/
abbrev pubPort (n : Nat) : Nat := key (0x7140 + n) (0x06)
/-- 0x7140–0x715F:07 Point (U8, R343). -/
abbrev pubPoint (n : Nat) : Nat := key (0x7140 + n) (0x07)
/-- 0x7140–0x715F:08 Period (F32, R343). -/
abbrev pubPeriod (n : Nat) : Nat := key (0x7140 + n) (0x08)
/-- 0x7140–0x715F:09 Delta (F32, R343). -/
abbrev pubDelta (n : Nat) : Nat := key (0x7140 + n) (0x09)
/-- 0x7140–0x715F:0A SentCount (U32, R343). -/
abbrev pubSentCount (n : Nat) : Nat := key (0x7140 + n) (0x0A)

/-- 0x7160–0x716F:01 Enable (BOOL, R341). -/
abbrev subEnable (n : Nat) : Nat := key (0x7160 + n) (0x01)
/-- 0x7160–0x716F:02 Interface (U8, R341). -/
abbrev subInterface (n : Nat) : Nat := key (0x7160 + n) (0x02)
/-- 0x7160–0x716F:03 Node (U8, R341). -/
abbrev subNode (n : Nat) : Nat := key (0x7160 + n) (0x03)
/-- 0x7160–0x716F:04 Address (U32, R341). -/
abbrev subAddress (n : Nat) : Nat := key (0x7160 + n) (0x04)
/-- 0x7160–0x716F:05 Port (U16, R341). -/
abbrev subPort (n : Nat) : Nat := key (0x7160 + n) (0x05)
/-- 0x7160–0x716F:06–:0D SourceMask (U32, R341). -/
abbrev subSourceMask (n : Nat) (i : Nat) : Nat := key (0x7160 + n) (0x06 + i)
/-- 0x7160–0x716F:0E Sent (U32, R341). -/
abbrev subSent (n : Nat) : Nat := key (0x7160 + n) (0x0E)
/-- 0x7160–0x716F:0F Dropped (U32, R341). -/
abbrev subDropped (n : Nat) : Nat := key (0x7160 + n) (0x0F)

/-- 0x7180–0x7183:01 WakeEnable (BOOL, R353). -/
abbrev wakeWakeEnable (n : Nat) : Nat := key (0x7180 + n) (0x01)
/-- 0x7180–0x7183:02 WakeMode (U8, R353). -/
abbrev wakeWakeMode (n : Nat) : Nat := key (0x7180 + n) (0x02)
/-- 0x7180–0x7183:03 WakeId (U32, R353). -/
abbrev wakeWakeId (n : Nat) : Nat := key (0x7180 + n) (0x03)
/-- 0x7180–0x7183:04 WakeIdMask (U32, R353). -/
abbrev wakeWakeIdMask (n : Nat) : Nat := key (0x7180 + n) (0x04)
/-- 0x7180–0x7183:05 WakeDlc (U8, R353). -/
abbrev wakeWakeDlc (n : Nat) : Nat := key (0x7180 + n) (0x05)
/-- 0x7180–0x7183:06 WakeDataMask (U64, R353). -/
abbrev wakeWakeDataMask (n : Nat) : Nat := key (0x7180 + n) (0x06)
/-- 0x7180–0x7183:07 WakeBitRate (U8, R353). -/
abbrev wakeWakeBitRate (n : Nat) : Nat := key (0x7180 + n) (0x07)
/-- 0x7180–0x7183:08 LastWakeCause (U8, R353). -/
abbrev wakeLastWakeCause (n : Nat) : Nat := key (0x7180 + n) (0x08)
/-- 0x7180–0x7183:09 WakeCount (U32, R353). -/
abbrev wakeWakeCount (n : Nat) : Nat := key (0x7180 + n) (0x09)
/-- 0x7180–0x7183:0A EntryCancels (U32, R353). -/
abbrev wakeEntryCancels (n : Nat) : Nat := key (0x7180 + n) (0x0A)

/-- 0x8000:01 ThermalState (U8, R417). -/
abbrev thermThermalState : Nat := key (0x8000) (0x01)
/-- 0x8000:02 ThrottleLevel (U8, R417). -/
abbrev thermThrottleLevel : Nat := key (0x8000) (0x02)
/-- 0x8000:03 TMax (F32, R417). -/
abbrev thermTMax : Nat := key (0x8000) (0x03)
/-- 0x8000:04 TMaxSensor (U8, R417). -/
abbrev thermTMaxSensor : Nat := key (0x8000) (0x04)
/-- 0x8000:05 H5Mode (BOOL, R417). -/
abbrev thermH5Mode : Nat := key (0x8000) (0x05)
/-- 0x8000:06 GraceTime (F32, R417). -/
abbrev thermGraceTime : Nat := key (0x8000) (0x06)
/-- 0x8000:07 LevelInterval (F32, R417). -/
abbrev thermLevelInterval : Nat := key (0x8000) (0x07)
/-- 0x8000:08 MaxLevel (U8, R417). -/
abbrev thermMaxLevel : Nat := key (0x8000) (0x08)
/-- 0x8000:09 ThermalStatus (U16, R417). -/
abbrev thermThermalStatus : Nat := key (0x8000) (0x09)
/-- 0x8000:0A StrapThreshold (F32, R417). -/
abbrev thermStrapThreshold : Nat := key (0x8000) (0x0A)
/-- 0x8000:0B ThrottleEpisodes (U32, R417). -/
abbrev thermThrottleEpisodes : Nat := key (0x8000) (0x0B)
/-- 0x8000:0C SensorFaultCount (U32, R417). -/
abbrev thermSensorFaultCount : Nat := key (0x8000) (0x0C)
/-- 0x8000:0D AppCoreClock (F32, R417). -/
abbrev thermAppCoreClock : Nat := key (0x8000) (0x0D)

/-- 0x8010:01–:10 SensorReading (F32, R417). -/
abbrev tsReadSensorReading (i : Nat) : Nat := key (0x8010) (0x01 + i)

/-- 0x8011:01–:10 SensorRaw (F32, R417). -/
abbrev tsRawSensorRaw (i : Nat) : Nat := key (0x8011) (0x01 + i)

/-- 0x8012:01–:10 SensorState (U8, R417). -/
abbrev tsStateSensorState (i : Nat) : Nat := key (0x8012) (0x01 + i)

/-- 0x8020:01 Source (U8, R428). -/
abbrev supplySource : Nat := key (0x8020) (0x01)
/-- 0x8020:02 VmVoltage (F32, R428). -/
abbrev supplyVmVoltage : Nat := key (0x8020) (0x02)
/-- 0x8020:03 VbVoltage (F32, R428). -/
abbrev supplyVbVoltage : Nat := key (0x8020) (0x03)
/-- 0x8020:04 HoldupVoltage (F32, R428). -/
abbrev supplyHoldupVoltage : Nat := key (0x8020) (0x04)
/-- 0x8020:05 RailVoltage (F32, R428). -/
abbrev supplyRailVoltage : Nat := key (0x8020) (0x05)
/-- 0x8020:06 InputPower (F32, R428). -/
abbrev supplyInputPower : Nat := key (0x8020) (0x06)
/-- 0x8020:07 SupplyStatus (U16, R428). -/
abbrev supplySupplyStatus : Nat := key (0x8020) (0x07)
/-- 0x8020:08 HoldupCapacitance (F32, R428). -/
abbrev supplyHoldupCapacitance : Nat := key (0x8020) (0x08)
/-- 0x8020:09 SwitchoverCount (U32, R428). -/
abbrev supplySwitchoverCount : Nat := key (0x8020) (0x09)
/-- 0x8020:0A PowerFailCount (U32, R428). -/
abbrev supplyPowerFailCount : Nat := key (0x8020) (0x0A)
/-- 0x8020:0B LastSwitchTime (U64, R428). -/
abbrev supplyLastSwitchTime : Nat := key (0x8020) (0x0B)

/-- 0x8030:01 WinterCommand (U8, R435). -/
abbrev seasonWinterCommand : Nat := key (0x8030) (0x01)
/-- 0x8030:02 SeasonEntryTime (U64, R435). -/
abbrev seasonSeasonEntryTime : Nat := key (0x8030) (0x02)
/-- 0x8030:03 WinterCount (U32, R435). -/
abbrev seasonWinterCount : Nat := key (0x8030) (0x03)
/-- 0x8030:04 LastWakeChannel (U8, R435). -/
abbrev seasonLastWakeChannel : Nat := key (0x8030) (0x04)
/-- 0x8030:05 EntryAbandonCount (U32, R435). -/
abbrev seasonEntryAbandonCount : Nat := key (0x8030) (0x05)

/-- 0x8040:01 LastResetCause (U8, R445). -/
abbrev resetLastResetCause : Nat := key (0x8040) (0x01)
/-- 0x8040:02 ResetCount (U32, R445). -/
abbrev resetResetCount : Nat := key (0x8040) (0x02)
/-- 0x8040:03 PowerOnCount (U32, R445). -/
abbrev resetPowerOnCount : Nat := key (0x8040) (0x03)
/-- 0x8040:04 BootDuration (F32, R445). -/
abbrev resetBootDuration : Nat := key (0x8040) (0x04)
/-- 0x8040:05 StrapStatus (U8, R445). -/
abbrev resetStrapStatus : Nat := key (0x8040) (0x05)

/-- 0x9000:01 ConfigCommand (U8, R454). -/
abbrev configConfigCommand : Nat := key (0x9000) (0x01)
/-- 0x9000:02 ActiveSlot (U8, R454). -/
abbrev configActiveSlot : Nat := key (0x9000) (0x02)
/-- 0x9000:03 ActiveSequence (U32, R454). -/
abbrev configActiveSequence : Nat := key (0x9000) (0x03)
/-- 0x9000:04 MarchSequence (U32, R454). -/
abbrev configMarchSequence : Nat := key (0x9000) (0x04)
/-- 0x9000:05 SeptemberSequence (U32, R454). -/
abbrev configSeptemberSequence : Nat := key (0x9000) (0x05)
/-- 0x9000:06 ConfigStatus (U16, R454). -/
abbrev configConfigStatus : Nat := key (0x9000) (0x06)
/-- 0x9000:07 CommitStatus (U8, R454). -/
abbrev configCommitStatus : Nat := key (0x9000) (0x07)
/-- 0x9000:08 CommitFailCause (U8, R454). -/
abbrev configCommitFailCause : Nat := key (0x9000) (0x08)
/-- 0x9000:09 LastCommitTime (U64, R454). -/
abbrev configLastCommitTime : Nat := key (0x9000) (0x09)
/-- 0x9000:0A SkippedRecords (U32, R454). -/
abbrev configSkippedRecords : Nat := key (0x9000) (0x0A)
/-- 0x9000:0B RejectedRecords (U32, R454). -/
abbrev configRejectedRecords : Nat := key (0x9000) (0x0B)

/-- 0x9010:01 ControlEnable (U8, R457). -/
abbrev enableControlEnable : Nat := key (0x9010) (0x01)
/-- 0x9010:02 DataEnable (U8, R457). -/
abbrev enableDataEnable : Nat := key (0x9010) (0x02)
/-- 0x9010:03 ManagementEnable (U8, R457). -/
abbrev enableManagementEnable : Nat := key (0x9010) (0x03)
/-- 0x9010:04 KeyStrap (BOOL, R457). -/
abbrev enableKeyStrap : Nat := key (0x9010) (0x04)
/-- 0x9010:05 KeyAsserted (BOOL, R457). -/
abbrev enableKeyAsserted : Nat := key (0x9010) (0x05)

/-- 0x9020:01 OldestSeq (U64, R465). -/
abbrev journalOldestSeq : Nat := key (0x9020) (0x01)
/-- 0x9020:02 NewestSeq (U64, R465). -/
abbrev journalNewestSeq : Nat := key (0x9020) (0x02)
/-- 0x9020:03 Select (U64, R465). -/
abbrev journalSelect : Nat := key (0x9020) (0x03)
/-- 0x9020:04 Record (DOMAIN, R465). -/
abbrev journalRecord : Nat := key (0x9020) (0x04)
/-- 0x9020:05 Block (DOMAIN, R465). -/
abbrev journalBlock : Nat := key (0x9020) (0x05)
/-- 0x9020:06 AnchorHash (DOMAIN, R465). -/
abbrev journalAnchorHash : Nat := key (0x9020) (0x06)
/-- 0x9020:07 HeadHash (DOMAIN, R465). -/
abbrev journalHeadHash : Nat := key (0x9020) (0x07)
/-- 0x9020:08 StagedRecords (U16, R465). -/
abbrev journalStagedRecords : Nat := key (0x9020) (0x08)
/-- 0x9020:09 JournalStatus (U16, R465). -/
abbrev journalJournalStatus : Nat := key (0x9020) (0x09)
/-- 0x9020:0A LossRecords (U32, R465). -/
abbrev journalLossRecords : Nat := key (0x9020) (0x0A)

/-- 0xA000:01 RollbackCounter (U8, R476). -/
abbrev secRollbackCounter : Nat := key (0xA000) (0x01)
/-- 0xA000:02 KeySlots (U8, R476). -/
abbrev secKeySlots : Nat := key (0xA000) (0x02)
/-- 0xA000:03 BootRecord (U8, R476). -/
abbrev secBootRecord : Nat := key (0xA000) (0x03)
/-- 0xA000:04 EraseCount (U32, R476). -/
abbrev secEraseCount : Nat := key (0xA000) (0x04)
/-- 0xA000:05 LastEraseTime (U64, R476). -/
abbrev secLastEraseTime : Nat := key (0xA000) (0x05)

/-- 0xA010:01 UpdateCommand (U8, R476). -/
abbrev updateUpdateCommand : Nat := key (0xA010) (0x01)
/-- 0xA010:02 UpdateOffset (U32, R476). -/
abbrev updateUpdateOffset : Nat := key (0xA010) (0x02)
/-- 0xA010:03 UpdateBlock (DOMAIN, R476). -/
abbrev updateUpdateBlock : Nat := key (0xA010) (0x03)
/-- 0xA010:04 UpdateState (U8, R476). -/
abbrev updateUpdateState : Nat := key (0xA010) (0x04)
/-- 0xA010:05 UpdateTarget (U8, R476). -/
abbrev updateUpdateTarget : Nat := key (0xA010) (0x05)
/-- 0xA010:06 BytesWritten (U32, R476). -/
abbrev updateBytesWritten : Nat := key (0xA010) (0x06)
/-- 0xA010:07 UpdateFailCause (U8, R476). -/
abbrev updateUpdateFailCause : Nat := key (0xA010) (0x07)

/-- 0xA020:01 EraseArm (U16, R476). -/
abbrev eraseEraseArm : Nat := key (0xA020) (0x01)
/-- 0xA020:02 EraseCommand (U8, R476). -/
abbrev eraseEraseCommand : Nat := key (0xA020) (0x02)

/-- 0xB000:01 LoopEngineFaults (U32, R493). -/
abbrev faultLoopEngineFaults : Nat := key (0xB000) (0x01)
/-- 0xB000:02 ParcelEngineFaults (U32, R493). -/
abbrev faultParcelEngineFaults : Nat := key (0xB000) (0x02)
/-- 0xB000:03 AppLockstepRetries (U32, R493). -/
abbrev faultAppLockstepRetries : Nat := key (0xB000) (0x03)
/-- 0xB000:04 MgmtLockstepRetries (U32, R493). -/
abbrev faultMgmtLockstepRetries : Nat := key (0xB000) (0x04)
/-- 0xB000:05 AppPairRestarts (U32, R493). -/
abbrev faultAppPairRestarts : Nat := key (0xB000) (0x05)
/-- 0xB000:06 MgmtPairRestarts (U32, R493). -/
abbrev faultMgmtPairRestarts : Nat := key (0xB000) (0x06)
/-- 0xB000:07 SramCorrected (U32, R493). -/
abbrev faultSramCorrected : Nat := key (0xB000) (0x07)
/-- 0xB000:08 DramCorrected (U32, R493). -/
abbrev faultDramCorrected : Nat := key (0xB000) (0x08)
/-- 0xB000:09 NandCorrected (U32, R493). -/
abbrev faultNandCorrected : Nat := key (0xB000) (0x09)
/-- 0xB000:0A Uncorrectable (U32, R493). -/
abbrev faultUncorrectable : Nat := key (0xB000) (0x0A)
/-- 0xB000:0B FieldLinkCrcErrors (U32, R493). -/
abbrev faultFieldLinkCrcErrors : Nat := key (0xB000) (0x0B)
/-- 0xB000:0C ChannelCacheMisses (U32, R493). -/
abbrev faultChannelCacheMisses : Nat := key (0xB000) (0x0C)
/-- 0xB000:0D DspFaults (U32, R493). -/
abbrev faultDspFaults : Nat := key (0xB000) (0x0D)
/-- 0xB000:0E LostParcels (U32, R493). -/
abbrev faultLostParcels : Nat := key (0xB000) (0x0E)
/-- 0xB000:0F LostDryMatter (U64, R493). -/
abbrev faultLostDryMatter : Nat := key (0xB000) (0x0F)
/-- 0xB000:10 LostWater (U64, R493). -/
abbrev faultLostWater : Nat := key (0xB000) (0x10)
/-- 0xB000:11 FaultStatus (U16, R493). -/
abbrev faultFaultStatus : Nat := key (0xB000) (0x11)
/-- 0xB000:12 GuaranteeBreaks (U32, R493). -/
abbrev faultGuaranteeBreaks : Nat := key (0xB000) (0x12)
/-- 0xB000:13 LastBreakTime (U64, R493). -/
abbrev faultLastBreakTime : Nat := key (0xB000) (0x13)

/-- 0xF000:01 TotalRaised (U32, R122). -/
abbrev routerTotalRaised : Nat := key (0xF000) (0x01)
/-- 0xF000:02 TotalOverruns (U32, R122). -/
abbrev routerTotalOverruns : Nat := key (0xF000) (0x02)
/-- 0xF000:03 FreeCreditsCores (U16, R122). -/
abbrev routerFreeCreditsCores : Nat := key (0xF000) (0x03)
/-- 0xF000:04 FreeCreditsNotify (U16, R122). -/
abbrev routerFreeCreditsNotify : Nat := key (0xF000) (0x04)
/-- 0xF000:05 FreeCreditsJournal (U16, R122). -/
abbrev routerFreeCreditsJournal : Nat := key (0xF000) (0x05)

/-- 0xF001:01–:80 SourceConfig (U32, R122). -/
abbrev srcCfgASourceConfig (i : Nat) : Nat := key (0xF001) (0x01 + i)

/-- 0xF002:01–:80 SourceConfig (U32, R122). -/
abbrev srcCfgBSourceConfig (i : Nat) : Nat := key (0xF002) (0x01 + i)

/-- 0xF003:01–:80 OverrunCount (U32, R122). -/
abbrev overrunAOverrunCount (i : Nat) : Nat := key (0xF003) (0x01 + i)

/-- 0xF004:01–:80 OverrunCount (U32, R122). -/
abbrev overrunBOverrunCount (i : Nat) : Nat := key (0xF004) (0x01 + i)

end Ob

end Sys2Proof.Machine
end

