-- ==== Sys2Proof/Machine/State.lean ====
section
/-! DEFINITION. The state of the module as plain data: the objects of the dictionary, the timebases, and the state of every
block the chapters give it, with the machine right after reset (R436, R439). -/
namespace Sys2Proof.Machine

/-- Why the model stops. -/
inductive Fault where
  /-- An input beyond the absolute maximum ratings of R519 (R492: the module promises nothing more, and may be damaged). Raised
  by OVERVOLT, TICK_BOUNDARY, CONVERSION_WINDOW, CFG_EN_SAMPLE and HOUSEKEEPING_ROUND. Safe: the model claims nothing of the machine
  after it. -/
  | absoluteMaximum
  deriving DecidableEq, Repr

/-- Why the model has no meaning for a command. -/
inductive Refusal where
  /-- The command has no meaning in this model yet. Raised by no command of this model. Safe. -/
  | notModelled (mnemonic : String)
  deriving DecidableEq, Repr

/-- Where the module stands (R16, R17, R75, R432, R440): without power, in a step of BOOT, running (PREOP, OPERATE or SAFE by
0x1010:01), in Winter, or in HALT. -/
inductive Phase where
  | off | boot (step : Nat) | run | winter | halt
  deriving DecidableEq, Repr

/-- Who submits an access (R57, R459): the interface code, the source (bus node or IPv4 address) and the port (TID or UDP port). -/
structure Origin where
  iface : Nat
  src : Nat
  port : Nat
  deriving DecidableEq, Repr

/-- An event record (R116). -/
structure EvRec where
  time : Nat
  source : Nat
  trip : Bool
  ovrsat : Bool
  ovr : Nat
  payload : Nat
  deriving DecidableEq, Repr

/-- A journal record before it is chained (R459): every field but SEQ and HASH. `event` marks a record held in the 16 B area
of R461. -/
structure JRec where
  event : Bool
  time : Nat
  kind : Nat
  iface : Nat
  type : Nat
  flags : Nat
  source : Nat
  port : Nat
  index : Nat
  sub : Nat
  code : Nat
  newLen : Nat
  oldV : List Byte
  newV : List Byte
  oldLen : Nat
  deriving DecidableEq, Repr

/-- A chained record waiting for its page (R460, R462): SEQ, its 128 bytes, whether it holds a place of the 128 B area, and
the oscillator time of its chaining. -/
structure Chained where
  seq : Nat
  bytes : List Byte
  place : Bool
  at_ : Nat
  deriving DecidableEq, Repr

/-- An event raised in the present instant, not routed yet (R119). -/
structure Raised where
  time : Nat
  source : Nat
  payload : Nat
  deriving DecidableEq, Repr

/-- The event router's own state (R117–R121): the records queued to module firmware, the lost counts, keyed by
destination × 256 + source, and what this instant has raised so far, routed at its end in rising source number (R119): between two
commands there is none. -/
structure Router where
  cores : List EvRec
  lost : List (Nat × Nat)
  raised : List Raised
  deriving DecidableEq, Repr

/-- The event and journal staging area (R461). -/
structure Staging where
  staged : List JRec
  chained : List Chained
  lostActions : Nat
  /-- Staged records that were formed before the first of the lost actions: the KIND 6 record is chained behind them (R461). -/
  lossAhead : Nat
  nextSeq : Nat
  head : List Byte
  deriving DecidableEq, Repr

/-- A schedule entry's own state (R105–R115): armed, waiting to be armed at the next tick, the burst accumulator, and the cases of R115
that hold its burst output off (bit 0 the duty channel, bit 1 LOST, bit 2 the state). -/
structure EntryDyn where
  armed : Bool
  arming : Bool
  acc : Nat
  forced : Nat
  /-- 0 for none, path + 1 for an advance entry, path + 17 for a create entry (R113, R130). -/
  owner : Nat
  deriving DecidableEq, Repr

/-- An action that fired (R107): the entry, the boundary at which it did, by its number and by its WC. -/
structure LateAction where
  entry : Nat
  tick : Nat
  fired : Nat
  /-- For a sample action, what its source held at that boundary (a value, where it had one yet, and a status); none where it held
  nothing, or once the frame that carried it is discarded (R25, R108). -/
  got : Option (Option Nat × Nat)
  deriving DecidableEq, Repr

/-- A counting edge of a grain clock: oscillator time in ns and Position just after it (R89). -/
structure GcMark where
  at_ : Nat
  pos : Nat
  deriving DecidableEq, Repr

/-- What a grain clock's filter will find of a change (R86, R87): an edge that its mode may count, the first edge of an illegal
transition, the edge that makes a transition illegal, or a pulse shorter than FilterTime. -/
inductive GcVerdict where
  | counts | spoiled | illegal | glitch
  deriving DecidableEq, Repr

/-- A change of a grain clock's lines that the filter has still to judge (R86): the line, the levels after it, and the oscillator time in
ns at which it has held for FilterTime, or a shorter pulse has ended. -/
structure GcChange where
  line : GcLine
  a : Bool
  b : Bool
  due : Nat
  verdict : GcVerdict
  deriving DecidableEq, Repr

/-- A grain clock's receiver and counter state (R84–R91): the levels of A and B, the oscillator time of the last accepted edge, the
counting edges kept for Rate, the oscillator times of the accepted edges of the last 10 ms, the changes the filter has still to judge,
and the time of the last quadrature error. -/
structure GcSt where
  a : Bool
  b : Bool
  lastEdge : Nat
  marks : List GcMark
  edges : List Nat
  /-- The last change that holds its level: whether of A, and its oscillator time in ns. -/
  prev : Option (Bool × Nat)
  waits : List GcChange
  qerrAt : Nat
  deriving DecidableEq, Repr

/-- The mains-phase tracker (R93–R95): time of the last valid crossing (0 for none), the measured period in µs, consecutive
valid crossings, the time of the miss, and the exact position in 1/1024 cycle at a reference time. -/
structure MpSt where
  lastValid : Nat
  hasValid : Bool
  period : Nat
  valid : Nat
  missAt : Nat
  refAt : Nat
  refPos : Nat
  /-- PhaseOffset as taken at the last crossing (R96). -/
  offset : Int
  deriving DecidableEq, Repr

/-- The wall clock's correction state (R97–R102). -/
structure WcSt where
  slew : Int
  slewAt : Nat
  rateAt : Nat
  lastMeas : Nat
  hasMeas : Bool
  goodRun : Nat
  lastMsg : Nat
  episode : Bool
  /-- A step that waits for its record's place (R461): by how much the master's time leads the oscillator, as last measured. -/
  stepRef : Option Int
  deriving DecidableEq, Repr

/-- One downstream frame's values (R24): pins, current-loop outputs and fans, the latter two as F32 words. -/
structure Frame where
  io : List Bool
  ao : List Nat
  fn : List Nat
  deriving DecidableEq, Repr

/-- A field value latched at a tick boundary for a channel (R24, R108): raw F32 word and the status bits [6:0]. -/
structure Latched where
  chan : Nat
  raw : Nat
  stat : Nat
  at_ : Nat
  deriving DecidableEq, Repr

/-- What a channel's source gave last (R32, R108): its raw word, none while it has given a status alone, its status bits and its time. -/
structure Source where
  chan : Nat
  raw : Option Nat
  stat : Nat
  at_ : Nat
  deriving DecidableEq, Repr

/-- The field link (R23–R26): the frame sent in this tick, the latest valid frame at the field die, the values of the open
upstream frame, and the runs of valid and discarded frames. -/
structure LinkSt where
  sent : Frame
  rx : Frame
  latch : List Latched
  latchAt : Nat
  upBad : Nat
  upGood : Nat
  upOpen : Bool
  downAt : Nat
  downRun : Nat
  deriving DecidableEq, Repr

/-- A digital pin on the field die (R357–R376). -/
structure PinSt where
  dir : Nat
  level : Bool
  drive : Bool
  preSilence : Bool
  safeHold : Bool
  edges : List Nat
  overAt : Nat
  retryAt : Nat
  retrying : Bool
  fails : Nat
  offTicks : Nat
  /-- Oscillator time since which the driver has been on without overload (R365); none while it is off. -/
  onSince : Option Nat
  deriving DecidableEq, Repr

/-- An output group's supply (R369): the BOOT latch; how long each condition has held is asserted by its event. -/
structure GroupSt where
  bootLatch : Bool
  deriving DecidableEq, Repr

/-- The conversion window in progress of an AI or RT converter (R377, R378): the oscillator time of its end, and whether it lies on the
mains phase, and whether a window has completed since the windows began (R442). -/
structure WinSt where
  endAt : Nat
  phased : Bool
  seen : Bool
  deriving DecidableEq, Repr

/-- A current-loop input's latched reading and condition timers (R380): per condition, the oscillator time since which its
set test, or its clear test, has held (0 for not holding). -/
structure AiSt where
  setSince : List Nat
  clrSince : List Nat
  win : WinSt
  deriving DecidableEq, Repr

/-- A current-loop output's stage (R385–R389). -/
structure AoSt where
  applied : Nat
  nominal : Nat
  row : Nat
  preSilence : Nat
  safeHold : Nat
  saturated : Bool
  shortTicks : Nat
  clearTicks : Nat
  overAt : Nat
  lowSince : Nat
  m1 : Nat
  m2 : Nat
  deriving DecidableEq, Repr

/-- An RTD input's confirmation counts, per status bit 1–4 (R390). -/
structure RtSt where
  setRun : List Nat
  clrRun : List Nat
  win : WinSt
  deriving DecidableEq, Repr

/-- Where a fan start stands (R401): no start, kicking (attempt 0–3), or waiting for the next kick. -/
inductive FanStart where
  | none | kick (k : Nat) | wait (k : Nat)
  deriving DecidableEq, Repr

/-- A fan channel on the field die (R394–R405). -/
structure FanSt where
  value : Nat
  applied : Nat
  preSilence : Nat
  safeHold : Nat
  row : Nat
  wasOn : Bool
  start : FanStart
  /-- Oscillator time of the start, moved on while rows 1–6 suspend its timers. -/
  startAt : Nat
  lowSince : Nat
  edges : List Nat
  lastEdge : Nat
  u : Nat
  ePrev : Nat
  regOn : Bool
  overAt : Nat
  retryAt : Nat
  overRuns : Nat
  lossAt : Nat
  curSum : Nat
  curCount : Nat
  learnAt : Nat
  learnMin : Nat
  learnMax : Nat
  learnSumV : Nat
  learnSumI : Nat
  learnCount : Nat
  lagSince : Nat
  /-- Since when the fan has run proven (0: it does not). -/
  runSince : Nat
  onMicros : Nat
  deriving DecidableEq, Repr

/-- A ring-oscillator sensor's validation state (R409): consecutive implausible and plausible readings. -/
structure TsSt where
  bad : Nat
  good : Nat
  deriving DecidableEq, Repr

/-- The thermal policy block (R407–R414). Per threshold: asserted, consecutive readings above, consecutive readings at or
below the release point. -/
structure ThermSt where
  ts : List TsSt
  asserted : List Bool
  above : List Nat
  below : List Nat
  movedRound : Bool
  graceAt : Nat
  levelAt : Nat
  holdAt : Nat
  holdSensor : Nat
  dieFailAt : Nat
  roundAt : Option Nat
  lastMaxA : Nat
  lastMaxB : Nat
  /-- The readings of the field-die sensors TS12–TS15 that the last round found valid (R191), binary32. -/
  roundDie : List Nat
  /-- The thermal cause of R411 is not gone: ThermalState has been 3 and has not yet fallen to 1 since. -/
  hot : Bool
  deriving DecidableEq, Repr

/-- The lockstep pairs (R483, R487): whether each has an unfinished retry, and the oscillator times of its restarts. -/
structure PairSt where
  appRetry : Bool
  mgmtRetry : Bool
  appRestarts : List Nat
  mgmtRestarts : List Nat
  appDownAt : Nat
  mgmtDownAt : Nat
  deriving DecidableEq, Repr

/-- The histories of one compensator stage, as 24-bit mantissas (R211, R222). -/
structure StageHist where
  x1 : Int
  x2 : Int
  x3 : Int
  y1 : Int
  y2 : Int
  y3 : Int
  deriving DecidableEq, Repr

/-- A loaded stage: coefficient exponent and the seven mantissas in the order of R208. -/
structure StageCoef where
  e : Int
  m : List Int
  deriving DecidableEq, Repr

/-- A loop's context (R211) with its gain-region bank (R240): what a sample reads at its pull and writes at its commit. F32 fields
are binary32 words. -/
structure LoopCtx where
  first : Bool
  region : Nat
  hist : List StageHist
  ppHi : Nat
  ppLo : Nat
  pvel : Nat
  pacc : Nat
  uprev : Nat
  ffHold : List Int
  ffHeld : List Bool
  lastTime : Nat
  fbTime : Nat
  frzRef : Nat
  frzSum : Nat
  frzSq : Nat
  frzCnt : Nat
  staleCnt : Nat
  rangeCnt : Nat
  clearCnt : Nat
  sfault : Nat
  faults : Nat
  schedVal : Nat
  dwell : Nat
  schedHeld : Bool
  dwelling : Bool
  chosen : Bool
  bank : List (List StageCoef)
  /-- Setpoint r of the last committed sample. -/
  lastR : FX
  /-- The y history still stands at the applied output of R78: no sample has evaluated the stages since the start. -/
  atStart : Bool
  deriving DecidableEq, Repr

/-- A loop that holds a context (R207): the context; loads marked by CoeffApply and RegionApply, and those marked again while a
sample is in service (R210); the restart of the profile by ProfileEnable, likewise; the parity of stretched triggers (R218); whether an
uncorrectable error holds it (R484); and whether it waits to give the context back (R209). -/
structure LoopSt where
  loop : Nat
  ctx : LoopCtx
  coeffPend : Bool
  coeffAgain : Bool
  pendMask : Nat
  maskAgain : Nat
  profRestart : Bool
  profAgain : Bool
  odd : Bool
  errHold : Bool
  leaving : Bool
  /-- Active was written 1 again before a leaving loop's sample had committed. -/
  again : Bool
  deriving DecidableEq, Repr

/-- A released sample in the dispatch queue (R212): its loop, trigger tick (its WC, and its number while it awaits samples), release time,
whether it is redone after an engine failure (R215), and the channels whose sample of this tick it still awaits (R109). -/
structure Queued where
  loop : Nat
  tick : Nat
  number : Nat
  released : Nat
  redo : Bool
  awaits : List Nat
  deriving DecidableEq, Repr

/-- What a sample computed (R219): everything its commit writes. Node values and record fields are binary32 words. -/
structure SampleRes where
  ctx : LoopCtx
  mode : Nat
  writeOut : Bool
  out : Nat
  nodes : List Nat
  /-- CompOutput (R208): uc after any writeback (R227). -/
  compOut : Nat
  stageOut : List Nat
  satMask : Nat
  limited : Bool
  status : Nat
  inj : Nat
  regStatus : Nat
  profStatus : Nat
  /-- ProfilePosition (R234). -/
  profPos : Nat
  switched : Bool
  events : List (Nat × Nat)
  loadedCoeff : Bool
  loadedMask : Nat
  faultEntered : Bool
  prbs : Nat
  prbsBit : Nat
  phase : FX
  deriving DecidableEq, Repr

/-- A sample in service (R213, R214): the engine, the pull, the channels still to be fetched (R36), what it computes from all it read at
its pull (R210), the test it counts for (R260), and the context as it stood before it (R211). -/
structure InService where
  loop : Nat
  engine : Nat
  tick : Nat
  released : Nat
  pulled : Nat
  missing : List Nat
  res : SampleRes
  test : Option Nat
  image : List Byte
  deriving DecidableEq, Repr

/-- A loop engine's present block of ρ values, and whether it has completed a block (R268). -/
structure EngSt where
  block : List FX
  judged : Bool
  deriving DecidableEq, Repr

/-- An injection test (R259–R263): samples passed, PRBS register and bit, sine phase, and the captured records, newest first. -/
structure InjSt where
  idx : Nat
  prbs : Nat
  prbsBit : Nat
  phase : FX
  clipAt : Nat
  records : List (List Byte)
  deriving DecidableEq, Repr

/-- A trace slot (R265–R267): the ring, newest record first, the decimation count, and the records still to follow a trigger. -/
structure TraceSt where
  ring : List (List Byte)
  skip : Nat
  left : Nat
  deriving DecidableEq, Repr

/-- An outgoing Worust message (R331, R332). `fd` is the frame format it is sent in. -/
structure WMsg where
  prio : Nat
  kind : Nat
  dest : Nat
  tid : Nat
  fd : Bool
  payload : List Byte
  deriving DecidableEq, Repr

/-- A transmit buffer's contents (R309, R311): the frames of its message still to send, first one first; who loaded it; the
start-of-frame of the frame last sent; and whether a cancel waits for the retry point. Its status is 0x7030+n:03–:05. A message whose first
frame was sent keeps the next one here until firmware loads it. -/
structure TxBuf where
  frames : List CanFrame
  loader : Origin
  sof : Nat
  retryCancel : Bool
  /-- For buffer 0: 0 none, 1 sync, 2 follow-up, 3 emergency; and the sync sequence carried. -/
  use : Nat
  seq : Nat
  /-- The controller was error passive at the start-of-frame, so that ESI goes out recessive (R297). -/
  esi : Bool
  deriving DecidableEq, Repr

/-- An entry of the receive queue, the high-priority buffer or the raw ring (R317). -/
structure RxEntry where
  time : Nat
  frame : CanFrame
  filter : Nat
  matched : Bool
  divert : Bool
  /-- Oscillator time at which the frame was received whole: what R333 and R345 measure from, however long it waits here. -/
  at_ : Nat
  deriving DecidableEq, Repr

/-- A first frame that waits for its CONT (R333). -/
structure ContWait where
  id : Nat
  kind : Nat
  at_ : Nat
  fd : Bool
  data : List Byte
  deriving DecidableEq, Repr

/-- A message bus controller (R297–R323) with the firmware queues that feed it (R335). -/
structure BusSt where
  /-- Started (R300); stopping at the next bus idle. -/
  started : Bool
  stopping : Bool
  /-- OperatingMode, FdEnable, ProtocolException and TdcMode in force, and the clock periods of a nominal bit (R302, R303). -/
  mode : Nat
  fd : Bool
  protExc : Bool
  tdc : Bool
  bitClocks : Nat
  bufs : Vector TxBuf 3
  txq : List WMsg
  /-- Buffer 0 work that waits: an emergency, a follow-up, as messages. -/
  hot : List WMsg
  /-- Sequence numbers beside `hot`, with the use of R335: (use, sequence). -/
  hotUse : List (Nat × Nat)
  rxq : List RxEntry
  hpb : Option RxEntry
  raw : List (Nat × RxEntry)
  rawNext : Nat
  chosen : Option Nat
  busOffAt : Nat
  recovReq : Bool
  recovAt : Nat
  /-- Filter words written within the last second: when, the object's key, and the word before (R320). -/
  filtWas : List (Nat × Nat × Nat)
  conts : List ContWait
  syncSeq : Nat
  syncAt : Nat
  /-- As time slave: sequence and TIME of each sync held for pairing, and its arrival (R345). -/
  held : List (Nat × Nat × Nat)
  errCount : Nat
  asleep : Bool
  wokeBy : Nat
  deriving DecidableEq, Repr

/-- A datagram the module hands to the network (R340): the port it is sent from, and where it goes. -/
structure EthOut where
  src : Nat
  addr : Nat
  port : Nat
  bytes : List Byte
  deriving DecidableEq, Repr

/-- Who asked, for an answer on the bus or on UDP (R336, R337). `tid` is the request's transaction identifier; `prio` and `fd` are those
of a request on the bus. -/
structure Asker where
  o : Origin
  tid : Nat
  prio : Nat
  fd : Bool
  deriving DecidableEq, Repr

/-- A request answered within the last second, with its answer (R337). -/
structure Served where
  who : Asker
  at_ : Nat
  kind : Nat
  payload : List Byte
  deriving DecidableEq, Repr

/-- An open segmented or bulk transfer (R61–R64, R338). A write gathers bytes; a read holds the copy it returns. -/
structure Xfer where
  who : Asker
  idx : Nat
  sub : Nat
  write : Bool
  ty : Nat
  total : Nat
  buf : List Byte
  got : Nat
  nextSeq : Nat
  last : Bool
  lastAt : Nat
  sentTo : Nat
  acked : Nat
  ended : Bool
  deriving DecidableEq, Repr

/-- A write that waits to be applied (R58, R461), or whose answer waits for the check of R77. -/
structure WReq where
  who : Asker
  answer : Bool
  idx : Nat
  sub : Nat
  ty : Nat
  data : List Byte
  /-- The stated length where the bytes came by a write transfer, and the aborts that its own end meets (R62). -/
  stated : Option Nat
  met : List Nat
  deriving DecidableEq, Repr

/-- The constraint check of R77: the write that asked (none for AutoOperate), whether a trip cause ended it (R81), and the first object
that fails. -/
structure Check where
  asker : Option WReq
  ended : Bool
  verdict : Nat
  deriving DecidableEq, Repr

/-- The Worust server and the IP host (R337–R350). -/
structure NetSt where
  served : List Served
  inProgress : List Asker
  xfers : List Xfer
  ethOut : List EthOut
  /-- The switch's table (R348): MAC addresses with the port each was last heard on and when, the latest first. -/
  macs : List (Nat × Nat × Nat)
  /-- The ARP cache (R349), latest first: an IP address and its MAC address, none where no command showed it. -/
  arp : List (Nat × Option Nat)
  leaseEnd : Nat
  retryAt : Nat
  stormAt : Nat
  stormSeen : Bool
  /-- The broadcast frames dropped in the last second, with their times (R348, R355). -/
  drops : List (Nat × Nat)
  pollTid : Nat
  pollT1 : Nat
  pollOpen : Bool
  pollAt : Nat
  /-- Channels of type 8: channel and the time of the last report, kept until it lapses (R342). -/
  points : List (Nat × Nat)
  pubAt : List Nat
  pubLast : List Nat
  deriving DecidableEq, Repr

/-- A parcel record (R126, R128) with its shadow entry (R159): TEMP, MAXTEMP and WLOSS are held as integers, CHECK follows. -/
structure Parcel where
  pid : Nat
  path : Nat
  profile : Nat
  flags : Nat
  pos : Nat
  dm : Nat
  w : Nat
  moist : Nat
  temp : Int
  stress : Nat
  grad : Nat
  inmoist : Nat
  measmoist : Nat
  laststn : Nat
  source : Nat
  maxtemp : Int
  createtime : Nat
  meastime : Nat
  volume : Nat
  wloss : Int
  dest : Nat
  resid : Nat
  tstep : Nat
  resfrac : Nat
  strfrac : Nat
  grdfrac : Nat
  deriving DecidableEq, Repr

/-- A bin layer (R144). -/
structure Layer where
  dm : Nat
  w : Nat
  volume : Nat
  firstid : Nat
  lastid : Nat
  profile : Nat
  flags : Nat
  temp : Int
  maxtemp : Int
  stress : Nat
  firsttime : Nat
  lasttime : Nat
  deriving DecidableEq, Repr

/-- What a running model step will publish at its end (R165, R178): objects, and channels by binding with raw figure (none where
no parcel qualified) and status. -/
structure StepRun where
  began : Nat
  status : Nat
  objs : List (Nat × Nat)
  chans : List (Nat × Option FX × Nat)
  deriving DecidableEq, Repr

/-- A path's reference positions (R130, R135, R137), and its model step clock (R158): running or not, the number of the tick
boundary of the next timed step, the oscillator time of its start or of the last step, and whether one qualifying advance was passed over while the rate is halved. -/
structure PathSt where
  lastCreate : Nat
  lastAdvance : Nat
  clockOn : Bool
  nextStep : Nat
  since : Nat
  lastWc : Nat
  stepped : Bool
  odd : Bool
  run : Option StepRun
  deriving DecidableEq, Repr

/-- A checkpoint's content (R151): parcels by entry, layers by bin, the path states (offsets of the two reference positions and
the path's Status), ledger objects, counters and the archive records not in NAND yet. -/
structure CkptBody where
  parcels : List (Nat × Parcel)
  bins : List (Nat × List Layer)
  paths : List (Int × Int × Nat)
  accounts : List (Nat × Nat)
  nextPid : Nat
  archiveNext : Nat
  archivePend : List (Nat × List Byte)
  deriving DecidableEq, Repr

/-- A checkpoint in its NAND slot (R151): sequence number, 1 periodic or 2 power-fail, the SHA-256 digest over its body, and the body. -/
structure Ckpt where
  seq : Nat
  kind : Nat
  digest : List Byte
  body : CkptBody
  deriving DecidableEq, Repr

/-- A checkpoint being written (R152, R153): its kind, the WC and oscillator time it is reckoned from, and its content. -/
structure CkptRun where
  kind : Nat
  wc : Nat
  began : Nat
  body : CkptBody
  deriving DecidableEq, Repr

/-- The parcel engines' and the ledger's state beside the objects (R125–R155, R181): parcels by entry, layers of each bin, the last
draw from each bin, the PARCELID and archive counters, the archive ring in DRAM (R38, R149) as its records already copied to NAND and those
still to be copied, oldest first, with the time of the first of these, the updates of the last second, and the next periodic checkpoint. -/
structure PlantSt where
  parcels : List (Nat × Parcel)
  bins : List (Nat × List Layer)
  drawn : List (Nat × Nat)
  nextPid : Nat
  archiveNext : Nat
  archivePend : List (Nat × List Byte)
  archiveCopied : List (Nat × List Byte)
  archiveAt : Nat
  updates : List (Nat × Nat)
  ckptRun : Option CkptRun
  ckptDue : Nat
  /-- Winter entry has stopped model steps (R432). -/
  modelStop : Bool
  deriving DecidableEq, Repr

/-- A cell's slot in progress (R187, R188): its start in the cycle's WC, the number of frequencies, whether it is a reading
(0), a sweep of a capture (1 empty, 2 reference) or a reading beside a capture whose 16 sweeps are done (3), and what was tagged at the sweep midpoint: number, TEMP and profile. -/
structure SlotRun where
  wc : Nat
  n : Nat
  kind : Nat
  tagged : Bool
  tag : Option (Nat × Int × Nat)
  deriving DecidableEq, Repr

/-- A cell's calibration and supervision state (R193, R202): the capture that runs (0 none, 1 empty, 2 reference) with its sweeps and
sums (Re and Im of S21 and S11 at each frequency), the pending empty record with its PLANCRC, the pending L_eff, and per persistent
condition (CABLE, LOWSIGNAL, FRONTEND, EMPTY) the consecutive readings that showed it and that did not. -/
structure CellSt where
  slot : Option SlotRun
  capture : Nat
  sweeps : Nat
  sums : List FX
  pend : Option (List Nat × Nat)
  leff : Option Nat
  setRun : List Nat
  clrRun : List Nat
  deriving DecidableEq, Repr

/-- The dielectric front end (R186–R191): whether a cycle has begun, its start and length in WC µs, by how much WC was
stepped since (R189: the cycle goes on as if it was not), the cells served in it,
1 + g(Td) of it, and the frequencies its synthesiser is programmed for, in Hz. -/
structure DielSt where
  cycleOn : Bool
  cycleAt : Nat
  cycleLen : Nat
  stepped : Int
  served : List Nat
  gain : FX
  synth : List FX
  cells : Vector CellSt 4
  deriving DecidableEq, Repr

/-- A request of the sequencer to the control plane, carried out at the next tick (R273). -/
inductive SeqReq where
  | output (chan : Nat) (on : Bool)
  | manual (chan : Nat) (value : Nat)
  | mode (loop : Nat) (m : Nat)
  deriving DecidableEq, Repr

/-- A conveyor (R277–R282), times on the sequencer's clock: run output, since when, motion proved and since when, and since when it has
been below its rate or its plug switch active. -/
structure ConvSt where
  on : Bool
  onAt : Nat
  proved : Bool
  provedAt : Nat
  lowAt : Option Nat
  plugAt : Option Nat
  deriving DecidableEq, Repr

/-- A chain (R279–R282): the latched command, the round of the start, and the next member to go off with the time its predecessor did. -/
structure ChainSt where
  cmd : Nat
  startAt : Nat
  offNext : Nat
  offAt : Nat
  deriving DecidableEq, Repr

/-- A dryer (R285–R288), times on the sequencer's clock. -/
structure DryerSt where
  cmd : Nat
  stepAt : Nat
  fan : Bool
  fanAt : Nat
  fanProved : Bool
  fanSeen : Bool
  fanLowAt : Option Nat
  meter : Bool
  heat : Bool
  heatAt : Nat
  heatSeen : Bool
  heatLowAt : Option Nat
  stuckAt : Option Nat
  dwellAt : Option Nat
  chainAt : Option Nat
  levelAt : Option Nat
  highRuns : Nat
  unload : Bool
  /-- In FAULT: the fan stays off, FANFAULT having been a cause at entry. -/
  fanOff : Bool
  deriving DecidableEq, Repr

/-- Aeration of a bin (R292–R295): the latched command, the mode acted on, run output and since when, since when its proof is
supervised, its proof, dwell counts, and run time in µs. -/
structure AerSt where
  cmd : Nat
  mode : Nat
  fan : Bool
  fanAt : Nat
  superAt : Nat
  seen : Bool
  lowAt : Option Nat
  metAt : Option Nat
  failAt : Option Nat
  ranMicros : Nat
  deriving DecidableEq, Repr

/-- The sequencer (R271–R276): its clock (WC µs, without the restarts of the application cores) and the WC it last followed; the first
round of OPERATE is still to come; a restart lies behind it; the oscillator time to which the last round ran; requests for
the next tick. -/
structure SeqSt where
  clock : Nat
  lastWc : Nat
  first : Bool
  gap : Bool
  busyTo : Nat
  reqs : List SeqReq
  convs : Vector ConvSt 32
  chains : Vector ChainSt 8
  dryers : Vector DryerSt 4
  aer : Vector AerSt 64
  deriving DecidableEq, Repr

/-- A conveyor, a chain, a dryer and a bin's aeration at rest. -/
def ConvSt.rest : ConvSt := ⟨false, 0, false, 0, none, none⟩
def ChainSt.rest : ChainSt := ⟨0, 0, 0, 0⟩
def DryerSt.rest : DryerSt :=
  ⟨0, 0, false, 0, false, false, none, false, false, 0, false, none, none, none, none, none, 0, false, false⟩

/-- A firmware image slot (R468): as delivered by the factory, of which the module knows what a valid header says; or flash written in
the field as (offset, bytes), the latest first, where what was not written since the erase reads 0xFF. -/
inductive Image where
  | delivered (version secver keyslot revoke : Nat)
  | flash (chunks : List (Nat × List Byte))
  deriving DecidableEq, Repr

/-- The boot record (R470): PREFERRED (true for image B), TRIAL and TRIALSTARTED. -/
structure BootRec where
  preferB : Bool
  trial : Bool
  started : Bool
  deriving DecidableEq, Repr

/-- One copy of the boot record, with its CRC-32 (R470). -/
structure BootCopy where
  record : BootRec
  crc : Nat
  deriving DecidableEq, Repr

/-- The areas of NAND that are encrypted (R474): the archive as pages of records, oldest first (R149), the checkpoint slots (R151), the
slots March and September (R447, empty where erased), and the journal ring as pages, oldest first. -/
structure Areas where
  archive : List (List (Nat × List Byte))
  ckpts : List Ckpt
  march : List Byte
  september : List Byte
  journal : List (List (Nat × List Byte))
  deriving DecidableEq, Repr

/-- Those areas by their content and the number of the media key that enciphers it, under which alone they can be read (R474, log entry
64); `Sealed.cipher` (Media.lean) gives the bytes that stand in NAND. -/
structure Sealed where
  key : Nat
  areas : Areas
  deriving DecidableEq, Repr

/-- What survives every reset (R39, R467, R470): in NAND the encrypted areas, the journal's AnchorHash (R463), the saved counters by object
(R493) and the blocks of the old areas that a secure erase has still to erase (R475); the image slots and the two copies of the boot
record; in fuses the rollback counter and the revoked key slots; in the factory area EraseCount; and the media key in force, counted
from the first. -/
structure Nand where
  store : Sealed
  anchor : List Byte
  counters : List (Nat × Nat)
  old : Option Sealed
  imageA : Image
  imageB : Image
  boot : Vector BootCopy 2
  rollback : Nat
  revoked : Nat
  eraseCount : Nat
  mediaKey : Nat
  deriving DecidableEq, Repr

/-- What the factory fixes (R3, R71, R190, R388, R467): the identity objects, the trim tables as objects, and the public-key hashes of
slots 0–3 (none for a slot not provisioned). -/
structure Factory where
  orderingCode : List Byte
  serial : List Byte
  revision : List Byte
  ports : Nat
  grade : Nat
  trims : List (Nat × Nat)
  keys : List (Option (List Byte))
  deriving DecidableEq, Repr

/-- The straps as sampled at the last power-on (R511, R512): TSEL1:TSEL0, CFGKEY, and the bits of StrapStatus. -/
structure Straps where
  tsel : Nat
  key : Bool
  indet : Nat
  deriving DecidableEq, Repr

/-- What the module measures of the recommended operating conditions (R520): a supply, a field supply as a group measures it, MS by its voltage and by its frequency,
the base plate, and the loads of a pin, a group, a current-loop output, a fan channel and all fans together (R363, R387, R394). -/
inductive Range where
  | supply (k : Fin 2) | field (g : Fin 4) | msVolts | msFrequency | basePlate | pin (i : Fin 32) | group (g : Fin 4) | aoLoad (o : Fin 8)
  | fan (f : Fin 8) | fans
  deriving DecidableEq, Repr

/-- A supply's stay above 36 V (R519): since when it stands there, and when the last such pulse began, in oscillator time,
negative where a reset has come since. -/
structure PulseSt where
  since : Option Int
  last : Option Int
  deriving DecidableEq, Repr

/-- A junction as the shutdown comparator last measured it (R415, R416): not below a temperature for the last `held` µs. -/
structure JunctionSt where
  celsius : Word
  held : Nat
  deriving DecidableEq, Repr

/-- The supplies (R415–R425): whether OVERVOLT stands for VM and for VB; what of R520 stood outside its range when last measured (`Range`);
the oscillator time to which a fault of R480 counts as not yet masked (R489); the pulses of VM and VB above 36 V; the two junctions of the
shutdown comparator and its latch (THSD# asserted), the reset cause that the next power-up will report (R423), and the time of the last test of the store. -/
structure SupplySt where
  overVm : Bool
  overVb : Bool
  outE : List Range
  maskTo : Option Nat
  pulses : Vector PulseSt 2
  junctions : Vector JunctionSt 2
  latch : Bool
  upCause : Nat
  testAt : Nat
  deriving DecidableEq, Repr

/-- Winter entry (R432, R351): 0 not under way, 1 steps 1 and 2 on the buses, 2 the rest, 3 abandoned by a power-fail warning until a
supply returns; the oscillator time of its acceptance; and whether the wait of step 1 is over and what remained was cancelled. -/
structure WinterSt where
  stage : Nat
  at_ : Nat
  cancelled : Bool
  deriving DecidableEq, Repr

/-- BOOT (R440–R443): the events it raises at its end, and recovery (R473) with the end of the data taken (none before a start). -/
structure BootSt where
  atEnd : List (Nat × Nat)
  recovery : Bool
  recovNext : Option Nat
  deriving DecidableEq, Repr

/-- A commit in progress (R451): the target slot, the copy it writes, and the oscillator time of the command. -/
structure Commit where
  target : Nat
  copy : List Byte
  began : Nat
  deriving DecidableEq, Repr

/-- Configuration and security beside the objects (R451–R456, R472–R475): the commit, consecutive low samples of CFG_EN#, the time of
EraseArm, the oscillator time of the end of BOOT, and a reset that follows once the command that asked for it is answered (R438): its
cause, and whether checkpoint and journal are written before it. -/
structure SecSt where
  commit : Option Commit
  keyLow : Nat
  armAt : Option Nat
  bootEnd : Nat
  resetDue : Option (Nat × Bool)
  deriving DecidableEq, Repr

/-- An ENC24 pin (R506): switched off by its limit, and the instant its retries are counted from, or of the last of them. -/
structure EncSt where
  off : Bool
  offAt : Nat
  deriving DecidableEq, Repr

/-- The operations that recur on a period of their own: the command that stands for one has its effect where its period has passed
(log entry 71). -/
inductive Timer where
  | gcRate (k : Nat) | pulseRate (pin : Nat) | fanSpeed (fan : Nat) | publication (q : Nat) | loopLoad | thermalRound | fastSample | counterSave
  | keySample | safeCopy
  deriving DecidableEq, Repr

/-- The whole machine. -/
structure State where
  phase : Phase
  /-- Oscillator time since the reset, µs; the wall clock WC (R97), µs; and the WC of the last tick boundary evaluated (R83). -/
  osc : Nat
  wc : Nat
  tickWc : Nat
  /-- The boundaries evaluated since the reset: the number of the last one, which a step of WC leaves alone (R100). -/
  ticks : Nat
  /-- Every scalar object (R44–R51) in canonical form: keys rising, none listed that holds its default. -/
  objs : List (Nat × Nat)
  /-- Every STR and stored DOMAIN object, in the same form; an unlisted one is empty. -/
  strs : List (Nat × List Byte)
  router : Router
  staging : Staging
  /-- Operating state: the latched SafeTripEvent list (R73), the check in progress (R77), and OPERATE due at the next tick. -/
  trips : List Nat
  check : Option Check
  operateDue : Bool
  entries : List (Nat × EntryDyn)
  late : List LateAction
  gc : Vector GcSt 8
  mp : MpSt
  wcs : WcSt
  link : LinkSt
  pins : Vector PinSt 32
  groups : Vector GroupSt 4
  /-- The field die's local copy of Direction, PowerUpValue and SafeState with its CRC-16 (R372). -/
  safeCopy : List Byte
  safeCrc : Nat
  /-- The output lines still stand as a reset or the end of hold-up found them: they go off at the next tick boundary (R423, R437). -/
  linesHeld : Bool
  /-- Silence causes the core die has still to learn of (R376), and when SilenceState last changed. -/
  silenceEv : List Nat
  silenceAt : Nat
  ai : Vector AiSt 16
  ao : Vector AoSt 8
  rt : Vector RtSt 8
  fans : Vector FanSt 8
  therm : ThermSt
  /-- The channel cache (R36, R37): held entries, most recent first, and the pinned ones. -/
  cache : List Nat
  pinned : List Nat
  /-- The most recent value of each channel's source that is no input of the field interfaces (R32, R108): channel, raw word, status,
  time. -/
  sources : List Source
  loops : List LoopSt
  queue : List Queued
  service : List InService
  engines : Vector EngSt 18
  /-- Oscillator time of each loop's last saturating sample (R228). -/
  satTimes : List (Nat × Nat)
  /-- The loop load of R231 over the last second (R269), newest first: the oscillator time from which it held, and its F32 word. -/
  loads : List (Nat × Nat)
  inj : Vector InjSt 32
  traces : Vector TraceSt 8
  bus : Vector BusSt 4
  net : NetSt
  /-- Writes that wait at the head of the store (R58, R461). -/
  storeQ : List WReq
  /-- The application and the management cores are restarting (R29, R30), with the osc times of recent restarts (R487) and of mismatches (R483). -/
  appDown : Bool
  mgmtDown : Bool
  pairs : PairSt
  plant : PlantSt
  paths : Vector PathSt 16
  diel : DielSt
  seq : SeqSt
  nand : Nand
  factory : Factory
  straps : Straps
  supply : SupplySt
  winter : WinterSt
  boot : BootSt
  sec : SecSt
  enc : Vector EncSt 8
  /-- Channel entries and archive records that cannot be read since an uncorrectable error (R484). -/
  badChans : List Nat
  badArchive : List Nat
  /-- When each recurring operation last ran, on its own period's grid of oscillator time (R89, R268, R361, R399 and others). -/
  dues : List (Timer × Nat)
  /-- Count of open values drawn so far: the model's own field (log entry 3). -/
  fresh : Nat
  pending : List Instr
  deriving DecidableEq, Repr

namespace State

/-- The blocks at rest, as a reset leaves them. -/
def restGc : GcSt := ⟨false, false, 0, [], [], none, [], 0⟩
def restMp : MpSt := ⟨0, false, 0, 0, 0, 0, 0, 0⟩
def restWc : WcSt := ⟨0, 0, 0, 0, false, 0, 0, false, none⟩
def restFrame : Frame := ⟨List.replicate 32 false, List.replicate 8 0, List.replicate 8 0⟩
def restLink : LinkSt := ⟨restFrame, restFrame, [], 0, 0, 0, false, 0, 0⟩
def restPin : PinSt := ⟨0, false, false, false, false, [], 0, 0, false, 0, 0, none⟩
def restAi : AiSt := ⟨List.replicate 4 0, List.replicate 4 0, ⟨0, false, false⟩⟩
def restAo : AoSt := ⟨0, 0, 1, 0, 0, false, 0, 0, 0, 0, 0, 0⟩
def restRt : RtSt := ⟨List.replicate 4 0, List.replicate 4 0, ⟨0, false, false⟩⟩
def restFan : FanSt :=
  { value := 0, applied := 0, preSilence := 0, safeHold := 0, row := 1, wasOn := false, start := .none, startAt := 0,
    lowSince := 0, edges := [], lastEdge := 0, u := 0, ePrev := 0, regOn := false, overAt := 0, retryAt := 0, overRuns := 0,
    lossAt := 0, curSum := 0, curCount := 0, learnAt := 0, learnMin := 0, learnMax := 0, learnSumV := 0, learnSumI := 0,
    learnCount := 0, lagSince := 0, runSince := 0, onMicros := 0 }
def restTherm : ThermSt :=
  { ts := List.replicate 16 ⟨0, 0⟩, asserted := [false, false, false], above := [0, 0, 0], below := [0, 0, 0], movedRound := false,
    graceAt := 0, levelAt := 0, holdAt := 0, holdSensor := 0, dieFailAt := 0, roundAt := none, lastMaxA := 0, lastMaxB := 0
    roundDie := [], hot := false }
def restPairs : PairSt := ⟨false, false, [], [], 0, 0⟩
def restInj : InjSt := ⟨0, 1, 0, FX.fin false 0 0, 0, []⟩
def restTrace : TraceSt := ⟨[], 0, 0⟩
def restTx : TxBuf := ⟨[], ⟨0, 0, 0⟩, 0, false, 0, 0, false⟩
def restBus : BusSt :=
  { started := false, stopping := false, mode := 0, fd := false, protExc := false, tdc := false, bitClocks := 160, bufs := Vector.replicate 3 restTx, txq := [],
    hot := [], hotUse := [], rxq := [], hpb := none, raw := [], rawNext := 0, chosen := none, busOffAt := 0, recovReq := false, recovAt := 0,
    filtWas := [],
    conts := [], syncSeq := 0, syncAt := 0, held := [], errCount := 0, asleep := false, wokeBy := 0 }
def restNet : NetSt :=
  { served := [], inProgress := [], xfers := [], ethOut := [], macs := [], arp := [], drops := [], leaseEnd := 0, retryAt := 0, stormAt := 0,
    stormSeen := false, pollTid := 0, pollT1 := 0, pollOpen := false, pollAt := 0, points := [],
    pubAt := List.replicate 32 0, pubLast := List.replicate 32 0 }
def restPlant : PlantSt :=
  { parcels := [], bins := [], drawn := [], nextPid := 1, archiveNext := 1, archivePend := [], archiveCopied := [], archiveAt := 0, updates := [],
    ckptRun := none, ckptDue := 0, modelStop := false }
def restPath : PathSt := ⟨0, 0, false, 0, 0, 0, false, false, none⟩
def restCell : CellSt := ⟨none, 0, 0, [], none, none, List.replicate 4 0, List.replicate 4 0⟩
def restDiel : DielSt := ⟨false, 0, 200000, 0, [], FX.fin false 4503599627370496 (-52), [], Vector.replicate 4 restCell⟩
def restAer : AerSt := ⟨0, 0, false, 0, 0, false, none, none, none, 0⟩
def restSeq : SeqSt :=
  { clock := 0, lastWc := 0, first := true, gap := false, busyTo := 0, reqs := [], convs := Vector.replicate 32 ConvSt.rest,
    chains := Vector.replicate 8 ChainSt.rest, dryers := Vector.replicate 4 DryerSt.rest, aer := Vector.replicate 64 restAer }
def restBoot : BootSt := ⟨[], false, none⟩
def restSupply : SupplySt :=
  { overVm := false, overVb := false, outE := [], maskTo := none, pulses := Vector.replicate 2 ⟨none, none⟩
    junctions := Vector.replicate 2 ⟨0, 0⟩, latch := false, upCause := 0, testAt := 0 }
def restSec : SecSt := ⟨none, 0, none, 0, none⟩

/-- NAND as the factory leaves it: image A delivered, everything else empty (log entry 4). -/
def newNand : Nand :=
  { store := ⟨0, ⟨[], [], [], [], []⟩⟩, anchor := List.replicate 32 0, counters := [], old := none
    imageA := .delivered 0 0 0 0, imageB := .flash [], boot := Vector.replicate 2 ⟨⟨false, false, false⟩, 0xD202EF8D⟩, rollback := 0, revoked := 0,
    eraseCount := 0, mediaKey := 0 }

/-- A D4 module of grade S as the factory builds it; serial number, revision, trims and keys are open (log entry 4). -/
def newFactory : Factory :=
  { orderingCode := [78, 68, 88, 45, 49, 54, 52, 56, 45, 68, 52, 45, 83, 45, 85]
    serial := List.replicate 12 48, revision := [65], ports := 4, grade := 0, trims := []
    keys := [some (List.replicate 32 0), none, none, none] }

/-- Every block at rest with nothing in any store but what is carried over: NAND, factory area and straps. -/
def blank (nand : Nand) (factory : Factory) (straps : Straps) : State where
  phase := .boot 0
  osc := 0
  wc := 0
  tickWc := 0
  ticks := 0
  objs := []
  strs := []
  router := ⟨[], [], []⟩
  staging := ⟨[], [], 0, 0, 1, List.replicate 32 0⟩
  trips := []
  check := none
  operateDue := false
  entries := []
  late := []
  gc := Vector.replicate 8 restGc
  mp := restMp
  wcs := restWc
  link := restLink
  pins := Vector.replicate 32 restPin
  groups := Vector.replicate 4 ⟨true⟩
  safeCopy := []
  safeCrc := 0
  linesHeld := false
  silenceEv := []
  silenceAt := 0
  ai := Vector.replicate 16 restAi
  ao := Vector.replicate 8 restAo
  rt := Vector.replicate 8 restRt
  fans := Vector.replicate 8 restFan
  therm := restTherm
  cache := []
  pinned := []
  sources := []
  loops := []
  queue := []
  service := []
  engines := Vector.replicate 18 ⟨[], false⟩
  satTimes := []
  loads := []
  inj := Vector.replicate 32 restInj
  traces := Vector.replicate 8 restTrace
  bus := Vector.replicate 4 restBus
  net := restNet
  storeQ := []
  appDown := false
  mgmtDown := false
  pairs := restPairs
  plant := restPlant
  paths := Vector.replicate 16 restPath
  diel := restDiel
  seq := restSeq
  nand := nand
  factory := factory
  straps := straps
  supply := restSupply
  winter := ⟨0, 0, false⟩
  boot := restBoot
  sec := restSec
  enc := Vector.replicate 8 ⟨false, 0⟩
  badChans := []
  badArchive := []
  dues := []
  fresh := 0
  pending := []

/-- The module right after the reset of its first power-on, fed from VM, all straps open (R439, R440: step 0 of BOOT). -/
def reset : State :=
  { blank newNand newFactory ⟨0, false, 0⟩ with
    objs := [(0x100005, 4), (0x600003, 8), (0x600103, 8), (0x600203, 8), (0x600303, 8), (0x80000A, 0x42E60000), (0x804003, 1)]
    strs := [(0x100001, [80, 108, 97, 110, 107, 111, 98, 114, 121]),
             (0x100002, [78, 68, 88, 45, 49, 54, 52, 56, 45, 68, 52, 45, 83, 45, 85]),
             (0x100003, List.replicate 12 48), (0x100004, [65])] }

end State

end Sys2Proof.Machine
end

