-- ==== Sys2Proof/Machine/Ops.lean ====
section
/-! DEFINITION. The named operations over the state: the object store in its canonical form, time, and the channel table
(R65–R70) with its cache (R36, R37). -/
namespace Sys2Proof.Machine

/-! ### The object store -/

/-- The value listed under a key. -/
def lookCell : List (Nat × Nat) → Nat → Option Nat
  | [], _ => none
  | (k', v) :: rest, k => if k' = k then some v else lookCell rest k

/-- The cells without a key. -/
def dropCell : List (Nat × Nat) → Nat → List (Nat × Nat)
  | [], _ => []
  | c :: rest, k => if c.1 = k then dropCell rest k else c :: dropCell rest k

/-- The cells with a key set, in rising order. -/
def setCell : List (Nat × Nat) → Nat → Nat → List (Nat × Nat)
  | [], k, v => [(k, v)]
  | c :: rest, k, v =>
    if k < c.1 then (k, v) :: c :: rest
    else if k = c.1 then (k, v) :: rest
    else c :: setCell rest k v

/-- A store with one key written: the default is never listed. -/
def putCell (cells : List (Nat × Nat)) (k v : Nat) : List (Nat × Nat) :=
  if v = dfltOf k then dropCell cells k else setCell cells k v

/-- The canonical form: keys rising strictly, no default listed. -/
def cellsWf : List (Nat × Nat) → Bool
  | [] => true
  | [c] => c.2 != dfltOf c.1
  | c :: d :: rest => decide (c.1 < d.1) && c.2 != dfltOf c.1 && cellsWf (d :: rest)

/-- The bytes listed under a key. -/
def lookBytes : List (Nat × List Byte) → Nat → List Byte
  | [], _ => []
  | (k', v) :: rest, k => if k' = k then v else lookBytes rest k

/-- The byte strings without a key. -/
def dropBytes : List (Nat × List Byte) → Nat → List (Nat × List Byte)
  | [], _ => []
  | c :: rest, k => if c.1 = k then dropBytes rest k else c :: dropBytes rest k

/-- The byte strings with a key set, in rising order. -/
def setBytes : List (Nat × List Byte) → Nat → List Byte → List (Nat × List Byte)
  | [], k, v => [(k, v)]
  | c :: rest, k, v =>
    if k < c.1 then (k, v) :: c :: rest
    else if k = c.1 then (k, v) :: rest
    else c :: setBytes rest k v

/-- The byte strings with one key written: an empty one is never listed. -/
def storeBytes (l : List (Nat × List Byte)) (k : Nat) (v : List Byte) : List (Nat × List Byte) :=
  if v.isEmpty then dropBytes l k else setBytes l k v

/-- The canonical form of the byte strings: keys rising strictly, no empty one listed. -/
def bytesWf : List (Nat × List Byte) → Bool
  | [] => true
  | [c] => !c.2.isEmpty
  | c :: d :: rest => decide (c.1 < d.1) && !c.2.isEmpty && bytesWf (d :: rest)

/-! ### The encrypted areas of NAND (R474, R475) -/

/-- Areas with nothing in them. -/
def noAreas : Areas := ⟨[], [], [], [], []⟩

/-- The areas as the media key in force deciphers them: what another key enciphered cannot be read. -/
def Nand.areas (n : Nand) : Areas := if n.store.key = n.mediaKey then n.store.areas else noAreas

/-- Areas enciphered under the media key in force. -/
def Nand.keep (n : Nand) (a : Areas) : Nand := { n with store := ⟨n.mediaKey, a⟩ }

def Nand.archive (n : Nand) : List (List (Nat × List Byte)) := n.areas.archive
def Nand.ckpts (n : Nand) : List Ckpt := n.areas.ckpts
def Nand.march (n : Nand) : List Byte := n.areas.march
def Nand.september (n : Nand) : List Byte := n.areas.september
def Nand.journal (n : Nand) : List (List (Nat × List Byte)) := n.areas.journal

namespace State

/-- The working value of an object, as carried on the interface (R47). -/
def ob (s : State) (k : Nat) : Nat := (lookCell s.objs k).getD (dfltOf k)

/-- An object's new working value. -/
def put (s : State) (k v : Nat) : State := { s with objs := putCell s.objs k v }

/-- The bytes of a STR or DOMAIN object. -/
def bytesOf (s : State) (k : Nat) : List Byte := lookBytes s.strs k

def putBytes (s : State) (k : Nat) (v : List Byte) : State := { s with strs := storeBytes s.strs k v }

/-- An F32 object as a value. -/
def f (s : State) (k : Nat) : FX := FX.ofBits32 (s.ob k)

def putF (s : State) (k : Nat) (x : FX) : State := s.put k x.toBits32

/-- A BOOL object. -/
def flag (s : State) (k : Nat) : Bool := s.ob k != 0

def putFlag (s : State) (k : Nat) (b : Bool) : State := s.put k (ofBool b)

/-- One bit of a status object. -/
def stBit (s : State) (k b : Nat) : Bool := bit (s.ob k) b

def putBit (s : State) (k b : Nat) (v : Bool) : State := s.put k (setBit (s.ob k) b v)

/-- A U32 counter that wraps to 0. -/
def inc (s : State) (k : Nat) : State := s.put k (wrap 32 (s.ob k + 1))

/-- A U32 counter that takes `n` more. -/
def incBy (s : State) (k n : Nat) : State := s.put k (wrap 32 (s.ob k + n))

/-- Several objects written in order. -/
def puts (s : State) (l : List (Nat × Nat)) : State := l.foldl (fun s p => s.put p.1 p.2) s

/-- An F32 object in seconds as whole microseconds, rounded. -/
def micros (s : State) (k : Nat) : Nat := (FX.mul (s.f k) (FX.ofNat 1000000)).roundAway.toNat

/-! ### Time -/

/-- `d` µs of oscillator time pass (R97). -/
def elapse (s : State) (d : Nat) : State := { s with osc := s.osc + d, wc := s.wc + d }

/-- When a recurring operation last ran. -/
def lastRun (s : State) (t : Timer) : Nat :=
  match s.dues.find? (fun d => d.1 == t) with
  | some d => d.2
  | none => 0

/-- Whether the period of a recurring operation has passed. -/
def due (s : State) (t : Timer) (period : Nat) : Bool := decide (s.lastRun t + period ≤ s.osc)

/-- A recurring operation has run: its next period follows on the grid of the last. -/
def ran (s : State) (t : Timer) (period : Nat) : State :=
  let at_ := s.lastRun t + period * ((s.osc - s.lastRun t) / period)
  { s with dues := (t, at_) :: s.dues.filter (fun d => d.1 != t) }

/-- Whether a WC multiple of a period has come that the recurring operation has not yet run for. -/
def dueAtWc (s : State) (t : Timer) (period : Nat) : Bool := s.lastRun t != s.wc / period

/-- The operation has run for the last WC multiple. -/
def ranAtWc (s : State) (t : Timer) (period : Nat) : State :=
  { s with dues := (t, s.wc / period) :: s.dues.filter (fun d => d.1 != t) }

/-- The operating state's code (R73). -/
def opState (s : State) : Nat := s.ob Ob.opOperatingState
def inPreop (s : State) : Bool := s.phase == .run && s.opState == 1
def inOperate (s : State) : Bool := s.phase == .run && s.opState == 2
def inSafe (s : State) : Bool := s.phase == .run && s.opState == 3

/-! ### Values the spec leaves open -/

/-- The next open value, and the state with it drawn. -/
def drawFree (s : State) : Nat × State := (Config.freeValue s.fresh, { s with fresh := s.fresh + 1 })

/-- A figure for a `w`-bit field: an open value where it does not fit. -/
def fitU (s : State) (w : Nat) (z : Int) : Nat :=
  if 0 ≤ z ∧ z < ((2 ^ w : Nat) : Int) then z.toNat else Config.freeValue s.fresh % 2 ^ w

/-- A figure for a `w`-bit two's-complement field: an open value where it does not fit. -/
def fitS (s : State) (w : Nat) (z : Int) : Int :=
  if -((2 ^ (w - 1) : Nat) : Int) ≤ z ∧ z < ((2 ^ (w - 1) : Nat) : Int) then z else toSigned w (Config.freeValue s.fresh % 2 ^ w)

/-- A figure rounded to an integer for a 16-bit two's-complement field, saturating, an infinite one too; one that is no number is open. -/
def clip16 (s : State) (rounded : FX → Int) (x : FX) : Int :=
  match x with
  | .nan => toSigned 16 (Config.freeValue s.fresh % 2 ^ 16)
  | .inf neg => if neg then -32768 else 32767
  | .fin .. => max (-32768) (min 32767 (rounded x))

/-- One more open value counted as drawn: the next figure that does not fit is another one. -/
def tickFree (s : State) : State := { s with fresh := s.fresh + 1 }

end State

/-! ### Keys present in the store -/

/-- The n of every object (base + n):sub that holds a value accepted by `p`, in rising order, n below `count`. -/
def listed (s : State) (base count sub : Nat) (p : Nat → Bool) : List Nat :=
  s.objs.filterMap (fun c =>
    let idx := c.1 / 256
    if c.1 % 256 = sub && base ≤ idx && idx < base + count && p c.2 then some (idx - base) else none)

/-- Insertion into a list sorted by `le`. -/
def insertBy {α : Type} (le : α → α → Bool) (x : α) : List α → List α
  | [] => [x]
  | y :: ys => if le x y then x :: y :: ys else y :: insertBy le x ys

/-- A list sorted by `le`, stable. -/
def sortBy {α : Type} (le : α → α → Bool) (l : List α) : List α :=
  l.foldr (insertBy le) []

/-- The entry of an association list. -/
def assoc {α : Type} (l : List (Nat × α)) (k : Nat) : Option α :=
  match l with
  | [] => none
  | (k', v) :: rest => if k' = k then some v else assoc rest k

/-- An association list, keys rising, with one entry set. -/
def assocSet {α : Type} (l : List (Nat × α)) (k : Nat) (v : α) : List (Nat × α) :=
  match l with
  | [] => [(k, v)]
  | c :: rest => if k < c.1 then (k, v) :: c :: rest else if k = c.1 then (k, v) :: rest else c :: assocSet rest k v

def assocDrop {α : Type} (l : List (Nat × α)) (k : Nat) : List (Nat × α) := l.filter (fun c => c.1 != k)

/-! ### Channels -/

/-- Fields of SourceBinding (R70). -/
def bindClass (b : Nat) : Nat := bits b 31 24
def bindInst (b : Nat) : Nat := bits b 23 16
def bindPoint (b : Nat) : Nat := bits b 15 0

def chanType (s : State) (n : Nat) : Nat := s.ob (Ob.chanChannelType n)
def chanBind (s : State) (n : Nat) : Nat := s.ob (Ob.chanSourceBinding n)
def chanF (s : State) (n : Nat) : FX := s.f (Ob.chanValue n)

/-- Channels of a type, in rising order. -/
def chansOfType (s : State) (t : Nat) : List Nat := listed s 0x2000 4096 0x04 (fun v => v == t)

/-- The loop whose node a channel of type 3 publishes (R258). -/
def nodeLoop (s : State) (n : Nat) : Option Nat :=
  let b := chanBind s n
  if chanType s n = 3 ∧ bindClass b = 0x0E ∧ bindInst b = 0x40 then some (bindPoint b / 16) else none

/-- RUNNING of a loop (R232): active, in OPERATE, with an enabled trigger entry. -/
def loopRuns (s : State) (l : Nat) : Bool :=
  s.inOperate && s.flag (Ob.loopActive l) &&
    s.objs.any (fun c => c.1 % 256 == 0x05 && c.2 == 2 && decide (0x5000 ≤ c.1 / 256 ∧ c.1 / 256 < 0x5400) &&
      s.ob (key (c.1 / 256) 0x01) == 1 && s.ob (key (c.1 / 256) 0x06) == l)

/-- Status of a loop's node (R258): VALID follows RUNNING, SUBST follows FAULT. -/
def nodeStatus (s : State) (l st : Nat) : Nat :=
  setBit (setBit st 0 (loopRuns s l)) 6 (bit (s.ob (Ob.supStatusSupervStatus (l / 64) (l % 64))) 7)

/-- Grain clock Status as a read shows it (R91). -/
def gcStatus (s : State) (k : Nat) : Nat :=
  let st := s.ob (Ob.gcStatus k)
  setBit st 0 (s.flag (Ob.gcEnable k) && !bit st 1 && !bit st 3)

def pathClock (s : State) (p : Nat) : Nat := s.ob (Ob.pathClock p)

/-- ACTIVE of a path: it is enabled and its clock VALID. -/
def pathActive (s : State) (p : Nat) : Bool := s.flag (Ob.pathEnable p) && bit (gcStatus s (pathClock s p)) 0

/-- ACTIVE of a zone (R164). -/
def zoneActive (s : State) (z : Nat) : Bool := s.flag (Ob.zoneEnable z) && pathActive s (s.ob (Ob.zonePath z))

/-- The cache with an entry brought in, at most 512 held; the least recently used unpinned entry leaves (R37). -/
def cacheIn (pinned : List Nat) (l : List Nat) (n : Nat) : List Nat :=
  let l := n :: l.filter (fun m => m != n)
  if l.length ≤ 512 then l
  else match l.reverse.find? (fun m => !pinned.contains m && m != n) with
    | some m => l.filter (fun x => x != m)
    | none => l.filter (fun x => x != n)

/-- The cache after a use of entry n. What counts as a use for least-recently-used replacement (R37) is the model's: a read of the entry by
a sample, a fetch, a pin and a write of the entry, and neither a dictionary or data-plane read nor a change of status bits alone (DESIGN
CHOICE, log entry 96). -/
def touchChan (s : State) (n : Nat) : State := { s with cache := cacheIn s.pinned s.cache n }

/-- Writes a channel's engineering Value, its Timestamp and its stored status bits (R65): one entry at once (R31). -/
def writeChan (s : State) (n value stat ts : Nat) : State :=
  let s := touchChan (((s.put (Ob.chanValue n) value).put (Ob.chanStatus n) stat).put (Ob.chanTimestamp n) ts) n
  { s with badChans := s.badChans.filter (fun m => m != n) }

/-- raw × ScaleGain + ScaleOffset (R65), in binary64 and rounded to binary32. -/
def scaled (s : State) (n : Nat) (raw : FX) : Nat :=
  (FX.add (FX.mul raw (s.f (Ob.chanScaleGain n))) (s.f (Ob.chanScaleOffset n))).toBits32

/-- (Value − ScaleOffset) / ScaleGain of a field output channel (R65). -/
def rawOf (s : State) (n : Nat) : FX :=
  FX.to32 (FX.div (FX.sub (chanF s n) (s.f (Ob.chanScaleOffset n))) (s.f (Ob.chanScaleGain n)))

/-- Whether an enabled sample entry (Action 1) has this channel as its target (R108). -/
def sampledByEntry (s : State) (n : Nat) : Bool :=
  (listed s 0x5000 1024 0x01 (fun v => v == 1)).any
    (fun e => s.ob (Ob.entryAction e) == 1 && s.ob (Ob.entryActionTarget e) == n)

/-- The zone whose air a channel of type 5 publishes (R165). -/
def zoneOfChan (s : State) (n : Nat) : Option Nat :=
  let b := chanBind s n
  if chanType s n = 5 ∧ bindClass b = 0x0D then some (bindInst b) else none

/-- The supply of a channel of type 10 (R427). -/
def supplyOfChan (s : State) (n : Nat) : Option Nat :=
  let b := chanBind s n
  if chanType s n = 10 ∧ bindClass b = 0x0A then some (bindInst b) else none

/-- Whether a supply stands below its lower threshold: VM, VB, the store; FA and FB while their groups' TRIP bit is set (R427). -/
def supplyShort (s : State) (inst : Nat) : Bool :=
  match inst with
  | 0 => FX.lt (s.f Ob.supplyVmVoltage) (FX.ofNat 19)
  | 1 => FX.lt (s.f Ob.supplyVbVoltage) (FX.ofNat 17)
  | 2 => FX.lt (s.f Ob.supplyHoldupVoltage) (FX.ofNat 20)
  | 4 => s.stBit (Ob.groupGroupStatus 0) 1
  | 5 => s.stBit (Ob.groupGroupStatus 2) 1
  | _ => false

/-- The status of a channel's source: a node's follows its loop (R258), VALID of a zone's air follows its ACTIVE (R165),
SIGFAULT of a measured supply its threshold (R427). -/
def sourceStatus (s : State) (n st : Nat) : Nat :=
  match nodeLoop s n, zoneOfChan s n, supplyOfChan s n with
  | some l, _, _ => nodeStatus s l st
  | none, some z, _ => setBit st 0 (zoneActive s z)
  | none, none, some k => setBit st 1 (bit st 0 && supplyShort s k)
  | none, none, none => st

/-- Status bits that follow the channel's source, unless sample entries copy it (R108), or the entry is lost until its next write (R484). -/
def liveStatus (s : State) (n st : Nat) : Nat :=
  if sampledByEntry s n || s.badChans.contains n then st else sourceStatus s n st

/-- Status as a read shows it (R69): LOW, HIGH, CACHED and PINNED follow the entry. -/
def chanStatus (s : State) (n : Nat) : Nat :=
  let st := s.ob (Ob.chanStatus n)
  let st := liveStatus s n st
  let v := chanF s n
  let st := setBit st 3 (FX.lt v (s.f (Ob.chanRangeLow n)))
  let st := setBit st 4 (FX.gt v (s.f (Ob.chanRangeHigh n)))
  let st := setBit st 15 (s.cache.contains n)
  setBit st 14 (s.pinned.contains n)

def chanValid (s : State) (n : Nat) : Bool := bit (liveStatus s n (s.ob (Ob.chanStatus n))) 0

/-- A channel number that names a channel with its VALID bit at 1. -/
def goodChan (s : State) (n : Nat) : Bool := n < 4096 && chanValid s n

/-- The value of a channel's source as its channel takes it: a node has no scaling (R65). -/
def engineering (s : State) (n raw : Nat) : Nat := if chanType s n = 3 then raw else scaled s n (FX.ofBits32 raw)

/-- A channel's source has a new value (R32, R65): it is kept as the source's most recent one, and written at once unless sample
entries write the channel (R108). -/
def feed (s : State) (n raw stat ts : Nat) : State :=
  let s := { s with sources := ⟨n, some raw, stat, ts⟩ :: s.sources.filter (fun l => l.chan != n) }
  if sampledByEntry s n then s else writeChan s n (engineering s n raw) stat ts

/-- A module plane's figure for one of its channels. -/
def produce (s : State) (n : Nat) (raw : FX) (stat ts : Nat) : State := feed s n raw.toBits32 stat ts

/-- A status bit of a channel alone. -/
def setChanBit (s : State) (n b : Nat) (v : Bool) : State := s.putBit (Ob.chanStatus n) b v

/-- What a channel's source last gave; one that has given nothing yet has no value and no status bit set. -/
def chanSource (s : State) (n : Nat) : Source := (s.sources.find? (fun l => l.chan == n)).getD ⟨n, none, 0, s.wc⟩

/-- A channel's source changes a status bit, keeping its value (R108): the channel shows it unless sample entries write the channel. -/
def feedBit (s : State) (n b : Nat) (v : Bool) : State :=
  let l := chanSource s n
  let s := { s with sources := { l with stat := setBit l.stat b v } :: s.sources.filter (fun l => l.chan != n) }
  if sampledByEntry s n then s else setChanBit s n b v

/-- A channel's source has a new status at a time, and keeps its value. -/
def feedStatus (s : State) (n stat ts : Nat) : State :=
  let l := chanSource s n
  let s := { s with sources := { l with stat := stat, at_ := ts } :: s.sources.filter (fun l => l.chan != n) }
  if sampledByEntry s n then s else writeChan s n (s.ob (Ob.chanValue n)) stat ts

/-- The channels of a type bound to an instance at a point. -/
def boundChans (s : State) (t cls inst point : Nat) : List Nat :=
  (chansOfType s t).filter (fun n => chanBind s n == cls * 2 ^ 24 + inst * 2 ^ 16 + point)

/-- The field output channel of an output instance, if one is bound (R70). -/
def outChan (s : State) (cls inst : Nat) : Option Nat := (boundChans s 2 cls inst 0).head?

/-! ### Loop contexts (R207, R211, R250) -/

/-- The coefficients of a bank that nothing was loaded into since it was taken: open (R223, R243). -/
def openBank (s : State) (n : Nat) : List (List StageCoef) :=
  (List.range 8).map (fun r => (List.range 4).map (fun k =>
    let o (j : Nat) : Nat := Config.openRead (((n * 8 + r) * 4 + k) * 8 + j) s.fresh
    ⟨(o 7 % 32 : Nat) - 24, (List.range 7).map (fun j => toSigned 24 (o j % 2 ^ 24))⟩))

/-- A context before its first start. -/
def restCtx (bank : List (List StageCoef)) : LoopCtx :=
  { first := true, region := 0, hist := List.replicate 4 ⟨0, 0, 0, 0, 0, 0⟩, ppHi := 0, ppLo := 0, pvel := 0, pacc := 0, uprev := 0
    ffHold := [0, 0], ffHeld := [false, false], lastTime := 0, fbTime := 0, frzRef := 0, frzSum := 0, frzSq := 0, frzCnt := 0
    staleCnt := 0, rangeCnt := 0, clearCnt := 0, sfault := 0, faults := 0, schedVal := 0, dwell := 0, schedHeld := false
    dwelling := false, chosen := false, bank, lastR := FX.zero, atStart := false }

/-- A loop that has just taken a context: its region 0 waits for the load of its first sample (R223). -/
def newLoop (n : Nat) (ctx : LoopCtx) (coeff : Bool) : LoopSt :=
  { loop := n, ctx, coeffPend := coeff, coeffAgain := false, pendMask := 0, maskAgain := 0, profRestart := false
    profAgain := false, odd := false, errHold := false, leaving := false, again := false }

/-- A loop without a sample since it took or returned its context: no feedforward term is held and no NOTACH limit acts (R232; DESIGN CHOICE,
log entry 110). -/
def clearActing (s : State) (n : Nat) : State := (s.putBit (Ob.loopStatus n) 7 false).putBit (Ob.loopStatus n) 11 false

/-- A loop takes a context: Active is 1, and its supervision state 0 (R207, R250). -/
def takeContext (s : State) (n : Nat) : State :=
  let s := ((clearActing s n).put (Ob.loopActive n) 1).put (Ob.supStatusSupervStatus (n / 64) (n % 64)) 0
  { s.tickFree with loops := s.loops.filter (fun l => l.loop != n) ++ [newLoop n (restCtx (openBank s n)) true] }

/-- The context of a loop goes back to the pool (R207). -/
def dropContext (s : State) (n : Nat) : State :=
  { (clearActing s n).put (Ob.loopActive n) 0 with loops := s.loops.filter (fun l => l.loop != n) }

/-! ### Loops and entries that name a channel -/

def loopOf (s : State) (n : Nat) : Option LoopSt := s.loops.find? (fun l => l.loop == n)

/-- The pool of contexts with one loop's state replaced (R207). -/
def setLoop (s : State) (l : LoopSt) : State :=
  { s with loops := s.loops.map (fun x => if x.loop = l.loop then l else x) }

def isActive (s : State) (n : Nat) : Bool := s.flag (Ob.loopActive n)

def supClass (s : State) (n : Nat) : Nat := s.ob (Ob.supClassSupervClass (n / 64) (n % 64))
def supSubst (s : State) (n : Nat) : Nat := s.ob (Ob.supSubstSubstChannel (n / 64) (n % 64))

/-- A fault in force substitutes the feedback of a loop (R253, R254). -/
def substitutes (s : State) (n : Nat) : Bool := (loopOf s n).any (fun l => bits l.ctx.sfault 6 5 == 3)

/-- Channels a loop reads, as far as they are set: its substitute where a fault would take it or has taken it; of its output channel it
reads NOTACH (R109, R226, R254). -/
def loopReads (s : State) (n : Nat) : List Nat :=
  let k := supClass s n
  ([Ob.loopFeedbackChannel n, Ob.loopSetpointChannel n, Ob.loopFeedforwardChannel0 n, Ob.loopFeedforwardChannel1 n,
    Ob.loopManualChannel n, Ob.profSchedChannel n].map s.ob ++
    (if k < 32 ∧ (s.ob (Ob.sclassFaultAction k) = 2 ∨ substitutes s n = true) then [supSubst s n] else []) ++
    [s.ob (Ob.loopOutputChannel n)]).filter (fun c => c < 4096)

/-- Channels a loop reads or writes: its nodes' channels among them (R37, R214). -/
def loopChans (s : State) (n : Nat) : List Nat := loopReads s n ++ (chansOfType s 3).filter (fun c => nodeLoop s c == some n)

/-- The channels pinned for critical loops, at most 384 (R37): loop by loop in the order the contexts were taken, each time anew, so that
a loop that took its context earlier comes first (log entry 86). -/
def pinList (s : State) : List Nat :=
  (s.loops.filter (fun l => s.flag (Ob.loopCritical l.loop))).foldl (fun acc l =>
    (loopChans s l.loop).foldl (fun acc c => if acc.contains c || 384 ≤ acc.length then acc else acc ++ [c]) acc) []

/-- Pins anew; a pinned entry is held in the cache. -/
def repin (s : State) : State :=
  let p := pinList s
  if p == s.pinned then s else p.foldl touchChan { s with pinned := p }

/-- A channel of the critical loop lies beyond the pinned entries. -/
def unpinned (s : State) (n : Nat) : Bool :=
  s.flag (Ob.loopCritical n) && isActive s n && (loopChans s n).any (fun c => !s.pinned.contains c)

/-- The enabled entries, in rising order (R104). -/
def enabledEntries (s : State) : List Nat := listed s 0x5000 1024 0x01 (fun v => v == 1)

/-- The enabled trigger entry of a loop (R208), or 0xFFFF. -/
def triggerEntry (s : State) (n : Nat) : Nat :=
  ((enabledEntries s).find? (fun e => s.ob (Ob.entryAction e) == 2 && s.ob (Ob.entryActionTarget e) == n)).getD 0xFFFF

def entryDyn (s : State) (e : Nat) : EntryDyn := (assoc s.entries e).getD ⟨false, false, 0, 0, 0⟩
def setEntry (s : State) (e : Nat) (d : EntryDyn) : State := { s with entries := assocSet s.entries e d }

end Sys2Proof.Machine
end

