-- ==== Sys2Proof/Machine/Constraints.lean ====
section
/-! DEFINITION. The constraints between objects (R52), one list of those that fail: the first object of each, as its key, and a
figure that tells one failure of an object from another. Checked at entry to OPERATE (R77), and against each write in OPERATE,
in SAFE and while the check runs. -/
namespace Sys2Proof.Machine

abbrev Viol := List (Nat × Nat)

def need (ok : Bool) (k tag : Nat) : Viol := if ok then [] else [(k, tag)]

/-- A channel reference that is unset or names a channel of a type in the mask. -/
def refOk (s : State) (k mask : Nat) : Bool :=
  let n := s.ob k
  n ≥ 4096 || bit mask (chanType s n)

/-- A channel reference that is set and names a channel of a type in the mask. -/
def refSet (s : State) (k mask : Nat) : Bool := s.ob k < 4096 && refOk s k mask

/-- A reference to a field output channel bound to an IO instance. -/
def ioOutRef (s : State) (k : Nat) : Bool :=
  let n := s.ob k
  n ≥ 4096 || (chanType s n == 2 && bindClass (chanBind s n) == 1 && bindPoint (chanBind s n) == 0)

/-! ### References to channels (R52)

What a row allows a channel reference to name holds of every object, in use or not; that one must be set is asked only of an object in use,
further below. -/

/-- A row of references: the first index, how many, the first subindex, how many, and the types that may be named. -/
structure RefRow where
  base : Nat
  count : Nat
  sub : Nat
  subs : Nat
  mask : Nat

/-- The references whose rows limit the types of the channel named, but for those of a loop, which R209 checks while it is active. -/
def chanRefs : List RefRow :=
  [⟨0x3410, 8, 0x01, 64, 0x80⟩, ⟨0x4010, 16, 0x08, 1, 0x840⟩, ⟨0x4010, 16, 0x09, 1, 0x902⟩, ⟨0x4200, 1, 0x02, 3, 0x902⟩,
   ⟨0x4210, 64, 0x08, 2, 0x912⟩, ⟨0x4210, 64, 0x0B, 1, 0x912⟩, ⟨0x4290, 16, 0x03, 1, 0x912⟩, ⟨0x4310, 4, 0x05, 1, 0x912⟩,
   ⟨0x6310, 4, 0x06, 3, 0x102⟩, ⟨0x6310, 4, 0x0A, 1, 0x102⟩, ⟨0x6310, 4, 0x18, 1, 0xC0⟩, ⟨0x6320, 32, 0x03, 1, 0x102⟩,
   ⟨0x6320, 32, 0x07, 1, 0x102⟩, ⟨0x6380, 64, 0x03, 1, 0x102⟩, ⟨0x6380, 64, 0x04, 1, 0x912⟩, ⟨0x7140, 32, 0x02, 1, 0xFFE⟩]

/-- The references that must name a field output channel bound to an IO instance. -/
def ioRefs : List RefRow :=
  [⟨0x6310, 4, 0x09, 1, 4⟩, ⟨0x6310, 4, 0x0B, 1, 4⟩, ⟨0x6320, 32, 0x02, 1, 4⟩, ⟨0x6380, 64, 0x02, 1, 4⟩]

/-- Whether a key is one of a row. -/
def RefRow.covers (r : RefRow) (k : Nat) : Bool :=
  let idx := k / 256
  r.base ≤ idx && idx < r.base + r.count && r.sub ≤ k % 256 && k % 256 < r.sub + r.subs

/-- R52 over every reference to a channel. -/
def refViol (s : State) : Viol :=
  s.objs.flatMap (fun c =>
    if 4096 ≤ c.2 then []
    else match chanRefs.find? (fun r => r.covers c.1) with
      | some r => need (refOk s c.1 r.mask) c.1 0
      | none => need (!ioRefs.any (fun r => r.covers c.1) || ioOutRef s c.1) c.1 0)

/-! ### Bindings (R70) -/

/-- Whether a class, instance and point are defined by the class's chapter. -/
def bindDefined (b : Nat) : Bool :=
  let i := bindInst b
  let p := bindPoint b
  match bindClass b with
  | 0x00 => i == 0 && p == 0
  | 0x01 => i < 32 && p ≤ 2
  | 0x02 => i < 16 && p ≤ 1
  | 0x03 => i < 8 && p ≤ 2
  | 0x04 => i < 8 && p ≤ 1
  | 0x05 => i < 8 && p ≤ 3
  | 0x06 => i < 4 && p ≤ 4
  | 0x07 => i < 8 && p ≤ 1
  | 0x09 => i ≤ 16 && p == 0
  | 0x0A => (i ≤ 1 && p ≤ 1) || (i ≤ 5 && p == 0)
  | 0x0B => i < 4 && 1 ≤ p / 256 && p / 256 ≤ 126
  | 0x0C => i < 16 && (p < 32 || (0x100 ≤ p && p ≤ 0x11F))
  | 0x0D => i < 64 && p ≤ 5
  | 0x0E => (0x20 ≤ i && i ≤ 0x2F && p ≤ 3) || (i == 0x40 && p % 16 < 8 && p / 16 < 512)
  | _ => false

/-- Whether a binding's class matches a channel type. For CLASS 0x07 (GC) no chapter states the type: it is type 1 (DESIGN CHOICE, log
entry 111). -/
def bindMatches (b t : Nat) : Bool :=
  let p := bindPoint b
  t == 0 ||
  match bindClass b with
  | 0x00 => true
  | 0x01 => t == 1 || (t == 2 && p == 0)
  | 0x02 => t == 1
  | 0x03 => if p = 0 then t == 2 else t == 1
  | 0x04 => t == 1
  | 0x05 => if p = 0 then t == 2 else t == 1
  | 0x06 => t == 6
  | 0x07 => t == 1
  | 0x09 => t == 9
  | 0x0A => t == 10
  | 0x0B => t == 8
  | 0x0C => t == 4
  | 0x0D => t == 5
  | 0x0E => if bindInst b = 0x40 then t == 3 else t == 7
  | _ => false

/-- Channels with a type other than Unused. -/
def usedChans (s : State) : List Nat := listed s 0x2000 4096 0x04 (fun v => v != 0)

/-- R52 over the channels: range limits, type and binding, one channel per output instance, and the pins, outputs and fans that
the bindings name (R65, R70, R359, R384, R397). An unused channel (type 0) that keeps an output binding is no second channel of that output
(DESIGN CHOICE, log entry 110). -/
def chanViol (s : State) : Viol :=
  let lows := listed s 0x2000 4096 0x08 (fun _ => true) ++ listed s 0x2000 4096 0x09 (fun _ => true)
  lows.flatMap (fun n => need (FX.lt (s.f (Ob.chanRangeLow n)) (s.f (Ob.chanRangeHigh n))) (Ob.chanRangeLow n) 0) ++
  (usedChans s).flatMap (fun n =>
    let b := chanBind s n
    let t := chanType s n
    let i := bindInst b
    let p := bindPoint b
    let c := bindClass b
    need (bindMatches b t) (Ob.chanChannelType n) 1 ++
    (if t = 2 ∧ c ≠ 0 then
      (chansOfType s 2).flatMap (fun m => need (m ≤ n || chanBind s m != b) (Ob.chanSourceBinding n) (16 + m))
     else []) ++
    need (c != 1 || t != 2 || p != 0 || s.ob (Ob.pinDirection i) == 2) (Ob.chanSourceBinding n) 2 ++
    need (c != 1 || t != 1 || p > 1 || s.ob (Ob.pinDirection i) == 1) (Ob.chanSourceBinding n) 3 ++
    need (c != 3 || p != 0 || s.flag (Ob.aoEnable i)) (Ob.chanSourceBinding n) 4 ++
    need (c != 5 || p != 0 || s.flag (Ob.fanEnable i)) (Ob.chanSourceBinding n) 5)

/-! ### Schedule entries (R104) -/

/-- The constraints of an entry's action, each with the object it bears on. A parameter or target that R104 gives no meaning is one of
them; where its table gives a parameter or a target as 0 (Actions 0 to 4), another figure is ignored (DESIGN CHOICE, log entry 73). -/
def entryParts (s : State) (e : Nat) : List (Bool × Nat) :=
  let t := s.ob (Ob.entryActionTarget e)
  let d := s.ob (Ob.entryDomain e)
  let per := s.ob (Ob.entryPeriod e)
  let target := Ob.entryActionTarget e
  let io := decide (t < 4096) && ioOutRef s target
  match s.ob (Ob.entryAction e) with
  | 1 => [(decide (t < 4096) && chanType s t != 0 && chanType s t != 2 && chanType s t != 11, target)]
  | 2 =>
    [(decide (t < 512) && triggerEntry s t == e, target),
     (if d = 9 then per % 10 == 0 && decide (50 ≤ per) else if d = 8 then decide (64 ≤ per) else decide (1 ≤ per), Ob.entryPeriod e)]
  | 3 => [(decide (t < 16), target)]
  | 4 => [(decide (t < 16), target)]
  | 5 => [(io, target), (decide (s.ob (Ob.entryActionParam e) ≤ 2), Ob.entryActionParam e)]
  | 6 => [(decide (240 ≤ t ∧ t ≤ 255), target)]
  | 7 =>
    [(d == 8, Ob.entryDomain e), (per == 1024, Ob.entryPeriod e), (io, target),
     (decide (s.ob (Ob.entryActionParam e) < 4096), Ob.entryActionParam e)]
  | _ => []

/-- Whether an entry's operands meet the constraints of its action. -/
def entryOk (s : State) (e : Nat) : Bool := (entryParts s e).all (fun x => x.1)

def entryViol (s : State) : Viol :=
  (enabledEntries s).flatMap (fun e => (entryParts s e).flatMap (fun x => need x.1 x.2 0))

/-! ### Loops (R209, R234, R249, R265) -/

def activeLoops (s : State) : List Nat := listed s 0x3000 512 0x01 (fun v => v != 0)

/-- Boundaries of the regions in use rise strictly and lie at least 2 × Hysteresis apart (R234). -/
def boundsOk (s : State) (n : Nat) : Bool :=
  let c := s.ob (Ob.profRegionCount n)
  let h2 := FX.mul (FX.ofNat 2) (s.f (Ob.profHysteresis n))
  (List.range 6).all (fun r =>
    c ≤ r + 2 ||
    (let a := s.f (Ob.profBoundary n r)
     let b := s.f (Ob.profBoundary n (r + 1))
     FX.lt a b && FX.ge (FX.sub b a) h2))

/-- The check of one active loop. -/
def loopCheck (s : State) (n : Nat) : Viol :=
  let c := supClass s n
  let sub2 := c < 32 && s.ob (Ob.sclassFaultAction c) == 2
  let out := s.ob (Ob.loopOutputChannel n)
  need (refSet s (Ob.loopFeedbackChannel n) 0x9FA) (Ob.loopFeedbackChannel n) 0 ++
  need (refSet s (Ob.loopSetpointChannel n) 0x9FA) (Ob.loopSetpointChannel n) 0 ++
  need (refSet s (Ob.loopOutputChannel n) 0xC) (Ob.loopOutputChannel n) 0 ++
  (activeLoops s).flatMap (fun m => need (m == n || s.ob (Ob.loopOutputChannel m) != out || out ≥ 4096)
    (Ob.loopOutputChannel (min m n)) (16 + max m n)) ++
  need (refOk s (Ob.loopFeedforwardChannel0 n) 0xFFA) (Ob.loopFeedforwardChannel0 n) 0 ++
  need (refOk s (Ob.loopFeedforwardChannel1 n) 0xFFA) (Ob.loopFeedforwardChannel1 n) 0 ++
  need (refOk s (Ob.loopManualChannel n) 0x800) (Ob.loopManualChannel n) 0 ++
  need (s.ob (Ob.loopMode n) != 1 || s.ob (Ob.loopManualChannel n) < 4096) (Ob.loopMode n) 0 ++
  need (FX.lt (s.f (Ob.loopOutLow n)) (s.f (Ob.loopOutHigh n))) (Ob.loopOutLow n) 0 ++
  need (boundsOk s n) (Ob.profBoundary n 0) 0 ++
  need (s.ob (Ob.profDefaultRegion n) < s.ob (Ob.profRegionCount n)) (Ob.profDefaultRegion n) 0 ++
  need ((s.ob (Ob.profRegionCount n) == 1 || s.ob (Ob.profSchedChannel n) < 4096) && refOk s (Ob.profSchedChannel n) 0xFFE)
    (Ob.profSchedChannel n) 0 ++
  need (!sub2 || refSet s (Ob.loopFeedbackChannel n) 0x40) (Ob.loopFeedbackChannel n) 1 ++
  need (!sub2 || supSubst s n < 4096) (Ob.supSubstSubstChannel (n / 64) (n % 64)) 1

/-- Output limits of loops that are not active (R208). -/
def outLimitViol (s : State) : Viol :=
  (listed s 0x3000 512 0x13 (fun _ => true) ++ listed s 0x3000 512 0x14 (fun _ => true)).flatMap (fun n =>
    need (isActive s n || FX.lt (s.f (Ob.loopOutLow n)) (s.f (Ob.loopOutHigh n))) (Ob.loopOutLow n) 0)

def loopViol (s : State) : Viol := (activeLoops s).flatMap (loopCheck s) ++ outLimitViol s

/-- Whether a loop is active and stays so: Active was not written 0 while a sample of it is in service. -/
def staysActive (s : State) (n : Nat) : Bool := isActive s n && (loopOf s n).all (fun l => !l.leaving || l.again)

def traceViol (s : State) : Viol :=
  (List.range 8).flatMap (fun t =>
    let l := s.ob (Ob.traceLoop t)
    need (l ≥ 512 || staysActive s l) (Ob.traceLoop t) 0 ++
    (List.range 8).flatMap (fun u => need (u ≤ t || l ≥ 512 || s.ob (Ob.traceLoop u) != l) (Ob.traceLoop t) (16 + u)))

/-! ### Paths, stations, zones and profiles (R129, R132, R162, R176) -/

def enabledPaths (s : State) : List Nat := (List.range 16).filter (fun p => s.flag (Ob.pathEnable p))

/-- Follows transfers from a path for at most `fuel` paths; true where it comes back to a path already met. -/
def transferLoops (s : State) : Nat → List Nat → Nat → Bool
  | 0, _, _ => true
  | fuel + 1, seen, p =>
    if seen.contains p then true
    else if s.flag (Ob.pathEnable p) && s.ob (Ob.pathEndAction p) == 1 then
      transferLoops s fuel (p :: seen) (s.ob (Ob.pathEndTarget p))
    else false

/-- The end of a path names what it may (R129). -/
def pathEndOk (s : State) (p : Nat) : Bool :=
  let t := s.ob (Ob.pathEndTarget p)
  match s.ob (Ob.pathEndAction p) with
  | 0 => t < 64 && s.flag (Ob.binEnable t)
  | 1 => t < 16 && s.flag (Ob.pathEnable t) && s.ob (Ob.pathInletKind t) == 1
  | _ => true

/-- The creation period N₀ (R130). -/
def createPeriod (s : State) (p : Nat) : Nat :=
  let r := (FX.div (s.f (Ob.pathParcelVolume p)) (s.f (Ob.gcLitresPerCount (s.ob (Ob.pathClock p))))).roundAway.toNat
  max 1 r

def stationKind (w : Nat) : Nat := bits w 31 28
def stationChan (w : Nat) : Nat := bits w 11 0

/-- What an enabled path must have: an enabled clock, and an end (R129, R52). -/
def pathWorks (s : State) (p : Nat) : Viol :=
  need (s.flag (Ob.gcEnable (s.ob (Ob.pathClock p)))) (Ob.pathClock p) 0 ++
  need (pathEndOk s p && !transferLoops s 17 [] p) (Ob.pathEndAction p) 0

/-- What the objects of any path must meet, enabled or not (R129, R132, R179, R52). -/
def pathCheck (s : State) (p : Nat) : Viol :=
  let len := s.ob (Ob.pathLengthCounts p)
  let cnt := s.ob (Ob.pathStationCount p)
  let lead := s.ob (Ob.pmodelLeadCounts p)
  need (s.ob (Ob.pathInletKind p) != 2 || s.flag (Ob.binEnable (s.ob (Ob.pathInletBin p)))) (Ob.pathInletBin p) 0 ++
  need (s.ob (Ob.pathInletKind p) == 1 || 2 * s.ob (Ob.pathAdvancePeriod p) ≤ createPeriod s p) (Ob.pathAdvancePeriod p) 0 ++
  (List.range cnt).flatMap (fun i =>
    let o := s.ob (Ob.stnOffStationOffset p i)
    need (o < len && (i = 0 || s.ob (Ob.stnOffStationOffset p (i - 1)) < o)) (Ob.stnOffStationOffset p i) 0) ++
  need (lead ≤ len) (Ob.pmodelLeadCounts p) 0 ++
  need (lead + s.ob (Ob.pmodelWindowCounts p) ≤ len || lead > len) (Ob.pmodelWindowCounts p) 0

/-- The kind-3 stations of some paths, as (path, station, cell) (R200). -/
def kind3Stations (s : State) (ps : List Nat) : List (Nat × Nat × Nat) :=
  ps.flatMap (fun p => (List.range (s.ob (Ob.pathStationCount p))).filterMap (fun i =>
    let w := s.ob (Ob.stnSrcStationSource p i)
    if stationKind w = 3 then some (p, i, bindInst (chanBind s (stationChan w))) else none))

/-- The check of R200, over every path. -/
def tagViol (s : State) : Viol :=
  let ts := kind3Stations s (List.range 16)
  ts.flatMap (fun t =>
    let w := s.ob (Ob.stnSrcStationSource t.1 t.2.1)
    let n := stationChan w
    let b := chanBind s n
    need (chanType s n == 6 && bindClass b == 6 && bindPoint b == 0) (Ob.stnSrcStationSource t.1 t.2.1) 0 ++
    ts.flatMap (fun u => need (u.2.2 != t.2.2 || (u.1, u.2.1) == (t.1, t.2.1) || key u.1 u.2.1 < key t.1 t.2.1)
      (Ob.stnSrcStationSource t.1 t.2.1) (16 + key u.1 u.2.1)))

def enabledZones (s : State) : List Nat := listed s 0x4210 64 0x01 (fun v => v != 0)

def zoneViol (s : State) : Viol :=
  (enabledZones s).flatMap (fun z =>
    let p := s.ob (Ob.zonePath z)
    let a := s.ob (Ob.zoneStartOffset z)
    let b := s.ob (Ob.zoneEndOffset z)
    need (s.flag (Ob.pathEnable p)) (Ob.zonePath z) 0 ++
    need (a < b) (Ob.zoneStartOffset z) 0 ++
    need (b ≤ s.ob (Ob.pathLengthCounts p)) (Ob.zoneEndOffset z) 0 ++
    (enabledZones s).flatMap (fun y =>
      need (y ≤ z || s.ob (Ob.zonePath y) != p || s.ob (Ob.zoneStartOffset y) ≥ b || a ≥ s.ob (Ob.zoneEndOffset y))
        (Ob.zoneStartOffset z) (16 + y)))

def profileViol (s : State) : Viol :=
  (List.range 32).flatMap (fun g =>
    need (FX.le (s.f (Ob.grainSafeGrainTemp g)) (s.f (Ob.grainMaxGrainTemp g))) (Ob.grainMaxGrainTemp g) 0)

/-! ### Dielectric plan (R186) -/

def planViol (s : State) : Viol :=
  (List.range (s.ob Ob.feFrequencyCount - 1)).flatMap (fun i =>
    need (FX.lt (s.f (Ob.freqFrequency i)) (s.f (Ob.freqFrequency (i + 1)))) (Ob.freqFrequency i) 0)

/-! ### Sequencing (R278, R283, R284, R291) -/

def enabledConvs (s : State) : List Nat := (List.range 32).filter (fun c => s.flag (Ob.convEnable c))
def enabledChains (s : State) : List Nat := (List.range 8).filter (fun c => s.flag (Ob.chainEnable c))
def enabledDryers (s : State) : List Nat := (List.range 4).filter (fun d => s.flag (Ob.dryerEnable d))
def runningBins (s : State) : List Nat := listed s 0x6380 64 0x01 (fun v => v != 0)

/-- Members of a chain in flow order (R278). -/
def chainMembers (s : State) (c : Nat) : List Nat :=
  (List.range (s.ob (Ob.chainMemberCount c))).map (fun i => s.ob (Ob.chainMember c i))

/-- Output channels named by enabled sequencing objects, with the key of each name (R284). -/
def seqOutputs (s : State) : List (Nat × Nat) :=
  ((enabledDryers s).flatMap (fun d => [Ob.dryerFanRunChannel d, Ob.dryerMeteringRunChannel d]) ++
   (enabledConvs s).map (fun c => Ob.convRunChannel c) ++
   (runningBins s).map (fun b => Ob.aerFanRunChannel b)).filterMap
    (fun k => if s.ob k < 4096 then some (k, s.ob k) else none)

def seqViol (s : State) : Viol :=
  let outs := seqOutputs s
  outs.flatMap (fun a => outs.flatMap (fun b => need (b.1 ≤ a.1 || a.2 != b.2 || a.1 / 256 == b.1 / 256) a.1 (16 + b.1))) ++
  (enabledChains s).flatMap (fun k =>
    let ms := chainMembers s k
    need (1 ≤ ms.length) (Ob.chainMemberCount k) 0 ++
    (List.range ms.length).flatMap (fun i =>
      let m := ms.getD i 0xFF
      need (m < 32 && s.flag (Ob.convEnable m)) (Ob.chainMember k i) 0 ++
      need ((ms.filter (fun x => x == m)).length ≤ 1) (Ob.chainMember k i) 1 ++
      need ((enabledChains s).all (fun j => j ≤ k || !(chainMembers s j).contains m)) (Ob.chainMember k i) 2)) ++
  (enabledConvs s).flatMap (fun c =>
    need (s.ob (Ob.convRunChannel c) < 4096) (Ob.convRunChannel c) 1) ++
  (enabledDryers s).flatMap (fun d =>
    let pl := s.ob (Ob.dryerPlenumLoop d)
    let dl := s.ob (Ob.dryerDischargeLoop d)
    let batch := s.ob (Ob.dryerKind d) == 1
    need (pl < 512 && staysActive s pl && s.ob (Ob.loopManualChannel pl) < 4096) (Ob.dryerPlenumLoop d) 0 ++
    need (if batch then dl ≥ 512 || staysActive s dl else dl < 512 && staysActive s dl && s.ob (Ob.loopManualChannel dl) < 4096)
      (Ob.dryerDischargeLoop d) 0 ++
    need ((enabledDryers s).all (fun e => e ≤ d ||
      [pl, dl].all (fun l => l ≥ 512 || (l != s.ob (Ob.dryerPlenumLoop e) && l != s.ob (Ob.dryerDischargeLoop e)))))
      (Ob.dryerPlenumLoop d) 2 ++
    [Ob.dryerHeatProvenChannel d, Ob.dryerFullChannel d, Ob.dryerEmptyChannel d, Ob.dryerFanRunChannel d,
      Ob.dryerMeteringRunChannel d].flatMap (fun k => need (s.ob k < 4096) k 1) ++
    need (!batch || s.ob (Ob.dryerBatchEndChannel d) < 4096) (Ob.dryerBatchEndChannel d) 1) ++
  (runningBins s).flatMap (fun b =>
    need (s.ob (Ob.aerFanRunChannel b) < 4096) (Ob.aerFanRunChannel b) 1)

/-! ### Fans, buses, time and publications (R304, R343, R344, R395) -/

def fanViol (s : State) : Viol :=
  (List.range 8).flatMap (fun f =>
    need (FX.lt (s.f (Ob.fanMinVoltage f)) (s.f (Ob.fanMaxVoltage f))) (Ob.fanMinVoltage f) 0 ++
    need (s.ob (Ob.fanControlMode f) != 2 || 1 ≤ s.ob (Ob.fanTachPulses f)) (Ob.fanControlMode f) 0)

/-- The bit-timing objects of a channel that fail R303, in rising order: of a constraint over several the first is named. -/
def timingFaults (s : State) (n : Nat) : List Nat :=
  let np := s.ob (Ob.busTimingNomPrescaler n)
  let n1 := s.ob (Ob.busTimingNomTseg1 n)
  let n2 := s.ob (Ob.busTimingNomTseg2 n)
  let dp := s.ob (Ob.busTimingDataPrescaler n)
  let d1 := s.ob (Ob.busTimingDataTseg1 n)
  let d2 := s.ob (Ob.busTimingDataTseg2 n)
  let nq := 1 + n1 + n2
  let dq := 1 + d1 + d2
  let nb := np * nq
  let db := dp * dq
  let bad (b : Bool) (k : Nat) : List Nat := if b then [k] else []
  bad (nb < 80 || nb > 8000 || (s.flag (Ob.busFdEnable n) && (db > nb || db < 16))) (Ob.busTimingNomPrescaler n) ++
  bad (nq < 8 || nq > 385) (Ob.busTimingNomTseg1 n) ++
  bad (s.ob (Ob.busTimingNomSjw n) > n2) (Ob.busTimingNomTseg2 n) ++
  bad (s.ob (Ob.busTimingTdcMode n) == 1 && dp > 2) (Ob.busTimingDataPrescaler n) ++
  bad (dq < 5 || dq > 49) (Ob.busTimingDataTseg1 n) ++
  bad (s.ob (Ob.busTimingDataSjw n) > d2) (Ob.busTimingDataTseg2 n)

/-- The first of them, if any. -/
def timingFault (s : State) (n : Nat) : Option Nat := (timingFaults s n).head?

def busViol (s : State) : Viol :=
  (List.range 4).flatMap (fun n =>
    if s.flag (Ob.busEnable n) then (timingFaults s n).map (fun k => (k, 0)) else []) ++
  need (s.ob Ob.wcSyncSource != 2 || !bit (s.ob Ob.tsyncMasterChannels) (s.ob Ob.tsyncBusSyncChannel)) Ob.wcSyncSource 0

/-- Every constraint that fails (R52). -/
def violations (s : State) : Viol :=
  refViol s ++ chanViol s ++ loopViol s ++ traceViol s ++ (List.range 16).flatMap (pathCheck s) ++ (enabledPaths s).flatMap (pathWorks s) ++ tagViol s ++ zoneViol s ++
  profileViol s ++ planViol s ++ entryViol s ++ fanViol s ++ seqViol s ++ busViol s

/-- The lowest failing object, as ConsistencyFault shows it (R73); 0 for none. -/
def firstFault (v : Viol) : Nat :=
  match v with
  | [] => 0
  | c :: rest => rest.foldl (fun m x => min m x.1) c.1 * 256

/-- Whether a change breaks a constraint that held before it (R52). One that was broken before, as in SAFE entered from PREOP, and stays so is
not broken by the write (DESIGN CHOICE, log entry 111). -/
def breaksNew (s t : State) : Bool :=
  let old := violations s
  (violations t).any (fun v => !old.contains v)

end Sys2Proof.Machine
end

