-- ==== Sys2Proof/Machine/Elementary.lean ====
section
/-! DEFINITION. Exponential, logarithm, powers, sine, arc tangent and decimal logarithm in binary64 (R175): worked out in fixed
point with 320 fraction bits, and given as one of the two binary64 values beside it, which lie within 1 ulp: which one is open. -/
namespace Sys2Proof.Machine

namespace Fix

/-- Fraction bits of the fixed-point figures. -/
def P : Nat := 320

def one : Int := ((2 ^ P : Nat) : Int)

def mul (a b : Int) : Int := a * b / one
def div (a b : Int) : Int := if b = 0 then 0 else a * one / b

/-- A finite value in fixed point, cut below. -/
def ofFX : FX → Int
  | .fin n m e =>
    let k := e + (P : Int)
    FX.sgn n (if 0 ≤ k then m * 2 ^ k.toNat else m / 2 ^ (-k).toNat)
  | _ => 0

/-- A fixed-point figure times 2^k, rounded to binary64. -/
def toFX (z k : Int) : FX := FX.round64 (decide (z < 0)) z.natAbs (k - (P : Int)) true

/-- Whether z × 2^k has a greater magnitude than a value of its sign. -/
def beyond (z k : Int) (m : Nat) (e : Int) : Bool :=
  let g := min (k - (P : Int)) e
  decide (m * 2 ^ (e - g).toNat < z.natAbs * 2 ^ (k - (P : Int) - g).toNat)

/-- The binary64 value on the other side of z × 2^k from its rounded one. -/
def farSide (z k : Int) : FX :=
  match toFX z k with
  | .fin n m e =>
    if m = 0 then .fin n m e
    else if beyond z k m e then FX.round64 n (m + 1) e false
    else if m = 2 ^ 52 then FX.round64 n (2 * m - 1) (e - 1) false
    else FX.round64 n (m - 1) e false
  | x => x

/-- A result of the function unit within 1 ulp of z × 2^k (R175): the nearest value, or the one on the other side. -/
def unit (fn : Nat) (a b : FX) (z k : Int) : FX := if Config.farSide fn a b then farSide z k else toFX z k

/-- Σ of odd-power terms x^(2k+1)/(2k+1), signs alternating when `alt`; `t` is the present power. -/
def oddSeries (alt : Bool) (x2 : Int) : Nat → Nat → Int → Int → Int
  | 0, _, _, acc => acc
  | fuel + 1, k, t, acc =>
    let term := t / ((2 * k + 1 : Nat) : Int)
    oddSeries alt x2 fuel (k + 1) (mul t x2) (if alt && k % 2 == 1 then acc - term else acc + term)

/-- atanh x for |x| ≤ 1/3. -/
def atanh (x : Int) : Int := oddSeries false (mul x x) 104 0 x 0

/-- arctan x for |x| ≤ 1/4. -/
def atanSmall (x : Int) : Int := oddSeries true (mul x x) 84 0 x 0

def ln2 : Int := 2 * atanh (one / 3)
def ln10 : Int := 3 * ln2 + 2 * atanh (one / 9)
def pi : Int := 16 * atanSmall (one / 5) - 4 * atanSmall (one / 239)

/-- Σ r^n/n! from n on. -/
def expSeries (r : Int) : Nat → Nat → Int → Int → Int
  | 0, _, _, acc => acc
  | fuel + 1, n, t, acc =>
    let t' := mul t r / ((n + 1 : Nat) : Int)
    expSeries r fuel (n + 1) t' (acc + t')

/-- e^x of a fixed-point x, as a figure and its power of two. -/
def exp (x : Int) : Int × Int :=
  let x := max (-1200 * one) (min x (1000 * one))
  let k := x / ln2
  (expSeries (x - k * ln2) 66 0 one one, k)

/-- ln of m × 2^e for m > 0, in fixed point. -/
def ln (m : Nat) (e : Int) : Int :=
  let b := Nat.log2 m
  let z : Int := ((m * 2 ^ P / 2 ^ b : Nat) : Int)
  let k : Int := e + (b : Int)
  let (z, k) := if 2 * z > 3 * one then (z / 2, k + 1) else (z, k)
  k * ln2 + 2 * atanh (div (z - one) (z + one))

/-- Σ of the sine series from the term x^(2n+1)/(2n+1)! on. -/
def sinSeries (x2 : Int) : Nat → Nat → Int → Int → Int
  | 0, _, _, acc => acc
  | fuel + 1, n, t, acc =>
    let d : Nat := (2 * n + 2) * (2 * n + 3)
    sinSeries x2 fuel (n + 1) (-(mul t x2 / ((d : Nat) : Int))) (acc + t)

def sin (x : Int) : Int :=
  let r := x % (2 * pi)
  let r := if r > pi then r - 2 * pi else r
  sinSeries (mul r r) 70 0 r 0

def sqrt (x : Int) : Int := ((isqrt (x.toNat * 2 ^ P) : Nat) : Int)

/-- arctan of a non-negative figure. -/
def atanPos (x : Int) : Int :=
  let h (x : Int) : Int := div x (one + sqrt (one + mul x x))
  8 * atanSmall (h (h (h x)))

/-- The angle of (x, y), in (−π, π]. -/
def atan2 (y x : Int) : Int :=
  if x = 0 then (if y = 0 then 0 else if y > 0 then pi / 2 else -(pi / 2))
  else
    let ay := (y.natAbs : Int)
    let ax := (x.natAbs : Int)
    let a := if ay ≤ ax then atanPos (div ay ax) else pi / 2 - atanPos (div ax ay)
    let a := if x < 0 then pi - a else a
    if y < 0 then -a else a

end Fix

namespace FX

/-- e^x. -/
def exp (x : FX) : FX :=
  match x with
  | .nan => .nan
  | .inf n => if n then zero else .inf false
  | x =>
    if x.isZero then one
    else
      let r := Fix.exp (Fix.ofFX x)
      Fix.unit 1 x zero r.1 r.2

/-- ln x. -/
def ln (x : FX) : FX :=
  match x with
  | .fin false m e => if m = 0 then .inf true else if eq x one then zero else Fix.unit 2 x zero (Fix.ln m e) 0
  | .fin true m _ => if m = 0 then .inf true else .nan
  | .inf false => .inf false
  | _ => .nan

/-- x^y for a base at or above 0. -/
def pow (x y : FX) : FX :=
  match x, y with
  | .nan, _ => .nan
  | _, .nan => .nan
  | .fin n m e, .fin ny my ey =>
    if my = 0 then one
    else if m = 0 then (if ny then .inf false else zero)
    else if n then .nan
    else if eq x one then one
    else
      let l := Fix.ln m e
      let p : Int := l * sgn ny my
      let z : Int := if 0 ≤ ey then p * ((2 ^ ey.toNat : Nat) : Int) else p / ((2 ^ (-ey).toNat : Nat) : Int)
      let r := Fix.exp z
      Fix.unit 3 x y r.1 r.2
  | .inf _, .fin ny my _ => if my = 0 then one else if ny then zero else .inf false
  | .fin _ m e, .inf ny =>
    if eq (.fin false m e) one then one
    else if lt (.fin false m e) one == ny then .inf false else zero
  | .inf _, .inf ny => if ny then zero else .inf false

def sin (x : FX) : FX := if x.isZero || !x.isFinite then x else Fix.unit 4 x zero (Fix.sin (Fix.ofFX x)) 0

def log10 (x : FX) : FX :=
  match x with
  | .fin false m e => if m = 0 then .inf true else if eq x one then zero
      else Fix.unit 5 x zero (Fix.div (Fix.ln m e) Fix.ln10) 0
  | .inf false => .inf false
  | .fin true 0 _ => .inf true
  | _ => .nan

/-- The angle of the vector (x, y). -/
def atan2 (y x : FX) : FX :=
  if !y.isFinite || !x.isFinite then .nan
  else
    let r := Fix.atan2 (Fix.ofFX y) (Fix.ofFX x)
    if r = 0 then zero else Fix.unit 6 y x r 0

/-- π and ln 10 in binary64. -/
def pi : FX := Fix.toFX Fix.pi 0
def ln10 : FX := Fix.toFX Fix.ln10 0

end FX

end Sys2Proof.Machine
end

