-- ==== Sys2Proof/Machine/Hash.lean ====
section
/-! DEFINITION. The checks over bytes the spec names: CRC-32 of IEEE 802.3 (R61), the CRC-16 of a parcel record,
and SHA-256 (R447, R460). -/
namespace Sys2Proof.Machine

/-- Eight steps of a reflected CRC-32. -/
def crc32Bits : Nat → Nat → Nat
  | 0, c => c
  | n + 1, c => crc32Bits n (if c % 2 = 1 then (c / 2) ^^^ 0xEDB88320 else c / 2)

/-- CRC-32, IEEE 802.3 polynomial (R61). -/
def crc32 (bs : List Byte) : Nat :=
  (bs.foldl (fun c b => crc32Bits 8 (c ^^^ b.toNat)) 0xFFFFFFFF) ^^^ 0xFFFFFFFF

/-- Eight steps of CRC-16 with polynomial 0x1021, most significant bit first. -/
def crc16Bits : Nat → Nat → Nat
  | 0, c => c
  | n + 1, c => crc16Bits n (if c ≥ 2 ^ 15 then (c * 2 % 2 ^ 16) ^^^ 0x1021 else c * 2)

/-- CRC-16, polynomial 0x1021, start 0xFFFF. -/
def crc16 (bs : List Byte) : Nat :=
  bs.foldl (fun c b => crc16Bits 8 (c ^^^ (b.toNat * 256))) 0xFFFF

/-- The largest `r` below 2 ^ `n` above `r₀` whose power `e` does not pass `x`, bit by bit from the top. -/
def intRoot (e x : Nat) : Nat → Nat → Nat
  | 0, r => r
  | n + 1, r => intRoot e x n (if (r + 2 ^ n) ^ e ≤ x then r + 2 ^ n else r)

/-- The first 32 bits of the fraction of the `e`-th root of `p`. -/
def rootFraction (e p : Nat) : Nat := intRoot e (p * 2 ^ (32 * e)) 40 0 % 2 ^ 32

/-- The first 64 primes: 311 is the last of them, and no divisor above 17 is needed below 324. -/
def shaPrimes : List Nat :=
  let small : List Nat := [2, 3, 5, 7, 11, 13, 17]
  small ++ ((List.range 312).drop 18).filter (fun p => small.all (fun q => p % q != 0))

/-- The constant of each SHA-256 round: the fraction of the cube root of its prime. -/
def shaK : List Nat := shaPrimes.map (rootFraction 3)

def rotr (x k : Nat) : Nat := (x / 2 ^ k + x * 2 ^ (32 - k)) % 2 ^ 32

/-- The eight working words of SHA-256. -/
structure ShaSt where
  a : Nat
  b : Nat
  c : Nat
  d : Nat
  e : Nat
  f : Nat
  g : Nat
  h : Nat
  deriving DecidableEq, Repr

def shaRound (t : ShaSt) (k w : Nat) : ShaSt :=
  let s1 := rotr t.e 6 ^^^ rotr t.e 11 ^^^ rotr t.e 25
  let ch := (t.e &&& t.f) ^^^ ((2 ^ 32 - 1 - t.e) &&& t.g)
  let t1 := t.h + s1 + ch + k + w
  let s0 := rotr t.a 2 ^^^ rotr t.a 13 ^^^ rotr t.a 22
  let mj := (t.a &&& t.b) ^^^ (t.a &&& t.c) ^^^ (t.b &&& t.c)
  ⟨(t1 + s0 + mj) % 2 ^ 32, t.a, t.b, t.c, (t.d + t1) % 2 ^ 32, t.e, t.f, t.g⟩

/-- The rounds of one block: `win` holds the next 16 message words. -/
def shaRounds : List Nat → List Nat → ShaSt → ShaSt
  | [], _, t => t
  | k :: ks, win, t =>
    match win with
    | [] => t
    | w :: rest =>
      let w1 := rest.getD 0 0
      let w9 := rest.getD 8 0
      let w14 := rest.getD 13 0
      let s0 := rotr w1 7 ^^^ rotr w1 18 ^^^ (w1 / 8)
      let s1 := rotr w14 17 ^^^ rotr w14 19 ^^^ (w14 / 1024)
      shaRounds ks (rest ++ [(w + s0 + w9 + s1) % 2 ^ 32]) (shaRound t k w)

def be32 (bs : List Byte) : Nat := bs.foldl (fun n b => n * 256 + b.toNat) 0

def shaBlock (h : ShaSt) (blk : List Byte) : ShaSt :=
  let ws := (List.range 16).map (fun i => be32 ((blk.drop (4 * i)).take 4))
  let t := shaRounds shaK ws h
  ⟨(h.a + t.a) % 2 ^ 32, (h.b + t.b) % 2 ^ 32, (h.c + t.c) % 2 ^ 32, (h.d + t.d) % 2 ^ 32,
   (h.e + t.e) % 2 ^ 32, (h.f + t.f) % 2 ^ 32, (h.g + t.g) % 2 ^ 32, (h.h + t.h) % 2 ^ 32⟩

def shaBlocks : Nat → List Byte → ShaSt → ShaSt
  | 0, _, h => h
  | n + 1, bs, h => shaBlocks n (bs.drop 64) (shaBlock h (bs.take 64))

/-- The words SHA-256 starts from: the fractions of the square roots of the first eight primes. -/
def shaStart : ShaSt :=
  let root (i : Nat) : Nat := rootFraction 2 (shaPrimes.getD i 0)
  ⟨root 0, root 1, root 2, root 3, root 4, root 5, root 6, root 7⟩

/-- `n` bytes, most significant first. -/
def bytesBE (n v : Nat) : List Byte := (bytesLE n v).reverse

/-- SHA-256 of a byte string: 32 bytes. -/
def sha256 (msg : List Byte) : List Byte :=
  let n := msg.length
  let z := (119 - n % 64) % 64
  let padded := msg ++ [0x80] ++ List.replicate z 0 ++ bytesBE 8 (8 * n)
  let h := shaBlocks (padded.length / 64) padded shaStart
  bytesBE 4 h.a ++ bytesBE 4 h.b ++ bytesBE 4 h.c ++ bytesBE 4 h.d ++
  bytesBE 4 h.e ++ bytesBE 4 h.f ++ bytesBE 4 h.g ++ bytesBE 4 h.h

end Sys2Proof.Machine
end

