-- ==== Sys2Proof/Machine/FieldDie.lean ====
section
/-! DEFINITION. The field die: what it reads (R359, R381, R390, R397), the frames the control plane fills (R80), and what it
decides for every pin, current-loop output and fan from the rows of R367, R385 and R400. -/
namespace Sys2Proof.Machine

/-! ### Status words that follow the machine -/

def silenceState (s : State) : Nat := s.ob Ob.silenceSilenceState

/-- The group of a pin (R356). -/
def pinGroup (i : Nat) : Nat := i / 8

def groupBit (s : State) (g b : Nat) : Bool := s.stBit (Ob.groupGroupStatus g) b

/-- Bytes of the local copy (R372): Direction, PowerUpValue and SafeState of each pin. -/
def copyByte (s : State) (i k : Nat) : Nat := ((s.safeCopy[3 * i + k]?).getD 0).toNat

/-- The drive SafeState asks of a pin (R357): off, on, or what was held. -/
def safeDrive (safe : Nat) (held : Bool) : Bool := if safe = 2 then held else safe == 1

/-- The row of R367 that decides a pin, and its drive. -/
def pinDecide (s : State) (i : Fin 32) : Nat × Bool :=
  let p := s.pins[i]
  let g := pinGroup i.val
  if p.dir ≠ 2 then (0, false)
  else if groupBit s g 3 || groupBit s g 1 then (1, false)
  else if silenceState s = 2 then (2, false)
  else if s.stBit (Ob.pinPinStatus i) 5 then (3, false)
  else if silenceState s = 1 then (4, safeDrive (copyByte s i 2) p.preSilence)
  else (5, (s.link.rx.io[i.val]?).getD false)

/-- Row 5 of R367: the value of the latest valid frame. -/
def pinAsked (s : State) (i : Nat) : Bool := (s.link.rx.io[i]?).getD false

/-- PinStatus as a read shows it (R358): bits 3, 5, 6 and 7 are kept, the others follow. -/
def pinStatus (s : State) (i : Fin 32) : Nat :=
  let p := s.pins[i]
  let g := pinGroup i.val
  let st := s.ob (Ob.pinPinStatus i)
  let d := pinDecide s i
  let ask := if silenceState s = 1 then safeDrive (copyByte s i 2) p.preSilence else pinAsked s i
  let st := setBit st 0 (if p.dir = 2 then p.drive else p.level)
  let st := setBit st 1 (p.dir == 2 && pinAsked s i)
  let st := setBit st 2 (groupBit s g 2 || bit st 3 || p.dir != 1)
  let st := setBit st 4 (groupBit s g 3 || groupBit s g 1)
  let st := setBit st 8 (d.1 == 2 || d.1 == 4)
  setBit st 9 (ask && (d.1 == 1 || d.1 == 2 || d.1 == 3))

/-- Whether the mains phase is not there to time windows (R378). -/
def mpGone (s : State) : Bool := !s.flag Ob.mpEnable || s.stBit Ob.mpStatus 2

/-- Whether a window of a mode starts at mains phase 0: there is a phase, and a measured frequency (R378). -/
def winPhased (s : State) (mode : Nat) : Bool := mode == 3 && !mpGone s && s.mp.period != 0

/-- InputStatus as a read shows it (R379): the first valid reading comes with the first complete window (R442). -/
def aiStatus (s : State) (a : Nat) : Nat :=
  let st := s.ob (Ob.aiInputStatus a)
  let on := s.flag (Ob.aiEnable a)
  let st := setBit st 6 (on && s.ob (Ob.aiIntegrationMode a) == 3 && !winPhased s 3)
  setBit st 0 (on && s.ai[Fin.ofNat 16 a].win.seen && bits st 4 1 == 0)

/-- RtdStatus as a read shows it (R390), with the first valid reading as R442 has it. -/
def rtStatus (s : State) (t : Nat) : Nat :=
  let st := s.ob (Ob.rtRtdStatus t)
  let on := s.flag (Ob.rtEnable t)
  let st := setBit st 5 (on && s.ob (Ob.rtIntegrationMode t) == 3 && !winPhased s 3)
  setBit st 0 (on && s.rt[Fin.ofNat 8 t].win.seen && bits st 4 1 == 0)

/-- OutputStatus as a read shows it (R383). -/
def aoStatus (s : State) (o : Nat) : Nat := setBit (s.ob (Ob.aoOutputStatus o)) 0 (s.flag (Ob.aoEnable o))

/-- FanStatus as a read shows it (R396). -/
def fanStatus (s : State) (f : Nat) : Nat := s.ob (Ob.fanFanStatus f)

/-! ### Mains phase position -/

/-- Position of the mains phase at the present instant (R93, R95): it advances while tracking and stands in LOST. -/
def mpPos (s : State) : Nat :=
  if mpGone s || s.mp.period = 0 then s.mp.refPos
  else (s.mp.refPos + (s.osc - s.mp.refAt) * 1024 / s.mp.period) % 2 ^ 48

/-! ### What a channel of a field source reads -/

/-- Raw F32 word and status bits of a field input binding (R359, R381, R384, R390, R397, R92). -/
def fieldSource (s : State) (b : Nat) : Option (Nat × Nat) :=
  let i := bindInst b
  let p := bindPoint b
  match bindClass b with
  | 0x01 =>
    if i < 32 then
      let st := pinStatus s (Fin.ofNat 32 i)
      let cs := ofBool (!bit st 2) + 4 * ofBool (bit st 3)
      if p = 0 then some (if s.pins[Fin.ofNat 32 i].level then 0x3F800000 else 0, cs)
      else if p = 1 then some (s.ob (Ob.pinPulseRate i), cs)
      else if p = 2 then some (s.ob (Ob.pinOutputCurrent i), cs)
      else none
    else none
  | 0x02 =>
    if i < 16 then
      let st := aiStatus s i
      let cs := ofBool (bit st 0) + 2 * ofBool (bit st 2 || bit st 3 || bit st 4) + 4 * ofBool (bit st 1)
      if p = 0 then some (s.ob (Ob.aiReading i), cs)
      else if p = 1 then some (s.ob (Ob.aiTxSupplyCurrent i), cs)
      else none
    else none
  | 0x03 =>
    if i < 8 then
      let st := aoStatus s i
      let open_ := bit st 5
      if p = 1 then some (s.ob (Ob.aoDelivered i), ofBool (bit st 0) + 6 * ofBool open_)
      else if p = 2 then some (s.ob (Ob.aoHeadroom i), ofBool (bit st 0))
      else none
    else none
  | 0x04 =>
    if i < 8 then
      let st := rtStatus s i
      let cs := ofBool (bit st 0) + 2 * ofBool (bits st 4 1 != 0) + 4 * ofBool (bit st 2)
      if p = 0 then some (s.ob (Ob.rtTemperature i), cs)
      else if p = 1 then some (s.ob (Ob.rtResistance i), cs)
      else none
    else none
  | 0x05 =>
    if i < 8 then
      let st := fanStatus s i
      let cs := ofBool (bit st 0 && !bit st 5) + 2 * ofBool (bit st 3 || bit st 5)
      if p = 1 then some (s.ob (Ob.fanSpeed i), cs)
      else if p = 2 then some (s.ob (Ob.fanFanCurrent i), cs)
      else if p = 3 then some (s.ob (Ob.fanAppliedVoltage i), cs)
      else none
    else none
  | 0x07 =>
    if i < 8 then
      let cs := ofBool (bit (gcStatus s i) 0)
      if p = 0 then some (s.ob (Ob.gcVolumeRate i), cs)
      else if p = 1 then some (s.ob (Ob.gcRate i), cs)
      else none
    else none
  | _ => none

/-- NOTACH of an output instance (R257). -/
def notachOf (s : State) (b : Nat) : Bool :=
  let i := bindInst b
  match bindClass b with
  | 0x01 => i < 32 && bit (pinStatus s (Fin.ofNat 32 i)) 9
  | 0x03 => i < 8 && bit (aoStatus s i) 1
  | 0x05 => i < 8 && bit (fanStatus s i) 2
  | _ => false

/-! ### The frames the control plane fills (R80) -/

/-- The value PREOP or SAFE asks of each output instance. -/
def holdFrame (s : State) (safe : Bool) : Frame :=
  { io := (List.finRange 32).map (fun (i : Fin 32) =>
      if safe then safeDrive (s.ob (Ob.pinSafeState i)) s.pins[i].safeHold
      else s.ob (Ob.pinPowerUpValue i) == 1)
    ao := (List.finRange 8).map (fun (o : Fin 8) =>
      if safe then (if s.ob (Ob.aoSafeMode o) = 1 then s.ao[o].safeHold else s.ob (Ob.aoSafeValue o))
      else s.ob (Ob.aoPowerUpValue o))
    fn := (List.finRange 8).map (fun (f : Fin 8) =>
      if safe then (if s.ob (Ob.fanSafeMode f) = 1 then s.fans[f].safeHold else s.ob (Ob.fanSafeValue f))
      else s.ob (Ob.fanPowerUpValue f)) }

/-- The commanded value of one field output channel in a frame (R359, R384, R397). -/
def frameWith (s : State) (fr : Frame) (n : Nat) : Frame :=
  let b := chanBind s n
  let i := bindInst b
  if bindPoint b ≠ 0 then fr else
  match bindClass b with
  | 0x01 => { fr with io := fr.io.set i (FX.ge (rawOf s n) (FX.ratio 1 2)) }
  | 0x03 => { fr with ao := fr.ao.set i (rawOf s n).toBits32 }
  | 0x05 => { fr with fn := fr.fn.set i (rawOf s n).toBits32 }
  | _ => fr

/-- The frame of a tick (R24, R80): PowerUpValue in PREOP, the safe state in SAFE, the channels' commanded values in OPERATE.
An output no channel is bound to keeps what it was last sent. -/
def fillFrame (s : State) : Frame :=
  if s.inOperate then (chansOfType s 2).foldl (frameWith s) s.link.sent
  else holdFrame s s.inSafe

/-- Sets the Value of each field output channel to what its instance is asked, or applied (R80, R78). -/
def chansFromFrame (s : State) (fr : Frame) : State :=
  (chansOfType s 2).foldl (fun s n =>
    let b := chanBind s n
    let i := bindInst b
    let raw : Option Nat :=
      if bindPoint b ≠ 0 then none else
      match bindClass b with
      | 0x01 => (fr.io[i]?).map (fun v => if v then 0x3F800000 else 0)
      | 0x03 => fr.ao[i]?
      | 0x05 => fr.fn[i]?
      | _ => none
    match raw with
    | none => s
    | some r => writeChan s n (scaled s n (FX.ofBits32 r)) (setBit (s.ob (Ob.chanStatus n)) 0 true) s.wc) s

/-- The value applied to a fan channel, as a raw value of the channel (R397), by the row of R400 that decided: 0 where it drives 0 V, SafeValue
or the held value in silence, the voltage of a cabinet cooling fan, and the value it works from otherwise. No speed stands for the
voltage of row 3: in ControlMode 2 the frame's value is kept (DESIGN CHOICE, log entry 93). -/
def fanStands (s : State) (f : Fin 8) : Nat :=
  let x := s.fans[f]
  if x.row = 1 ∨ x.row = 2 ∨ x.row = 5 then 0
  else if x.row = 6 then (if s.ob (Ob.fanSafeMode f) = 1 then x.preSilence else s.ob (Ob.fanSafeValue f))
  else if x.row = 3 ∧ s.ob (Ob.fanControlMode f) ≠ 2 then x.applied
  else x.value

/-- What is applied to every output now, as a frame of raw values (R78, R444): drives, currents, and fan values. -/
def appliedFrame (s : State) : Frame :=
  { io := s.pins.toList.map (fun p => p.drive)
    ao := s.ao.toList.map (fun a => a.applied)
    fn := (List.finRange 8).map (fun f => fanStands s f) }

/-! ### What the field die applies -/

/-- The limits of a range, as F32 currents (R9, R385). -/
def ampLimits (range : Nat) : FX × FX :=
  match range with
  | 0 => (FX.to32 (FX.ratio 36 10000), FX.to32 (FX.ratio 21 1000))
  | 1 => (FX.zero, FX.to32 (FX.ratio 21 1000))
  | _ => (FX.zero, FX.to32 (FX.ratio 24 1000))

/-- The row of R385 that decides a current-loop output, and the current aimed for before clipping. -/
def aoDecide (s : State) (o : Fin 8) : Nat × Nat :=
  let a := s.ao[o]
  if !s.flag (Ob.aoEnable o) || s.phase != .run then (1, 0)
  else if s.stBit (Ob.aoOutputStatus o) 6 then (2, 0)
  else if silenceState s = 2 then (3, 0)
  else if silenceState s = 1 then
    (4, if s.ob (Ob.aoSafeMode o) = 1 then a.preSilence else s.ob (Ob.aoSafeValue o))
  else if s.stBit (Ob.aoOutputStatus o) 7 then
    (5, if s.ob (Ob.aoTrimStatus o) ≥ 3 then 0x3CA3D70A else 0x3B83126F)
  else (6, (s.link.rx.ao[o.val]?).getD 0)

/-- Applies the decision of R385 to one output: clipping, the clip bits, and the nominal current through the trim. -/
def aoApply (s : State) (o : Fin 8) : State :=
  let d := aoDecide s o
  let lim := ampLimits (s.ob (Ob.aoRange o))
  let i := FX.ofBits32 d.2
  let off := d.1 < 4
  let c := if off then FX.zero else FX.clamp i lim.1 lim.2
  let nom := if off then FX.zero
    else if d.1 = 5 then c
    else FX.div (FX.sub c (s.f (Ob.aoTrimOffset o))) (s.f (Ob.aoTrimGain o))
  let st := s.ob (Ob.aoOutputStatus o)
  let st := setBit (setBit st 2 (!off && FX.gt i lim.2)) 3 (!off && FX.lt i lim.1)
  let a := s.ao[o]
  { ((s.put (Ob.aoOutputStatus o) st).put (Ob.aoCommanded o) c.toBits32) with
    ao := s.ao.set o { a with applied := c.toBits32, nominal := nom.toBits32, row := d.1 } }

/-- Applies the decision of R367 to one pin. -/
def pinApply (s : State) (i : Fin 32) : State :=
  let d := (pinDecide s i).2
  let p := s.pins[i]
  { s with pins := s.pins.set i { p with drive := d, onSince := if d then some (p.onSince.getD s.osc) else none } }

/-- The converter input of the fans (R394): the selected supply's measured voltage. -/
def converterInput (s : State) : FX :=
  if s.ob Ob.supplySource = 1 then s.f Ob.supplyVbVoltage else s.f Ob.supplyVmVoltage

/-- MaxVoltage limited to the converter input less 1.0 V (R394). -/
def fanTop (s : State) (f : Nat) : FX :=
  FX.fmin (s.f (Ob.fanMaxVoltage f)) (FX.to32 (FX.sub (converterInput s) FX.one))

def isOn (w : Nat) : Bool := FX.ge (FX.ofBits32 w) (FX.ratio 1 2)

def fanBit (s : State) (f b : Nat) : Bool := s.stBit (Ob.fanFanStatus f) b

/-- The voltage a commanded value asks for (R399). -/
def fanValueVolts (s : State) (f : Fin 8) (w : Nat) : FX :=
  if !isOn w then FX.zero
  else if s.ob (Ob.fanControlMode f) = 2 then
    (if s.fans[f].regOn then FX.ofBits32 s.fans[f].u else s.f (Ob.fanMinVoltage f))
  else FX.clamp (FX.ofBits32 w) (s.f (Ob.fanMinVoltage f)) (s.f (Ob.fanMaxVoltage f))

/-- The row of R400 that decides a fan channel, and its voltage before the limit of R394. Row 9 is the judgement of R404,
row 0 the wait between kicks of R401. -/
def fanDecide (s : State) (f : Fin 8) : Nat × FX :=
  let a := s.fans[f]
  if !s.flag (Ob.fanEnable f) || s.phase != .run then (1, FX.zero)
  else if fanBit s f 3 || fanBit s f 4 then (2, FX.zero)
  else if s.ob (Ob.fanRole f) = 1 && (s.ob Ob.thermThermalState ≥ 1 || silenceState s ≥ 1) then (3, s.f (Ob.fanMaxVoltage f))
  else if fanBit s f 9 then (4, s.f (Ob.fanMaxVoltage f))
  else if fanBit s f 8 then (9, s.f (Ob.fanLearnedVoltage f))
  else if silenceState s = 2 then (5, FX.zero)
  else if silenceState s = 1 then
    (6, fanValueVolts s f (if s.ob (Ob.fanSafeMode f) = 1 then a.preSilence else s.ob (Ob.fanSafeValue f)))
  else if fanBit s f 5 && isOn a.value then (7, s.f (Ob.fanLearnedVoltage f))
  else match a.start with
    | .wait _ => (0, FX.zero)
    | _ => (8, fanValueVolts s f a.value)

/-- Applies the decision of R400 to one fan: a voltage of 0 or of 3.0 V and above, within the headroom of R394. -/
def fanApply (s : State) (f : Fin 8) : State :=
  let d := fanDecide s f
  let v := FX.fmin d.2 (FX.to32 (FX.sub (converterInput s) FX.one))
  let v := if FX.lt v (FX.ofNat 3) then FX.zero else v
  let st := s.ob (Ob.fanFanStatus f)
  let st := setBit (setBit st 0 (!v.isZero)) 7 (d.1 == 3)
  { ((s.put (Ob.fanFanStatus f) st).put (Ob.fanAppliedVoltage f) v.toBits32) with
    fans := s.fans.set f { s.fans[f] with applied := v.toBits32, row := d.1 } }

/-- Every output decided afresh. -/
def fieldDecide (s : State) : State :=
  let s := (List.finRange 32).foldl pinApply s
  let s := (List.finRange 8).foldl aoApply s
  (List.finRange 8).foldl fanApply s

/-- What each output holds, kept as its hold value at entry to SAFE (R80, R367, R385, R400). -/
def captureHold (s : State) : State :=
  { s with
    pins := s.pins.map (fun p => { p with safeHold := p.drive })
    ao := s.ao.map (fun a => { a with safeHold := a.applied })
    fans := Vector.ofFn (fun f => { s.fans[f] with safeHold := fanStands s f }) }

/-- What each output held at the tick before silence (R367, R385, R400). -/
def capturePre (s : State) : State :=
  { s with
    pins := s.pins.map (fun p => { p with preSilence := p.drive })
    ao := s.ao.map (fun a => { a with preSilence := a.applied })
    fans := Vector.ofFn (fun f => { s.fans[f] with preSilence := fanStands s f }) }

/-! ### The local copy of the safe settings (R372) -/

def safeBytes (s : State) : List Byte :=
  (List.range 32).flatMap (fun i =>
    [BitVec.ofNat 8 (s.ob (Ob.pinDirection i)), BitVec.ofNat 8 (s.ob (Ob.pinPowerUpValue i)),
     BitVec.ofNat 8 (s.ob (Ob.pinSafeState i))])

/-- The control plane writes the copy anew. -/
def writeSafeCopy (s : State) : State :=
  { s with safeCopy := safeBytes s, safeCrc := crc16 (safeBytes s) }

end Sys2Proof.Machine
end

