-- ==== Sys2Proof/Machine/Journal.lean ====
section
/-! DEFINITION. The journal's records and the staging area (R458–R462): a record is formed, waits, is chained, and is written
to NAND in pages. -/
namespace Sys2Proof.Machine

/-- The type code of a type (R332). -/
def tyCode : Ty → Nat
  | .bool => 0 | .u8 => 1 | .i8 => 2 | .u16 => 3 | .i16 => 4 | .u32 => 5 | .i32 => 6 | .u64 => 7 | .i64 => 8
  | .f32 => 9 | .bf24 => 10 | .str => 11 | .domain => 12

/-- Bytes of a fixed-size type on the interface (R47); 0 for STR and DOMAIN. -/
def tySize : Ty → Nat
  | .bool => 1 | .u8 => 1 | .i8 => 1 | .u16 => 2 | .i16 => 2 | .u32 => 4 | .i32 => 4 | .u64 => 8 | .i64 => 8
  | .f32 => 4 | .bf24 => 4 | .str => 0 | .domain => 0

/-- The value of an object as carried on the interface; Time reads WC (R101). -/
def carried (s : State) (idx sub : Nat) (ty : Ty) : List Byte :=
  match ty with
  | .str => let b := s.bytesOf (key idx sub); bytesLE 2 b.length ++ b
  | .domain => s.bytesOf (key idx sub)
  | t => bytesLE (tySize t) (if key idx sub = Ob.wcTime then s.wc else s.ob (key idx sub))

/-- A value in 24 B, or the first 24 B of its SHA-256 (R459). -/
def fit24 (v : List Byte) : List Byte × Bool :=
  if v.length ≤ 24 then (slice v 0 24, false) else ((sha256 v).take 24, true)

/-- The code of an interface (R57). -/
def ifaceCode : Iface → Nat
  | .fw => 0
  | .mb n => 0x10 + n.val
  | .eth n => 0x20 + n.val

/-- The origin of a sender's access. -/
def originOf (x : Sender) : Origin := ⟨ifaceCode x.iface, x.src.toNat, x.port.toNat⟩

/-- Module firmware as the origin of a write. -/
def fwOrigin : Origin := ⟨0, 0, 0⟩

/-- Records in the 128 B area, as StagedRecords counts them (R461). -/
def stagedRecords (s : State) : Nat :=
  (s.staging.staged.filter (fun r => !r.event)).length + (s.staging.chained.filter (fun c => c.place)).length

/-- Places of the 128 B area that are taken (R461): those in use, and the one kept for a StateCommand 2 that its check has still to
answer, whose record is formed with the answer (R77). -/
def placesUsed (s : State) : Nat := stagedRecords s + ofBool (s.check.any (fun c => c.asker.isSome))

/-- StagedRecords and STAGINGFULL as a read shows them (R465): full when a write from outside would find no place. -/
def stagingFull (s : State) : Bool := decide (704 ≤ placesUsed s)

/-- A record of a write (KIND 1 or 2). -/
def writeRec (s : State) (o : Origin) (kind type idx sub code : Nat) (old new : List Byte) : JRec :=
  let a := fit24 old
  let b := fit24 new
  { event := false, time := s.wc, kind, iface := o.iface, type, flags := ofBool a.2 + 2 * ofBool b.2, source := o.src,
    port := o.port, index := idx, sub, code, newLen := new.length, oldV := a.1, newV := b.1, oldLen := old.length }

/-- A record of a module action, a boot or a loss (KIND 4, 5, 6). -/
def actionRec (s : State) (kind idx sub code : Nat) (old new : List Byte) : JRec :=
  { event := false, time := s.wc, kind, iface := 0, type := 0, flags := 0, source := 0, port := 0, index := idx, sub, code,
    newLen := new.length, oldV := slice old 0 24, newV := slice new 0 24, oldLen := old.length }

def stage (s : State) (r : JRec) : State := { s with staging := { s.staging with staged := s.staging.staged ++ [r] } }

/-- A module action is journaled, or counted where no place is free at all (R461). -/
def journalAction (s : State) (idx sub code : Nat) (old new : List Byte) : State :=
  let g := s.staging
  if placesUsed s < 768 then stage s (actionRec s 4 idx sub code old new)
  else { s with staging := { g with
    lostActions := g.lostActions + 1, lossAhead := if g.lostActions = 0 then g.staged.length else g.lossAhead } }

/-- The 16 bytes of an event record (R116). -/
def evBytes (e : EvRec) : List Byte :=
  bytesLE 8 e.time ++ bytesLE 1 e.source ++ bytesLE 1 (ofBool e.trip + 2 * ofBool e.ovrsat) ++ bytesLE 2 e.ovr ++
  bytesLE 4 e.payload

/-- The record of an event routed to the journal (KIND 3). -/
def eventRec (e : EvRec) : JRec :=
  { event := true, time := e.time, kind := 3, iface := 0, type := 0, flags := 0, source := 0, port := 0, index := 0, sub := 0,
    code := e.source, newLen := 16, oldV := slice [] 0 24, newV := slice (evBytes e) 0 24, oldLen := 0 }

/-- Bytes 0–95 of a record (R459). -/
def recBytes (seq : Nat) (r : JRec) : List Byte :=
  bytesLE 8 seq ++ bytesLE 8 r.time ++ bytesLE 1 r.kind ++ bytesLE 1 r.iface ++ bytesLE 1 r.type ++ bytesLE 1 r.flags ++
  bytesLE 4 r.source ++ bytesLE 2 r.port ++ bytesLE 2 r.index ++ bytesLE 1 r.sub ++ bytesLE 3 0 ++ bytesLE 4 r.code ++
  bytesLE 4 r.newLen ++ slice r.oldV 0 24 ++ slice r.newV 0 24 ++ bytesLE 4 r.oldLen ++ bytesLE 4 0

/-- One record chained (R460): HASH is the SHA-256 over the previous HASH and bytes 0–95. -/
def chainRec (s : State) (r : JRec) : State :=
  let g := s.staging
  let body := recBytes g.nextSeq r
  let h := sha256 (slice g.head 0 32 ++ body)
  { s with staging := { g with chained := g.chained ++ [⟨g.nextSeq, body ++ h, !r.event, s.osc⟩],
                               nextSeq := g.nextSeq + 1, head := h } }

end Sys2Proof.Machine
end

