-- ==== Sys2Proof/Machine/Net.lean ====
section
/-! DEFINITION. Handing outgoing Worust messages to the bus queues and to UDP (R331–R335, R340, R341). -/
namespace Sys2Proof.Machine

def nodeId (s : State) : Nat := s.ob Ob.worustNodeId

/-- The identifier of a Worust frame (R331). -/
def worustId (prio kind dest src tid : Nat) : Nat :=
  prio % 8 * 2 ^ 26 + kind % 16 * 2 ^ 22 + dest % 128 * 2 ^ 15 + src % 128 * 2 ^ 8 + tid % 256

/-- Byte counts an FD frame can carry (R308), as (bytes, DLC). -/
def fdSizes : List (Nat × Nat) :=
  [(0, 0), (1, 1), (2, 2), (3, 3), (4, 4), (5, 5), (6, 6), (7, 7), (8, 8), (12, 9), (16, 10), (20, 11), (24, 12), (32, 13),
   (48, 14), (64, 15)]

/-- The byte count of a DLC (R308). -/
def dlcBytes (fdf : Bool) (dlc : Nat) : Nat :=
  if dlc ≤ 8 then dlc
  else if !fdf then 8
  else ((fdSizes.find? (fun p => p.2 == dlc)).map (fun p => p.1)).getD 64

/-- One frame of a Worust message: extended, padded with zero bytes to its DLC. -/
def worustFrame (fd : Bool) (id : Nat) (data : List Byte) : CanFrame :=
  let p := (fdSizes.find? (fun p => data.length ≤ p.1)).getD (64, 15)
  { ide := true, rtr := false, fdf := fd, brs := fd, esi := false, id,
    dlc := if fd then p.2 else data.length, data := if fd then slice data 0 p.1 else data }

/-- The frames of a message: one, or a first frame and its CONT on classical frames (R333). -/
def msgFrames (src : Nat) (m : WMsg) : List CanFrame :=
  let id := worustId m.prio m.kind m.dest src m.tid
  if m.fd || m.payload.length ≤ 8 then [worustFrame m.fd id m.payload]
  else [worustFrame false id (m.payload.take 8),
        worustFrame false (worustId m.prio 4 m.dest src m.tid) ((m.payload.drop 8).take 8)]

def setBus (s : State) (n : Fin 4) (b : BusSt) : State := { s with bus := s.bus.set n b }

/-- A transmit buffer's status (R311). -/
def bufStatus (s : State) (n : Nat) (b : Nat) : Nat := s.ob (Ob.busTxBufferStatus n b)

/-- Whether the controller owns a buffer (R309). -/
def bufOwned (s : State) (n : Nat) (b : Nat) : Bool := [1, 2, 6].contains (bufStatus s n b)

/-- Loads a message's frames into a buffer (R309, R333). -/
def loadBuf (s : State) (n : Fin 4) (b : Fin 3) (frames : List CanFrame) (who : Origin) (use seq : Nat) : State :=
  let s := s.put (Ob.busTxBufferStatus n b) 1
  setBus s n { s.bus[n] with bufs := s.bus[n].bufs.set b ⟨frames, who, 0, false, use, seq, false⟩ }

/-- The message of lowest identifier, the earliest among equals, and the others (R335). -/
def takeLowest (src : Nat) : List WMsg → Option (WMsg × List WMsg)
  | [] => none
  | m :: rest =>
    match takeLowest src rest with
    | none => some (m, [])
    | some (x, others) =>
      if worustId m.prio m.kind m.dest src m.tid ≤ worustId x.prio x.kind x.dest src x.tid then some (m, rest)
      else some (x, m :: others)

/-- Whether firmware loads buffers of a channel: not stopped, nor while the application cores restart or Winter entry drains
(R300, R301, R351). -/
def feeds (s : State) (n : Fin 4) : Bool :=
  s.bus[n].started && !s.bus[n].stopping && !s.appDown && s.winter.stage == 0

/-- The next frame of a message whose first one was sent is loaded into the same buffer (R333). -/
def loadRest (s : State) (n : Fin 4) (b : Fin 3) : State :=
  if bufOwned s n b || s.bus[n].bufs[b].frames.isEmpty then s else s.put (Ob.busTxBufferStatus n b) 1

/-- The messages that wait for a controller started without FD (R297) and were asked for as FD frames go in classical frames instead; one
that two classical frames cannot hold is discarded as by a full queue, and counted in RequestsDropped (R18, R335; log entry 91). -/
def dropFd (s : State) (n : Fin 4) : State :=
  if s.bus[n].fd then s
  else
    let b := s.bus[n]
    let fits (m : WMsg) : Bool := !m.fd || decide (m.payload.length ≤ 16)
    let s := (b.txq.filter (fun m => !fits m)).foldl (fun s _ => s.inc Ob.worustRequestsDropped) s
    let classic (m : WMsg) : WMsg := { m with fd := false }
    setBus s n { b with txq := (b.txq.filter fits).map classic, hot := b.hot.map classic }

/-- Firmware loads what waits into buffers 0 and 1 as they become free (R335): the rest of a message first. -/
def feedBus (s : State) (n : Fin 4) : State :=
  if !feeds s n then s else
  let s := dropFd s n
  let s := loadRest (loadRest s n 0) n 1
  let s :=
    match s.bus[n].hot, s.bus[n].hotUse with
    | m :: ms, u :: us =>
      if bufOwned s n 0 then s
      else setBus (loadBuf s n 0 (msgFrames (nodeId s) m) ⟨0, 0, 0⟩ u.1 u.2) n
        { (loadBuf s n 0 (msgFrames (nodeId s) m) ⟨0, 0, 0⟩ u.1 u.2).bus[n] with hot := ms, hotUse := us }
    | _, _ => s
  if bufOwned s n 1 then s
  else match takeLowest (nodeId s) s.bus[n].txq with
    | none => s
    | some (m, rest) => loadBuf (setBus s n { s.bus[n] with txq := rest }) n 1 (msgFrames (nodeId s) m) ⟨0, 0, 0⟩ 0 0

/-- A message for a channel's firmware queue of 64 (R335); true where it was taken. -/
def queueMsg (s : State) (n : Fin 4) (m : WMsg) : State × Bool :=
  let b := s.bus[n]
  if b.txq.length < 64 then (feedBus (setBus s n { b with txq := b.txq ++ [m] }) n, true) else (s, false)

/-- A message for buffer 0: 1 sync, 2 follow-up, 3 emergency. -/
def queueHot (s : State) (n : Fin 4) (m : WMsg) (use seq : Nat) : State :=
  let b := s.bus[n]
  feedBus (setBus s n { b with hot := b.hot ++ [m], hotUse := b.hotUse ++ [(use, seq)] }) n

/-- The datagram of a message (R340). -/
def datagram (kind tid : Nat) (payload : List Byte) : List Byte :=
  bytesLE 1 1 ++ bytesLE 1 (kind % 16) ++ bytesLE 2 tid ++ bytesLE 2 payload.length ++ bytesLE 2 0 ++ payload

/-- The module has an IP address in use (R350). -/
def ipUp (s : State) : Bool := s.stBit Ob.ipIpStatus 0

def linked (s : State) (e : Nat) : Bool := s.ob (Ob.ethLinkStatus e) != 0

/-- The linked ports. -/
def linkedPorts (s : State) : List Nat := (List.range 2).filter (linked s)

/-- A frame the host sends on every linked port. -/
def sendAll (s : State) : State := (linkedPorts s).foldl (fun s e => s.inc (Ob.ethTxFrames e)) s

/-- The port at which the switch last heard a MAC address within 300 s, while it is linked; else every linked port (R348). -/
def portsFor (s : State) (mac : Nat) : List Nat :=
  match s.net.macs.find? (fun m => m.1 == mac && decide (s.osc < m.2.2 + 300000000)) with
  | some m => if linked s m.2.1 then [m.2.1] else linkedPorts s
  | none => linkedPorts s

/-- A broadcast address: of every network, or of the module's own. -/
def isBroadcast (s : State) (addr : Nat) : Bool :=
  let m := s.ob Ob.ipMask
  addr == 2 ^ 32 - 1 || ((addr &&& m) == (s.ob Ob.ipAddress &&& m) && (addr ||| m) == 2 ^ 32 - 1 && m != 2 ^ 32 - 1)

/-- The host a datagram for an address is handed to (R349, R350; RFC 791): the address itself on the module's own network, under Mask, and
where it is a broadcast, else Gateway; none where there is no gateway. -/
def nextHop (s : State) (addr : Nat) : Option Nat :=
  let m := s.ob Ob.ipMask
  if isBroadcast s addr ∨ addr &&& m = s.ob Ob.ipAddress &&& m then some addr
  else if s.ob Ob.ipGateway = 0 then none else some (s.ob Ob.ipGateway)

/-- Whether the host can send to an address: it has one itself, and a next hop. -/
def canReach (s : State) (addr : Nat) : Bool := ipUp s && (nextHop s addr).isSome

/-- An address enters the ARP cache of 64 (R349), with its MAC address where that is known. -/
def arpHold (s : State) (addr : Nat) (mac : Option Nat) : State :=
  { s with net := { s.net with arp := ((addr, mac) :: s.net.arp.filter (fun a => a.1 != addr)).take 64 } }

/-- A datagram handed to the IP host: it leaves from UdpPort, to its next hop, while the host has an address (R340, R349). For a hop that the
ARP cache does not hold an ARP request goes out first, and is taken as answered (log entry 69); a broadcast needs none. -/
def sendUdp (s : State) (addr port : Nat) (bytes : List Byte) : State :=
  match (if ipUp s then nextHop s addr else none) with
  | none => s
  | some hop =>
    let s := if isBroadcast s hop || (assoc s.net.arp hop).isSome then s else arpHold (sendAll s) hop none
    let ports := match assoc s.net.arp hop with
      | some (some mac) => portsFor s mac
      | _ => linkedPorts s
    let s := ports.foldl (fun s e => s.inc (Ob.ethTxFrames e)) s
    { s with net := { s.net with ethOut := s.net.ethOut ++ [⟨s.ob Ob.worustUdpPort, addr, port, bytes⟩] } }

/-- Whether the frames the module starts of its own accord on a channel are FD frames. -/
def ownFd (s : State) (n : Fin 4) : Bool := s.bus[n].fd

/-- Whether a subscription takes a source (R341). -/
def subTakes (s : State) (u src : Nat) : Bool :=
  s.flag (Ob.subEnable u) && bit (s.ob (Ob.subSourceMask u (src / 32))) (src % 32)

/-- Sends one NOTIFY to one subscription; the subscriptions that had to drop it are gathered (R341). -/
def notifyOne (e : EvRec) (acc : State × List Nat) (u : Nat) : State × List Nat :=
  let s := acc.1
  if !subTakes s u e.source then acc else
  let i := s.ob (Ob.subInterface u)
  if i = 0x20 then
    (if canReach s (s.ob (Ob.subAddress u)) then (sendUdp s (s.ob (Ob.subAddress u)) (s.ob (Ob.subPort u)) (datagram 10 0 (evBytes e))).inc (Ob.subSent u)
     else s, acc.2)
  else
    let n : Fin 4 := Fin.ofNat 4 (i - 0x10)
    let r := queueMsg s n ⟨5, 10, s.ob (Ob.subNode u), 0, ownFd s n, evBytes e⟩
    if r.2 then (r.1.inc (Ob.subSent u), acc.2) else (r.1.inc (Ob.subDropped u), acc.2 ++ [u])

/-- Sends a NOTIFY to every subscription that takes the event. -/
def notifyAll (s : State) (e : EvRec) : State × List Nat := (List.range 16).foldl (notifyOne e) (s, [])

end Sys2Proof.Machine
end

