-- ==== Sys2Proof/Machine/Events.lean ====
section
/-! DEFINITION. Raising an event (R116–R121), and the changes of the operating state it can cause (R78–R81, R120): routing
with credits, the trace trigger (R266), the trip to SAFE. -/
namespace Sys2Proof.Machine

/-! ### Routing -/

def srcConfig (s : State) (src : Nat) : Nat :=
  if src < 128 then s.ob (Ob.srcCfgASourceConfig src) else s.ob (Ob.srcCfgBSourceConfig (src - 128))

def overrunKey (src : Nat) : Nat :=
  if src < 128 then Ob.overrunAOverrunCount src else Ob.overrunBOverrunCount (src - 128)

/-- Whether a source is listed in SafeTripEvent (R116). -/
def listedTrip (s : State) (src : Nat) : Bool :=
  (List.range 16).any (fun i => s.ob (Ob.safeTripSafeTripEvent i) == src)

def lostCount (s : State) (dest src : Nat) : Nat := (assoc s.router.lost (dest * 256 + src)).getD 0

def setLost (s : State) (dest src n : Nat) : State :=
  { s with router := { s.router with
      lost := if n = 0 then assocDrop s.router.lost (dest * 256 + src) else assocSet s.router.lost (dest * 256 + src) n } }

/-- The record of a raise for one destination, with the raises lost to it before (R118): the next record queued carries them, also where
one queued before them is still to be delivered, and OVRSAT is set from a count of 65,535 on, which OVR may have reached without
losing any (DESIGN CHOICE, log entry 96). -/
def mkRec (s : State) (dest time src payload : Nat) : EvRec :=
  let l := lostCount s dest src
  { time := time, source := src, trip := listedTrip s src, ovrsat := decide (65535 ≤ l), ovr := min l 65535,
    payload := payload % 2 ^ 32 }

/-- Credits of a source out at the cores (R117). -/
def coresOut (s : State) (src : Nat) : Nat := (s.router.cores.filter (fun e => e.source == src)).length
/-- Credits of a source out at the journal: its records not chained yet. -/
def journalOut (s : State) (src : Nat) : Nat := (s.staging.staged.filter (fun r => r.event && r.code == src)).length

/-- One destination of a raise: 0 cores, 1 notifications, 2 journal. Answers the state, whether the raise reached it, and the
subscriptions that dropped it. -/
def routeTo (s : State) (dest time src payload : Nat) : State × Bool × List Nat :=
  let c := srcConfig s src
  let e := mkRec s dest time src payload
  if dest = 0 then
    if coresOut s src < bits c 7 0 then
      ({ (setLost s 0 src 0) with router := { (setLost s 0 src 0).router with cores := s.router.cores ++ [e] } }, true, [])
    else (setLost s 0 src (lostCount s 0 src + 1), false, [])
  else if dest = 1 then
    if !s.appDown && 0 < bits c 15 8 then
      let r := notifyAll (setLost s 1 src 0) e
      (r.1, true, r.2)
    else (setLost s 1 src (lostCount s 1 src + 1), false, [])
  else
    if journalOut s src < bits c 23 16 then (stage (setLost s 2 src 0) (eventRec e), true, [])
    else (setLost s 2 src (lostCount s 2 src + 1), false, [])

/-- The routed destinations of a source (R123). -/
def destsOf (s : State) (src : Nat) : List Nat :=
  let c := srcConfig s src
  (if bit c 24 then [0] else []) ++ (if bit c 25 then [1] else []) ++ (if bit c 26 then [2] else [])

/-- Routes one raise, counting it and its overruns (R117, R118). Answers the subscriptions that dropped it. -/
def route (s : State) (time src payload : Nat) : State × List Nat :=
  let s := s.inc Ob.routerTotalRaised
  let r := (destsOf s src).foldl (fun (acc : State × Bool × List Nat) d =>
    let x := routeTo acc.1 d time src payload
    (x.1, acc.2.1 && x.2.1, acc.2.2 ++ x.2.2)) (s, true, [])
  (if r.2.1 then r.1 else (r.1.inc Ob.routerTotalOverruns).inc (overrunKey src), r.2.2)

/-- Whether a trace slot waits for a source as its trigger (R266). -/
def awaitsTrigger (s : State) (src : Nat) (t : Fin 8) : Bool :=
  s.ob (Ob.traceTriggerEvent t) == src && s.ob (Ob.traceState t) == 1

/-- A trace slot goes to State 2, or to 3 at once with no records to follow (R266). -/
def traceTrigger (s : State) (t : Fin 8) : State :=
  let post := s.ob (Ob.tracePostSamples t)
  let s := (s.put (Ob.traceTriggerTime t) s.wc).put (Ob.traceState t) (if post = 0 then 3 else 2)
  { s with traces := s.traces.set t { s.traces[t] with left := post } }

/-- An event joins what this instant raises. -/
def noteRaise (s : State) (src payload : Nat) : State :=
  { s with router := { s.router with raised := s.router.raised ++ [⟨s.wc, src, payload⟩] } }

/-! ### Operating state -/

/-- The first trip event since FirstTripEvent was last 0xFFFF is kept there (R74). -/
def noteTrip (s : State) (ev : Option Nat) : State :=
  match ev with
  | some e => if s.ob Ob.opFirstTripEvent = 0xFFFF then s.put Ob.opFirstTripEvent e else s
  | none => s

/-- Injection tests in State 1–3 (R261). -/
def runningTests (s : State) : List (Fin 32) :=
  (List.finRange 32).filter (fun (d : Fin 32) => decide (1 ≤ s.ob (Ob.injState d) ∧ s.ob (Ob.injState d) ≤ 3))

/-- A test ends early with its cause and event 12 (R261, R270); `rz` raises it. -/
def endTestBy (rz : State → Nat → Nat → State) (cause : Nat) (s : State) (d : Fin 32) : State :=
  let s := (s.put (Ob.injState d) 5).put (Ob.injEndCause d) cause
  rz s 12 (s.ob (Ob.injLoop d) % 512 + d.val * 2 ^ 16 + cause * 2 ^ 24)

/-- One step object goes to `v`; a change is journaled as a sequencing step (R273, R459). -/
def seqStep (s : State) (k v : Nat) : State :=
  if s.ob k = v then s
  else journalAction (s.put k v) (k / 256) (k % 256) 4 (bytesLE 1 (s.ob k)) (bytesLE 1 v)

/-- The sequencer's clock now: it follows WC but for the restarts of the application cores (R271, R275). -/
def seqNow (s : State) : Nat := s.seq.clock + (if s.appDown then 0 else s.wc - s.seq.lastWc)

/-- A dryer at rest in IDLE: one that was in another step enters it now. -/
def idleDryer (s : State) (d : Fin 4) : DryerSt :=
  { DryerSt.rest with stepAt := if s.ob (Ob.dryerStep d) = 0 then s.seq.dryers[d].stepAt else seqNow s }

/-- Sequencing stands down when the module leaves OPERATE (R275): chains STOPPED, conveyors off and without a fault, dryers IDLE,
aeration off. What a chain or a dryer recorded of its last fault stays (log entry 81). -/
def seqStandDown (s : State) : State :=
  let dryers := Vector.ofFn (idleDryer s)
  let s := (listed s 0x6320 32 0x0B (fun _ => true)).foldl (fun s c => seqStep s (Ob.convState c) 0) s
  let s := (listed s 0x6320 32 0x0C (fun _ => true)).foldl (fun s c => s.put (Ob.convFaultCause c) 0) s
  let s := (listed s 0x6340 8 0x24 (fun _ => true)).foldl (fun s c => seqStep s (Ob.chainState c) 0) s
  let s := (listed s 0x6310 4 0x1C (fun _ => true)).foldl (fun s d => seqStep s (Ob.dryerStep d) 0) s
  let s := (listed s 0x6380 64 0x11 (fun _ => true)).foldl (fun s b => seqStep s (Ob.aerState b) 0) s
  let s := (listed s 0x6310 4 0x1E (fun _ => true)).foldl (fun s d => s.put (Ob.dryerStatus d) 0) s
  let s := (listed s 0x6380 64 0x12 (fun _ => true)).foldl (fun s b => s.put (Ob.aerStatus b) 0) s
  { s with seq := { s.seq with
      first := true, reqs := [], busyTo := 0
      convs := Vector.replicate 32 ConvSt.rest
      chains := Vector.replicate 8 ChainSt.rest
      dryers
      aer := s.seq.aer.map (fun a => { a with
        cmd := 0, fan := false, fanAt := if a.fan then seqNow s else a.fanAt, seen := false, lowAt := none, metAt := none,
        failAt := none }) } }

/-- Leaving PREOP ends a trim (R389). -/
def leavePreop (s : State) : State :=
  if s.opState = 1 then
    (List.finRange 8).foldl (fun s (o : Fin 8) => (s.put (Ob.aoTrimStatus o) 0).putBit (Ob.aoOutputStatus o) 7 false) s
  else s

def setOpState (s : State) (code cause : Nat) : State :=
  ((s.put Ob.opOperatingState code).put Ob.opLastTransitionCause cause).put Ob.opStateEntryTime s.wc

/-- A loop's sample is gone without a commit (R215, R216): loads and restarts marked while it was in service stand as marked for the
next one. -/
def sampleGone (l : LoopSt) : LoopSt :=
  { l with
    coeffPend := l.coeffPend || l.coeffAgain, coeffAgain := false
    pendMask := l.pendMask ||| l.maskAgain, maskAgain := 0
    profRestart := l.profRestart || l.profAgain, profAgain := false }

/-- A loop takes a context, or gives its own back, with event 2 where NOTACHLIM clears (R207, R226). -/
def changeContext (rz : State → Nat → Nat → State) (s : State) (n : Nat) (takes : Bool) : State :=
  let acted := s.stBit (Ob.loopStatus n) 7
  let s := repin (if takes then takeContext s n else dropContext s n)
  if acted then rz s 2 n else s

/-- Every queued sample and every sample in service is gone; a loop that only waited for its sample gives its context back, or takes another
(R207, R209, R216), with event 6 where it is UNPINNED then (R37). -/
def abandonSamples (rz : State → Nat → Nat → State) (s : State) : State :=
  let left := s.loops.filter (fun l => l.leaving)
  let s := { s with service := [], queue := [], loops := s.loops.map sampleGone }
  left.foldl (fun s l =>
    let s := changeContext rz s l.loop l.again
    if l.again && unpinned s l.loop then rz s 6 l.loop else s) s

/-- Burst outputs are forced off as the state begins to suppress their actions (R115), each with event 239. Their values are R80's. -/
def burstsStopped (rz : State → Nat → Nat → State) (s : State) : State :=
  ((enabledEntries s).filter (fun e => s.ob (Ob.entryAction e) == 7 && (entryDyn s e).armed)).foldl
    (fun s e => rz (setEntry s e { entryDyn s e with forced := 4 }) 239 e) s

/-- What leaving OPERATE does whatever follows (R115, R216, R261, R275): burst outputs forced off, samples abandoned, tests ended,
sequencing stood down. The operating state is the one after it. -/
def leaveOperate (rz : State → Nat → Nat → State) (s : State) : State :=
  let s := abandonSamples rz (burstsStopped rz s)
  let s := (runningTests s).foldl (endTestBy rz 3) s
  seqStandDown s

/-- Entry to SAFE (R79, R80): outputs to their safe state, loops held. -/
def enterSafeBy (rz : State → Nat → Nat → State) (s : State) (cause bit_ : Nat) (trip : Option Nat) : State :=
  let was := decide (s.opState = 2)
  let s := setOpState (captureHold (leavePreop s)) 3 cause
  let s := noteTrip (s.putBit Ob.opSafeCause bit_ true) trip
  let s := if was then leaveOperate rz s else s
  chansFromFrame s (holdFrame s true)

/-- Entry to PREOP (R74, R80): outputs to their power-up values, loops stopped, SafeCause and FirstTripEvent cleared. -/
def enterPreopBy (rz : State → Nat → Nat → State) (s : State) (cause : Nat) : State :=
  let was := decide (s.opState = 2)
  let s := ((setOpState s 1 cause).put Ob.opSafeCause 0).put Ob.opFirstTripEvent 0xFFFF
  let s := if was then leaveOperate rz s else s
  chansFromFrame s (holdFrame s false)

/-- A trip cause (R79–R81): it ends a check, moves OPERATE to SAFE, or sets its bit in SAFE; elsewhere it does nothing. -/
def tripBy (rz : State → Nat → Nat → State) (s : State) (cause bit_ : Nat) (ev : Option Nat) : State :=
  let s := match s.check with
    | some c => { s with check := some { c with ended := true } }
    | none => s
  if s.inOperate then enterSafeBy rz s cause bit_ ev
  else if s.inSafe then noteTrip (s.putBit Ob.opSafeCause bit_ true) ev
  else s

/-- An event is raised: it joins the instant's, triggers the trace slots that wait for it (R266), and acts on the operating state where the
latched list names it (R120). `fuel` bounds the events that an event raises in turn: 14 of a trace trigger, 12 of a test that ends. -/
def raiseDeep : Nat → State → Nat → Nat → State
  | 0, s, src, payload => noteRaise s src payload
  | fuel + 1, s, src, payload =>
    let s := noteRaise s src payload
    let s := (List.finRange 8).foldl (fun s (t : Fin 8) =>
      if awaitsTrigger s src t then raiseDeep fuel (traceTrigger s t) 14 (s.ob (Ob.traceLoop t) % 512 + t.val * 2 ^ 16) else s) s
    if s.trips.contains src then tripBy (raiseDeep fuel) s 3 1 (some src) else s

/-- Raises an event (R117), with its effect on the operating state (R120). -/
def raise (s : State) (src payload : Nat) : State := raiseDeep 16 s src payload

def endTest (cause : Nat) (s : State) (d : Fin 32) : State := endTestBy raise cause s d
def enterSafe (s : State) (cause bit_ : Nat) : State := enterSafeBy raise s cause bit_ none
def enterPreop (s : State) (cause : Nat) : State := enterPreopBy raise s cause
def tripCause (s : State) (cause bit_ : Nat) : State := tripBy raise s cause bit_ none

/-- Raises several events in order. -/
def raiseAll (s : State) (evs : List (Nat × Nat)) : State := evs.foldl (fun s e => raise s e.1 e.2) s

/-! ### Routing what an instant raised (R119) -/

/-- Records are ordered by TIME, and those of one instant by rising source number; one source's stay in the order raised (R119). -/
def raisedBefore (a b : Raised) : Bool := decide (a.time < b.time) || (a.time == b.time && decide (a.source ≤ b.source))

/-- One pass over what has been raised: the subscriptions that dropped a NOTIFY are gathered. -/
def routeOnce (s : State) : State × List Nat :=
  (sortBy raisedBefore s.router.raised).foldl (fun acc e =>
    let r := route acc.1 e.time e.source e.payload
    (r.1, acc.2 ++ r.2)) ({ s with router := { s.router with raised := [] } }, [])

/-- What has been raised is routed; a dropped NOTIFY raises event 198 (R341), which is routed after it. -/
def routeRaised : Nat → State → State
  | 0, s => { (routeOnce s).1 with router := { (routeOnce s).1.router with raised := [] } }
  | fuel + 1, s =>
    if s.router.raised.isEmpty then s
    else
      let r := routeOnce s
      routeRaised fuel (r.2.foldl (fun s u => raise s 198 u) r.1)

/-- The events of this instant leave for their destinations. -/
def flush (s : State) : State := routeRaised 4 s

/-- A condition of R489 lapses: GUARANTEEVOID sets until the next reset, and the lapse is counted. -/
def guaranteeLapse (s : State) : State :=
  ((s.putBit Ob.faultFaultStatus 4 true).inc Ob.faultGuaranteeBreaks).put Ob.faultLastBreakTime s.wc

/-- What of R520 stands outside its range is noted. -/
def markE (s : State) (p : Range) (out : Bool) : State :=
  let rest := s.supply.outE.filter (fun q => q != p)
  { s with supply := { s.supply with outE := if out then p :: rest else rest } }

/-- A figure of R520 is measured: condition E lapses as it leaves its range, once per excursion (R489, log entry 16). -/
def rangeE (s : State) (p : Range) (out : Bool) : State :=
  let was := s.supply.outE.contains p
  let s := markE s p out
  if out && !was then guaranteeLapse s else s

/-- A field supply as one of its two groups measures it (R369): its excursion lasts while either group shows it, and lapses condition E once. -/
def fieldE (s : State) (g : Fin 4) (out : Bool) : State :=
  if s.supply.outE.contains (.field (Fin.ofNat 4 (g.val ^^^ 1))) then markE s (.field g) out else rangeE s (.field g) out

/-- What is known of a field supply bears on both its groups. -/
def fieldPairE (s : State) (k : Fin 2) (out : Bool) : State := fieldE (fieldE s (Fin.ofNat 4 (2 * k.val)) out) (Fin.ofNat 4 (2 * k.val + 1)) out

/-- An overload that switched its own driver off: the excursion ends with it. -/
def excursion (s : State) (p : Range) : State := rangeE (rangeE s p true) p false

/-- A fault of R480 is found; it counts as not yet masked from `before` µs before now to `after` µs from now, the times that R480 gives. Where
another is not yet masked then, condition S lapses (R489, log entry 104). -/
def maskedFault (s : State) (before after : Nat) : State :=
  let meets := s.supply.maskTo.any (fun t => decide (s.osc < t + before))
  let till := max ((s.supply.maskTo).getD 0) (s.osc + after)
  let s := { s with supply := { s.supply with maskTo := some till } }
  if meets then guaranteeLapse s else s

/-- Whether a figure lies outside a range. -/
def outside (x lo hi : FX) : Bool := FX.lt x lo || FX.gt x hi

/-- An internal fault beyond masking (R487): its FaultStatus bit, the count, and SAFE with SafeCause INTERNAL. -/
def beyondMasking (s : State) (b : Nat) : State :=
  tripCause ((s.putBit Ob.faultFaultStatus b true).inc Ob.faultGuaranteeBreaks) 4 3

end Sys2Proof.Machine
end

