-- ==== Sys2Proof/Machine/Compensator.lean ====
section
/-! DEFINITION. One loop sample (R219): coefficient loads, region, profile, supervision, error, stages, output, limits, writeback. All of
it is computed from the context, the objects and the channels as they stand when the sample reads them. -/
namespace Sys2Proof.Machine

/-! ### 24-bit mantissas (R220, R224) -/

/-- The 24-bit clip, and whether it clipped. -/
def sat24 (z : Int) : Int × Bool :=
  if z > 8388607 then (8388607, true) else if z < -8388608 then (-8388608, true) else (z, false)

/-- z / 2^k rounded half toward +∞; z × 2^(−k) for a negative k. -/
def shiftRound (z k : Int) : Int :=
  if k ≤ 0 then z * ((2 ^ (-k).toNat : Nat) : Int)
  else (z + ((2 ^ (k.toNat - 1) : Nat) : Int)) / ((2 ^ k.toNat : Nat) : Int)

/-- q(v, s) of R220. A value that is no number gives an open mantissa. -/
def quant (s : State) (v : FX) (e : Int) : Int × Bool :=
  match v with
  | .nan => (toSigned 24 (Config.freeValue s.fresh % 2 ^ 24), false)
  | .inf n => (if n then -8388608 else 8388607, true)
  | x => sat24 (FX.add (FX.scale x (23 - e)) (FX.ratio 1 2)).floor

/-- The value of a mantissa with exponent e. -/
def mantVal (m e : Int) : FX := FX.scale (FX.ofInt m) (e - 23)

/-! ### Reading the loop's objects -/

/-- A channel as a sample reads it: Value, Timestamp, Status. -/
structure ChanRead where
  v : FX
  ts : Nat
  st : Nat
  deriving DecidableEq, Repr

/-- The channel an object names; zero and invalid where it names none. -/
def readChan (s : State) (n : Nat) : ChanRead :=
  if n < 4096 then ⟨chanF s n, s.ob (Ob.chanTimestamp n), chanStatus s n⟩ else ⟨FX.zero, 0, 0⟩

def ChanRead.valid (c : ChanRead) : Bool := bit c.st 0

def stageCount (s : State) (n : Nat) : Nat := s.ob (Ob.loopStageCount n)
def stageExp (s : State) (n k : Nat) : Int := toSigned 8 (s.ob (Ob.loopStageExponent n k))
/-- A three-pole three-zero stage. -/
def threePole (s : State) (n k : Nat) : Bool := bit (s.ob (Ob.loopStageTypes n)) k
def lastStage (s : State) (n : Nat) : Nat := stageCount s n - 1

/-- Mode in force (R229); an unreadable context holds the loop (R484). -/
def modeOf (s : State) (l : LoopSt) : Nat := if l.errHold then 2 else s.ob (Ob.loopMode l.loop)

/-! ### Coefficient loads (R223, R240, R243) -/

/-- One stage's seven words loaded under one exponent. -/
def loadStage (three : Bool) (ws : List Nat) : StageCoef :=
  let used (j : Nat) : Bool := three || (j != 3 && j != 6)
  let mant (w : Nat) : Int := toSigned 24 (bits w 23 0)
  let ex (w : Nat) : Int := toSigned 8 (bits w 31 24)
  let cand := ((List.range ws.length).zip ws).filter (fun p => used p.1 && mant p.2 != 0)
  let e := match cand with
    | [] => (0 : Int)
    | c :: rest => rest.foldl (fun m p => max m (ex p.2)) (ex c.2)
  ⟨e, ((List.range ws.length).zip ws).map (fun p => if used p.1 then shiftRound (mant p.2) (e - ex p.2) else 0)⟩

/-- The four stages of a shadow set whose words start at `k`. -/
def loadSet (s : State) (n k : Nat) : List StageCoef :=
  (List.range 4).map (fun i => loadStage (threePole s n i) ((List.range 7).map (fun j => s.ob (k + 7 * i + j))))

/-- The bank with region r loaded from its shadow set. -/
def loadRegion (s : State) (n : Nat) (bank : List (List StageCoef)) (r : Nat) : List (List StageCoef) :=
  bank.set r (loadSet s n (if r = 0 then Ob.loopCoeff n 0 else Ob.profRegionCoeff n (28 * (r - 1))))

/-- The regions a mask marks. -/
def maskRegions (m : Nat) : List Nat := (List.range 8).filter (fun r => r != 0 && bit m r)

/-! ### Region (R244, R245) -/

/-- Boundary t, for t from 1 on. -/
def boundaryF (s : State) (n t : Nat) : FX := s.f (Ob.profBoundary n (t - 1))

/-- Raises t while the value is at or above the next boundary plus `h`. -/
def regionUp (s : State) (n count : Nat) (v h : FX) : Nat → Nat → Nat
  | 0, t => t
  | k + 1, t =>
    if t + 1 < count ∧ FX.ge v (FX.add (boundaryF s n (t + 1)) h) then regionUp s n count v h k (t + 1) else t

/-- Lowers t while the value is below its boundary less `h`. -/
def regionDown (s : State) (n : Nat) (v h : FX) : Nat → Nat → Nat
  | 0, t => t
  | k + 1, t => if 0 < t ∧ FX.lt v (FX.sub (boundaryF s n t) h) then regionDown s n v h k (t - 1) else t

/-- The region of a sample: the context with its REGSTATE fields, whether a change counted, and RegionStatus[2:0]. -/
def selectRegion (s : State) (n : Nat) (c : LoopCtx) (sched : ChanRead) : LoopCtx × Bool × Nat :=
  let count := s.ob (Ob.profRegionCount n)
  let force := s.ob (Ob.profRegionForce n)
  let chosen := c.chosen && decide (c.region < count)
  let dwell := min 65535 (c.dwell + 1)
  let moved (t : Nat) (ch : Bool) : LoopCtx × Bool :=
    ({ c with region := t, dwell := if t = c.region then dwell else 0, chosen := ch }, t != c.region)
  if count ≤ 1 then
    let x := moved 0 chosen
    ({ x.1 with schedHeld := false, dwelling := false }, x.2, if force = 0xFF then 0 else 4)
  else if force ≠ 0xFF then
    let x := moved (if force < count then force else count - 1) true
    ({ x.1 with schedHeld := !sched.valid, dwelling := false }, x.2, 4 + 2 * ofBool (!sched.valid))
  else if !sched.valid then
    let x := if chosen then moved c.region true else moved (min (s.ob (Ob.profDefaultRegion n)) (count - 1)) false
    ({ x.1 with schedHeld := true, dwelling := false }, x.2, 2)
  else
    let v := sched.v
    let h := s.f (Ob.profHysteresis n)
    let c := { c with schedVal := v.toBits32 }
    if !chosen then
      let t := regionUp s n count v FX.zero 8 0
      ({ c with region := t, dwell := 0, chosen := true, schedHeld := false, dwelling := false }, t != c.region, 0)
    else
      let t := regionDown s n v h 8 (regionUp s n count v h 8 c.region)
      if t ≠ c.region ∧ s.ob (Ob.profMinDwell n) ≤ dwell then
        ({ c with region := t, dwell := 0, schedHeld := false, dwelling := false }, true, 0)
      else ({ c with dwell := dwell, chosen := true, schedHeld := false, dwelling := t != c.region }, false, ofBool (t != c.region))

/-! ### Setpoint profile (R235–R239) -/

def signFX (x : FX) : FX := if FX.gt x FX.zero then FX.one else if FX.lt x FX.zero then FX.neg FX.one else FX.zero

def clampFX (x lo hi : FX) : FX := FX.clamp x lo hi

/-- The fastest speed that can stop within dd. -/
def vbrake (amax jmax dd : FX) : FX :=
  let a2 := FX.mul amax amax
  let j2 := FX.mul jmax jmax
  if FX.le dd (FX.div (FX.mul a2 amax) j2) then FX.cbrt (FX.mul (FX.mul dd dd) jmax)
  else FX.add (FX.div (FX.neg a2) (FX.mul (FX.ofNat 2) jmax))
    (FX.sqrt (FX.add (FX.div (FX.mul a2 a2) (FX.mul (FX.ofNat 4) j2)) (FX.mul (FX.mul (FX.ofNat 2) amax) dd)))

/-- One step of the generator from p, v, a toward the target. -/
def profileStep (vmax amax jmax tgt dt p v a : FX) : FX × FX × FX :=
  let d := FX.sub tgt p
  let vd := FX.mul (signFX d) (FX.fmin vmax (vbrake amax jmax d.abs))
  let dv := FX.sub vd v
  let ad := FX.mul (signFX dv) (FX.fmin amax (FX.sqrt (FX.mul (FX.mul (FX.ofNat 2) jmax) dv.abs)))
  let j := clampFX (FX.div (FX.sub ad a) dt) (FX.neg jmax) jmax
  let lim := FX.fmax amax (FX.sub a.abs (FX.mul jmax dt))
  let a := clampFX (FX.add a (FX.mul j dt)) (FX.neg lim) lim
  let vn := FX.add v (FX.mul a dt)
  let vn := if (FX.lt v vd && FX.gt vn vd) || (FX.gt v vd && FX.lt vn vd) then vd else vn
  let p := FX.add p (FX.mul vn dt)
  let dn := FX.sub tgt p
  if (dn.isZero || !FX.eq (signFX dn) (signFX d)) && FX.le vn.abs (FX.mul amax dt) && FX.le a.abs (FX.mul jmax dt) then
    (tgt, FX.zero, FX.zero)
  else (p, vn, a)

/-- The stored position. -/
def storedPos (c : LoopCtx) : FX := FX.add (FX.ofBits32 c.ppHi) (FX.ofBits32 c.ppLo)

/-- The PROFILE field at rest on a position, or as a step left it. -/
def putProfile (c : LoopCtx) (p v a : FX) : LoopCtx :=
  let hi := p.toBits32
  { c with ppHi := hi, ppLo := (FX.sub p (FX.ofBits32 hi)).toBits32, pvel := v.toBits32, pacc := a.toBits32 }

/-- The setpoint r of a sample with ProfileStatus (R239, R241). REVERSING compares the velocity with the distance d that the step began with
(R237, R238). -/
def profileRun (s : State) (n mode : Nat) (restart : Bool) (c : LoopCtx) (sp fb : ChanRead) (dt : FX) : LoopCtx × FX × Nat :=
  if !s.flag (Ob.profProfileEnable n) then (c, sp.v, 0)
  else
    let c := if restart then putProfile c c.lastR FX.zero FX.zero else c
    let p := storedPos c
    let began := FX.sub sp.v p
    let x : LoopCtx × FX × FX × FX :=
      if mode = 1 then (putProfile c fb.v FX.zero FX.zero, fb.v, FX.zero, FX.zero)
      else
        let v := FX.ofBits32 c.pvel
        let a := FX.ofBits32 c.pacc
        if mode = 2 ∨ c.first ∨ dt.isZero then (c, p, v, a)
        else
          let y := profileStep (s.f (Ob.profVelMax n)) (s.f (Ob.profAccMax n)) (s.f (Ob.profJerkMax n)) sp.v dt p v a
          (putProfile c y.1 y.2.1 y.2.2, y.1, y.2.1, y.2.2)
    let p := x.2.1
    let v := x.2.2.1
    let a := x.2.2.2
    let d := FX.sub sp.v p
    let st := 1 + 2 * ofBool (!v.isZero || !a.isZero || !d.isZero) + 4 * ofBool (!v.isZero && !FX.eq (signFX v) (signFX began)) +
      8 * ofBool (!sp.valid) + 16 * ofBool (mode == 1)
    (x.1, p, st)

/-! ### Supervision (R250–R255) -/

/-- What step 3 found: the context, the action in force (0 none, 1 hold, 2 ramp, 3 substitute), whether the fault entered or cleared in this
sample, and the events. -/
structure Sup where
  ctx : LoopCtx
  action : Nat
  entered : Bool
  cleared : Bool
  evs : List (Nat × Nat)
  deriving DecidableEq, Repr

/-- The three conditions of a sample (R251): the context with its counts, and the bits RANGE, FROZEN, STALE. -/
def conditions (s : State) (k : Nat) (c : LoopCtx) (fb : ChanRead) : LoopCtx × Nat :=
  let stale := if fb.ts = c.fbTime then min 65535 (c.staleCnt + 1) else 0
  let range := if !bit fb.st 0 || bit fb.st 3 || bit fb.st 4 then min 65535 (c.rangeCnt + 1) else 0
  let win := s.ob (Ob.sclassFreezeWindow k)
  let floor := s.f (Ob.sclassFreezeFloor k)
  let on := win > 0 && FX.gt floor FX.zero
  let c := { c with staleCnt := stale, fbTime := fb.ts, rangeCnt := range }
  let was := bit c.sfault 1
  let x : LoopCtx × Bool :=
    if on && bit fb.st 0 && stale == 0 then
      let ref := if c.frzCnt = 0 then fb.v.toBits32 else c.frzRef
      let dv := FX.sub fb.v (FX.ofBits32 ref)
      let sum := FX.add (FX.ofBits32 c.frzSum) dv
      let sq := FX.add (FX.ofBits32 c.frzSq) (FX.mul dv dv)
      let cnt := (c.frzCnt + 1) % 65536
      if cnt = win then
        let m := FX.ofNat cnt
        let var := FX.div (FX.sub sq (FX.div (FX.mul sum sum) m)) m
        ({ c with frzRef := ref, frzCnt := 0, frzSum := 0, frzSq := 0 }, FX.lt var (FX.mul floor floor))
      else ({ c with frzRef := ref, frzCnt := cnt, frzSum := sum.toBits32, frzSq := sq.toBits32 }, was)
    else (c, was)
  let sp := s.ob (Ob.sclassStalePeriods k)
  let rs := s.ob (Ob.sclassRangeSamples k)
  (x.1, ofBool (sp > 0 && decide (sp ≤ stale)) + 2 * ofBool x.2 + 4 * ofBool (rs > 0 && decide (rs ≤ range)))

/-- Feedback supervision of one sample (R253): detection, entry, clearing. -/
def supervise (s : State) (n : Nat) (c : LoopCtx) (fb : ChanRead) : Sup :=
  let k := supClass s n
  if k ≥ 32 then
    ⟨{ c with fbTime := 0, frzRef := 0, frzSum := 0, frzSq := 0, frzCnt := 0, staleCnt := 0, rangeCnt := 0, clearCnt := 0, sfault := 0,
              faults := 0 }, 0, false, false, []⟩
  else if c.first then ⟨{ c with fbTime := fb.ts }, 0, false, false, []⟩
  else
    let x := conditions s k c fb
    let c := x.1
    let cond := x.2
    let fault := bit c.sfault 7
    let act := bits c.sfault 6 5
    if !fault then
      if cond ≠ 0 then
        let a := s.ob (Ob.sclassFaultAction k) + 1
        ⟨{ c with sfault := cond + a * 32 + 128, faults := min 65535 (c.faults + 1), clearCnt := 0 }, a, true, false,
          [(8, n + cond * 2 ^ 16 + a * 2 ^ 21)]⟩
      else ⟨{ c with sfault := 0 }, 0, false, false, []⟩
    else
      let cl := if cond ≠ 0 then 0 else c.clearCnt + 1
      if cond = 0 ∧ s.ob (Ob.sclassClearSamples k) ≤ cl then
        ⟨{ c with sfault := 0, clearCnt := 0 }, 0, false, true, [(9, n)]⟩
      else
        ⟨{ c with clearCnt := cl, sfault := cond + 8 * ofBool (cl != 0) + 16 * ofBool (bit c.sfault 4) + act * 32 + 128 }, act, false,
          false, []⟩

/-! ### Error, stages, feedforward, limits -/

/-- The error e (R221). -/
def errorOf (s : State) (n : Nat) (r f : FX) : FX :=
  let d := FX.mul (s.f (Ob.loopInputGain n)) (if s.ob (Ob.loopAction n) = 0 then FX.sub r f else FX.sub f r)
  FX.mul (signFX d) (FX.fmax FX.zero (FX.sub d.abs (s.f (Ob.loopDeadband n))))

/-- One stage in direct form I (R222): its output mantissa, whether it clipped, and the history after it. -/
def stageRun (three : Bool) (k : StageCoef) (h : StageHist) (x : Int) : Int × Bool × StageHist :=
  let m (j : Nat) : Int := k.m.getD j 0
  let acc := m 0 * x + m 1 * h.x1 + m 2 * h.x2 + m 3 * h.x3 - m 4 * h.y1 - m 5 * h.y2 - m 6 * h.y3
  let y := sat24 (shiftRound acc (23 - k.e))
  (y.1, y.2, ⟨x, h.x1, if three then h.x2 else 0, y.1, h.y1, if three then h.y2 else 0⟩)

/-- The cascade from stage k on (R224): stage outputs, the mask of stages that saturated, and the histories. -/
def cascade (s : State) (n : Nat) : Nat → Nat → List StageCoef → List StageHist → Int → Bool → List Int × Nat × List StageHist
  | 0, _, _, _, _, _ => ([], 0, [])
  | fuel + 1, k, cs, hs, x, clipped =>
    match cs, hs with
    | c :: cs, h :: hs =>
      let y := stageRun (threePole s n k) c h x
      let here := ofBool (clipped || y.2.1) * 2 ^ k
      if k + 1 < stageCount s n then
        let nx := sat24 (shiftRound y.1 (stageExp s n (k + 1) - stageExp s n k))
        let t := cascade s n fuel (k + 1) cs hs nx.1 nx.2
        (y.1 :: t.1, here + t.2.1, y.2.2 :: t.2.2)
      else ([y.1], here, y.2.2 :: hs)
    | _, _ => ([], 0, hs)

/-- A feedforward term's part of FFHOLD: units of 2⁻⁸, saturating (R211). -/
def ffHeldUnits (s : State) (t : FX) : Int := s.clip16 FX.roundEven (FX.mul t (FX.ofNat 256))

/-- The feedforward sum F with the context's held terms, the mask of held channels, and the channels newly held (R225). -/
def feedforward (s : State) (n : Nat) (c : LoopCtx) : FX × LoopCtx × Nat × List (Nat × Nat) :=
  (List.range 2).foldl (fun (acc : FX × LoopCtx × Nat × List (Nat × Nat)) j =>
    let ch := s.ob (if j = 0 then Ob.loopFeedforwardChannel0 n else Ob.loopFeedforwardChannel1 n)
    if ch ≥ 4096 then
      (acc.1, { acc.2.1 with ffHeld := acc.2.1.ffHeld.set j false }, acc.2.2.1, acc.2.2.2) else
    let r := readChan s ch
    if r.valid then
      let t := FX.mul (s.f (if j = 0 then Ob.loopKff0 n else Ob.loopKff1 n))
        (FX.sub r.v (s.f (if j = 0 then Ob.loopFfRef0 n else Ob.loopFfRef1 n)))
      (FX.add acc.1 t,
       { acc.2.1 with ffHold := acc.2.1.ffHold.set j (ffHeldUnits s t), ffHeld := acc.2.1.ffHeld.set j false }, acc.2.2.1, acc.2.2.2)
    else
      let t := FX.scale (FX.ofInt (acc.2.1.ffHold.getD j 0)) (-8)
      (FX.add acc.1 t, { acc.2.1 with ffHeld := acc.2.1.ffHeld.set j true }, acc.2.2.1 + 2 ^ j,
       acc.2.2.2 ++ (if c.ffHeld.getD j false then [] else [(3, n + j * 2 ^ 16)]))) (FX.zero, c, 0, [])

/-- The limits of R226 on u: the result and the Status bits RATELIM, HIGHLIM, LOWLIM and NOTACHLIM. -/
def limitOutput (s : State) (n : Nat) (c : LoopCtx) (u dt : FX) : FX × Nat :=
  let up := FX.ofBits32 c.uprev
  let rate := s.f (Ob.loopOutRate n)
  let x : FX × Nat :=
    if FX.gt rate FX.zero then
      let w := FX.mul rate dt
      let lo := FX.sub up w
      let hi := FX.add up w
      if FX.lt u lo then (lo, 64) else if FX.gt u hi then (hi, 64) else (u, 0)
    else (u, 0)
  let lo := s.f (Ob.loopOutLow n)
  let hi := s.f (Ob.loopOutHigh n)
  let x : FX × Nat := if FX.gt x.1 hi then (hi, x.2 + 32) else if FX.lt x.1 lo then (lo, x.2 + 16) else x
  let out := s.ob (Ob.loopOutputChannel n)
  let g := s.f (Ob.chanScaleGain out)
  if out < 4096 && bit (chanStatus s out) 5 &&
      ((FX.gt g FX.zero && FX.gt x.1 up) || (FX.lt g FX.zero && FX.lt x.1 up)) then (up, x.2 + 128)
  else x

/-! ### Test signal (R261, R262) -/

/-- The definition whose test runs on a loop. -/
def testOn (s : State) (n : Nat) : Option (Fin 32) :=
  (List.finRange 32).find? (fun (d : Fin 32) =>
    s.ob (Ob.injLoop d) == n && decide (1 ≤ s.ob (Ob.injState d) ∧ s.ob (Ob.injState d) ≤ 3))

/-- Tap of a PRBS order. -/
def prbsTap (n : Nat) : Nat := if n = 7 then 6 else if n = 9 then 5 else if n = 10 then 7 else if n = 11 then 9 else 14

/-- The value injected at sample k of the injecting phase, with the register, its bit and the sine phase after it. -/
def injectValue (s : State) (d : Fin 32) (k : Nat) : FX × Nat × Nat × FX :=
  let i := s.inj[d]
  let a := s.f (Ob.injAmplitude d)
  match s.ob (Ob.injSignal d) with
  | 0 => (a, i.prbs, i.prbsBit, i.phase)
  | 1 =>
    let o := s.ob (Ob.injPrbsOrder d)
    let x : Nat × Nat :=
      if k % s.ob (Ob.injPrbsHold d) = 0 then
        let b := (i.prbs / 2 ^ (o - 1) ^^^ i.prbs / 2 ^ (prbsTap o - 1)) % 2
        ((i.prbs * 2 + b) % 2 ^ o, b)
      else (i.prbs, i.prbsBit)
    (if x.2 = 1 then a else FX.neg a, x.1, x.2, i.phase)
  | _ =>
    let f0 := s.f (Ob.injSweepStart d)
    let f1 := s.f (Ob.injSweepEnd d)
    let fk := FX.mul f0 (FX.pow (FX.div f1 f0) (FX.div (FX.ofNat k) (FX.ofNat (max 1 (s.ob (Ob.injLength d) - 1)))))
    (FX.mul a (FX.sin i.phase), i.prbs, i.prbsBit, FX.add i.phase (FX.mul (FX.mul (FX.ofNat 2) FX.pi) fk))

/-- w of a sample: zero outside the injecting phase and in a sample that ends the test. -/
def injection (s : State) (n mode : Nat) (fault : Bool) : FX × Nat × Nat × FX :=
  match testOn s n with
  | none => (FX.zero, 0, 0, FX.zero)
  | some d =>
    let i := s.inj[d]
    let pre := s.ob (Ob.injPreSamples d)
    let none_ := (FX.zero, i.prbs, i.prbsBit, i.phase)
    if mode ≠ 0 ∨ fault then none_
    else if pre ≤ i.idx ∧ i.idx < pre + s.ob (Ob.injLength d) then injectValue s d (i.idx - pre)
    else none_

/-! ### The sample -/

/-- dt of a sample (R226, R236): WC seconds since the last one, 0 to 60. -/
def sampleDt (c : LoopCtx) (tick : Nat) : FX := FX.div (FX.ofNat (min 60000000 (tick - c.lastTime))) (FX.ofNat 1000000)

/-- The last stage's y[n] overwritten (R227). -/
def overwriteLast (hs : List StageHist) (k : Nat) (y : Int) : List StageHist :=
  match hs[k]? with
  | some h => hs.set k { h with y1 := y }
  | none => hs

/-- The bumpless return of R255: x histories zero, the last stage's y set. -/
def returnHist (s : State) (n : Nat) (hs : List StageHist) (y : Int) : List StageHist :=
  let hs := hs.map (fun h => { h with x1 := 0, x2 := 0, x3 := 0 })
  let k := lastStage s n
  match hs[k]? with
  | some h => hs.set k { h with y1 := y, y2 := y, y3 := if threePole s n k then y else 0 }
  | none => hs

/-- The context after its pending loads, with the events of a load (R223, R243). -/
def pendingLoads (s : State) (l : LoopSt) : LoopCtx × List (Nat × Nat) :=
  let n := l.loop
  let bank := if l.coeffPend then loadRegion s n l.ctx.bank 0 else l.ctx.bank
  let bank := (maskRegions l.pendMask).foldl (loadRegion s n) bank
  ({ l.ctx with bank := bank }, if l.coeffPend then [(4, n)] else [])

/-- One whole sample of a loop for a trigger tick (R219). -/
def computeSample (s : State) (l : LoopSt) (tick : Nat) : SampleRes :=
  let n := l.loop
  let mode := modeOf s l
  let last := lastStage s n
  let se := stageExp s n last
  let bias := s.f (Ob.loopBias n)
  let ld := pendingLoads s l
  let rg := selectRegion s n ld.1 (readChan s (s.ob (Ob.profSchedChannel n)))
  let dt := sampleDt l.ctx tick
  let fb := readChan s (s.ob (Ob.loopFeedbackChannel n))
  let pr := profileRun s n mode l.profRestart rg.1 (readChan s (s.ob (Ob.loopSetpointChannel n))) fb dt
  let sv := supervise s n pr.1 fb
  let act := if mode = 0 then sv.action else 0
  let sub := readChan s (supSubst s n)
  let subFail := act = 3 ∧ !sub.valid
  let newFail := decide (subFail) && !bit sv.ctx.sfault 4
  let c := { sv.ctx with sfault := setBit sv.ctx.sfault 4 (decide subFail) }
  let act := if subFail then 1 else act
  let ij := injection s n mode sv.entered
  let atOut := match testOn s n with | some d => s.ob (Ob.injInjectPoint d) == 1 | none => false
  let r := if atOut then pr.2.1 else FX.add pr.2.1 ij.1
  let f := if act = 3 then sub.v else fb.v
  let e := errorOf s n r f
  let ff := feedforward s n c
  let c := ff.2.1
  let back := quant s (FX.sub (FX.sub (FX.ofBits32 c.uprev) ff.1) bias) se
  let runs := decide (mode ≠ 2) && (act == 0 || act == 3)
  -- after a cleared fault (R255), and where a start's first evaluation takes F and Bias off the applied output (R78, log entry 60)
  let bumpless := (sv.cleared && mode == 0) || (c.atStart && runs)
  let hist := if bumpless then returnHist s n c.hist back.1 else c.hist
  let x0 := quant s e (stageExp s n 0)
  let bank := c.bank.getD c.region []
  let cas := if runs then cascade s n 4 0 bank hist x0.1 x0.2 else ([], 0, hist)
  let y := cas.1.getLast?.getD 0
  let uc := if runs then mantVal y se else s.f (Ob.loopCompOutput n)
  let up := FX.ofBits32 c.uprev
  let u0 :=
    if mode = 2 ∨ act = 1 then up
    else if act = 2 then
      let w := FX.mul (s.f (Ob.sclassFallbackRate (supClass s n))) dt
      FX.add up (clampFX (FX.sub (s.f (Ob.supFallbackFallbackOutput (n / 64) (n % 64))) up) (FX.neg w) w)
    else FX.add (FX.add uc ff.1) bias
  let u := if atOut then FX.add u0 ij.1 else u0
  let man := s.ob (Ob.loopManualChannel n)
  let lim : FX × Nat :=
    if mode = 2 then (u, 0)
    else limitOutput s n c (if mode = 1 ∧ man < 4096 then chanF s man else u) dt
  let write := runs && act == 0 && !FX.eq lim.1 u
  let wb := quant s (FX.sub (FX.sub lim.1 ff.1) bias) se
  let hist' := if act = 3 ∨ !runs then hist else if write then overwriteLast cas.2.2 last wb.1 else cas.2.2
  let uc' := if write then mantVal wb.1 se else uc
  let satm := cas.2.1 + (if write && wb.2 && !bit cas.2.1 last then 2 ^ last else 0)
  let saturated := satm != 0 || (bumpless && back.2)
  let prev := s.ob (Ob.loopStatus n)
  let st := lim.2 + 8 * ofBool saturated + 2048 * ofBool (ff.2.2.1 != 0)
  let evs := ld.2 ++ sv.evs ++ (if newFail then [(10, n)] else []) ++ ff.2.2.2 ++
    (if bit st 7 != bit prev 7 then [(2, n + ofBool (bit st 7) * 2 ^ 16)] else []) ++
    (if bits st 5 4 ≠ 0 ∧ bits prev 5 4 = 0 ∧ s.ob (Ob.loopLastSampleTime n) ≠ 0 then [(1, n + ofBool (bit st 5) * 2 ^ 16)] else [])
  let out := lim.1.toBits32
  { mode
    ctx := { c with hist := hist', uprev := out, lastTime := tick, first := false, lastR := r, atStart := c.atStart && !bumpless }
    writeOut := s.ob (Ob.loopOutputChannel n) < 4096
    out
    compOut := uc'.toBits32
    nodes := [e, uc, u, FX.ofBits32 out, r, f, FX.ofNat c.sfault, FX.ofNat c.region].map FX.toBits32
    stageOut := (List.range 4).map (fun k =>
      (match cas.1[k]? with | some y => mantVal y (stageExp s n k) | none => FX.zero).toBits32)
    satMask := satm, limited := lim.2 != 0, status := st, inj := ij.1.toBits32
    regStatus := rg.2.2, profStatus := pr.2.2, profPos := pr.2.1.toBits32, switched := rg.2.1, events := evs
    loadedCoeff := l.coeffPend, loadedMask := l.pendMask, faultEntered := sv.entered
    prbs := ij.2.1, prbsBit := ij.2.2.1, phase := ij.2.2.2 }

end Sys2Proof.Machine
end

