-- ==== Sys2Proof/Machine/GrainClocks.lean ====
section
/-! DEFINITION. The grain clocks (R84–R91), and how time passes (R83, R116, R120): what they accept counts at its moment, before anything
later. -/
namespace Sys2Proof.Machine

/-! ### Grain clocks (R84–R91) -/

def gcSt (s : State) (k : Fin 8) : GcSt := s.gc[k]
def setGc (s : State) (k : Fin 8) (g : GcSt) : State := { s with gc := s.gc.set k g }

/-- Counting edges kept for Rate (R89), newest first: those within 100 ms of the newest, and one older. -/
def keepMarks (marks : List GcMark) (now : Nat) : List GcMark :=
  let young := marks.takeWhile (fun m => decide (now < m.at_ + 100000000))
  young ++ (marks.drop young.length).take 1

/-- The counter counts once (R84, R85), at oscillator time `at_` in ns: REVERSE follows, and the edge is marked for Rate. -/
def gcCount (s : State) (k : Fin 8) (fwd : Bool) (at_ : Nat) : State :=
  let p := (s.ob (Ob.gcPosition k) + (if fwd then 1 else 2 ^ 48 - 1)) % 2 ^ 48
  let s := (s.put (Ob.gcPosition k) p).putBit (Ob.gcStatus k) 5 (!fwd)
  let g := gcSt s k
  setGc s k { g with marks := ⟨at_, p⟩ :: g.marks }

/-- Whether an accepted edge counts, and in which direction (R85, R90): `onA` for a change of A, `a` and `b` the levels after it. -/
def gcDirection (s : State) (k : Fin 8) (onA a b : Bool) : Option Bool :=
  let inv (f : Bool) : Bool := if s.ob (Ob.gcDirection k) = 1 then !f else f
  match s.ob (Ob.gcCountMode k) with
  | 0 => some (inv (if onA then a != b else a == b))
  | 1 => if onA && a then some (inv (a != b)) else none
  | _ => if onA && a then some true else none

/-- `n` edges accepted at oscillator time `at_` in ns (R86): STOPPED clears with cause 5, and Rate begins anew (R89). -/
def gcAccept (s : State) (k : Fin 8) (n at_ : Nat) : State :=
  let g := gcSt s k
  let was := s.stBit (Ob.gcStatus k) 4
  let s := setGc s k { g with
    edges := List.replicate n (at_ / 1000) ++ g.edges, lastEdge := at_ / 1000, marks := if was then [] else g.marks }
  if was then raise (s.putBit (Ob.gcStatus k) 4 false) (224 + k.val) 5 else s

/-- A and B changed within one FilterTime (R87): the count stays, the error is counted and raised with cause 1. -/
def gcIllegal (s : State) (k : Fin 8) (at_ : Nat) : State :=
  let s := (s.inc (Ob.gcQuadratureErrors k)).putBit (Ob.gcStatus k) 2 true
  guaranteeLapse (raise (setGc s k { gcSt s k with qerrAt := at_ / 1000 }) (224 + k.val) 1)

/-- FilterTime in ns, as a comparison with a whole number of them (R86). -/
def gcFilterBelow (s : State) (k : Fin 8) (ns : Nat) : Bool :=
  FX.le (s.f (Ob.gcFilterTime k)) (FX.to32 (FX.ratio ns 1000000000))

/-- FilterTime as the whole number of ns that reaches it. -/
def gcFilterNs (s : State) (k : Fin 8) : Nat :=
  let n := (FX.mul (s.f (Ob.gcFilterTime k)) (FX.ofNat 1000000000)).roundAway.toNat
  if gcFilterBelow s k n then n else n + 1

/-- Whether a change of one line at `at_` ns comes less than FilterTime after the last change, of the other line (R87). -/
def gcClash (s : State) (k : Fin 8) (onA : Bool) (at_ : Nat) : Bool :=
  match (gcSt s k).prev with
  | some e => e.1 != onA && !gcFilterBelow s k (at_ - e.2)
  | none => false

/-- The edges that a change makes on the lines the mode looks at (R86): B is ignored in CountMode 2. -/
def gcLines (single : Bool) (line : GcLine) : Nat :=
  match line with
  | .a => 1
  | .b => if single then 0 else 1
  | .both => if single then 1 else 2

/-- The filter has judged a change (R86, R87): of an enabled clock a pulse is counted as a glitch, and an edge is accepted, which in a
quadrature mode may be part of an illegal transition, and counts where its mode counts on it. -/
def gcJudge (s : State) (k : Fin 8) (c : GcChange) : State :=
  let single := s.ob (Ob.gcCountMode k) == 2
  let n := gcLines single c.line
  let count (s : State) : State :=
    match gcDirection s k (c.line != .b) c.a c.b with
    | some fwd => gcCount s k fwd c.due
    | none => s
  if !s.flag (Ob.gcEnable k) || n = 0 then s
  else match c.verdict with
    | .glitch => s.incBy (Ob.gcGlitchCount k) n
    | .counts => count (gcAccept s k n c.due)
    | .spoiled => if single then count (gcAccept s k n c.due) else gcAccept s k n c.due
    | .illegal => if single then count (gcAccept s k n c.due) else gcIllegal (gcAccept s k n c.due) k c.due

/-- A change is judged at the moment it was due, whose WC an event that it raises carries (R116). -/
def gcJudgeDue (s : State) (k : Fin 8) (c : GcChange) : State :=
  let late := s.osc - c.due / 1000
  { gcJudge { s with osc := s.osc - late, wc := s.wc - late } k c with osc := s.osc, wc := s.wc }

/-- A change whose time has come leaves the filter as its clock judges it. -/
def gcTake (s : State) (x : Fin 8 × GcChange) : State :=
  gcJudgeDue (setGc s x.1 { gcSt s x.1 with waits := (gcSt s x.1).waits.filter (fun c => c != x.2) }) x.1 x.2

/-- The changes of every clock whose time has come by `now`, in ns, in the order of their moments; those of one moment by rising clock, as
their events are ordered (R119). -/
def gcRipe (s : State) (now : Nat) : List (Fin 8 × GcChange) :=
  sortBy (fun x y => decide (x.2.due ≤ y.2.due))
    ((List.finRange 8).flatMap (fun k => ((gcSt s k).waits.filter (fun c => decide (c.due ≤ now))).map (fun c => (k, c))))

/-- They are judged in that order. -/
def gcSettle (s : State) (now : Nat) : State := (gcRipe s now).foldl gcTake s

/-- `d` µs pass: what the grain clocks accept in them counts, each at its moment, with its events and their effect on the operating state,
before anything that follows (R86, R116, R119, R120). No step or slewing of WC lies within. -/
def pass (s : State) (d : Nat) : State :=
  let t := s.elapse d
  gcSettle t (t.osc * 1000)

/-- The present tick's instant `off` µs after its boundary is reached, where that is not past. -/
def reach (s : State) (off : Nat) : State := pass s (s.tickWc + off - s.wc)

/-- The edges that wait, once a change of the other line follows the last of them within FilterTime (R87): none of them counts. -/
def gcSpoil (waits : List GcChange) : List GcChange :=
  waits.map (fun c => if c.verdict = .counts then { c with verdict := .spoiled } else c)

/-- A change of a grain clock's lines, one line or both at one instant, that stays at its new level for `held` ns, `ns` ns past the
present µs (R86): the filter judges it once it has held for FilterTime, or when it ends before. With a change of the other line less
than FilterTime before it, it is an illegal transition, which leaves the counter unchanged (R87). -/
def gcEdgeAt (s : State) (k : Fin 8) (line : GcLine) (held ns : Nat) : State :=
  let at_ := s.osc * 1000 + ns
  let s := gcSettle s at_
  let g := gcSt s k
  if !gcFilterBelow s k held then setGc s k { g with waits := g.waits ++ [⟨line, g.a, g.b, at_ + held, .glitch⟩] }
  else
    let a := if line = .b then g.a else !g.a
    let b := if line = .a then g.b else !g.b
    let clash := line != .both && gcClash s k (line == .a) at_
    let c : GcChange := ⟨line, a, b, at_ + gcFilterNs s k, if clash || line = .both then .illegal else .counts⟩
    setGc s k { g with
      a := a, b := b, prev := if line = .both then none else some (line == .a, at_)
      waits := (if clash then gcSpoil g.waits else g.waits) ++ [c] }

/-- Rate of R89 as a word: the net count between two counting edges over their time. No number is stated for two edges at one
instant: an open value. -/
def gcRateWord (s : State) (k : Fin 8) : Nat :=
  match (gcSt s k).marks with
  | [] => 0
  | m :: rest =>
    let older := rest.find? (fun x => decide (x.at_ + 100000000 ≤ m.at_))
    match (older <|> rest.getLast?) with
    | none => 0
    | some j =>
      if m.at_ = j.at_ then Config.freeValue s.fresh % 2 ^ 32
      else
        let d := toSigned 48 ((m.pos + 2 ^ 48 - j.pos) % 2 ^ 48)
        (FX.div (FX.ofInt (d * 1000000000)) (FX.ofNat (m.at_ - j.at_))).toBits32

/-- Writes Rate, and VolumeRate with it (R90): a write of LitresPerCount shows in VolumeRate at the next update (DESIGN CHOICE, log entry
96). -/
def gcPutRate (s : State) (k : Fin 8) (w : Nat) : State :=
  (s.put (Ob.gcRate k) w).putF (Ob.gcVolumeRate k) (FX.mul (FX.ofBits32 w) (s.f (Ob.gcLitresPerCount k)))

/-- The update of one clock every 10 ms (R89, R91): Rate, and OVERSPEED above 5,000 accepted edges in the last 10 ms. -/
def gcUpdate (s : State) (k : Fin 8) : State :=
  let g := gcSt s k
  let recent := g.edges.filter (fun t => decide (s.osc < t + 10000))
  let fast := decide (5000 < recent.length)
  let was := s.stBit (Ob.gcStatus k) 3
  let s := (gcPutRate s k (if s.stBit (Ob.gcStatus k) 4 then 0 else gcRateWord s k)).tickFree
  let s := (setGc (s.putBit (Ob.gcStatus k) 3 fast) k { g with
    edges := recent, marks := keepMarks g.marks ((g.marks.head?.map (fun m => m.at_)).getD 0) }).ran (.gcRate k) 10000
  if fast && !was then guaranteeLapse (raise s (224 + k.val) 4) else s

/-- No edge for StallTime (R89). -/
def gcStallNow (s : State) (k : Fin 8) : State :=
  raise (gcPutRate (s.putBit (Ob.gcStatus k) 4 true) k 0) (224 + k.val) 2

/-- Whether StallTime has run with no accepted edge of an enabled clock: a disabled one never enters STOPPED (DESIGN CHOICE, log
entry 87). -/
def gcStalled (s : State) (k : Fin 8) : Bool :=
  s.flag (Ob.gcEnable k) && !s.stBit (Ob.gcStatus k) 4 &&
  decide ((gcSt s k).lastEdge + s.micros (Ob.gcStallTime k) ≤ s.osc)

/-- The receiver begins or ends signal loss (R91); entry raises cause 3. It is taken of a disabled clock too (DESIGN CHOICE, log entry 87). -/
def gcSignal (s : State) (k : Fin 8) (lost : Bool) : State :=
  if s.stBit (Ob.gcStatus k) 1 == lost then s
  else
    let s := s.putBit (Ob.gcStatus k) 1 lost
    if lost then raise s (224 + k.val) 3 else s

/-- Enable of a grain clock written (R88–R90): Position stays; Rate begins anew. That STOPPED and OVERSPEED clear and the stall time begins
anew is the model's choice (log entry 87); QERR runs its second. -/
def gcEnableEff (k : Fin 8) (on : Bool) (s : State) : State :=
  if s.flag (Ob.gcEnable k) == on then s
  else
    let s := gcPutRate (s.putFlag (Ob.gcEnable k) on) k 0
    let s := s.put (Ob.gcStatus k) (setField (s.ob (Ob.gcStatus k)) 4 3 0)
    setGc s k { gcSt s k with marks := [], edges := [], lastEdge := s.osc }

end Sys2Proof.Machine
end

