-- ==== Sys2Proof/Machine/Store.lean ====
section
/-! DEFINITION. The configuration and journal store (R28, R49–R62, R455–R461): every write passes here, is checked in the order
of R55, and is applied whole or aborted, with its one journal record. -/
namespace Sys2Proof.Machine

/-! ### What a value may be (R49, R52) -/

/-- One byte of a UTF-8 check: how many continuation bytes are due, and the bounds of the next. -/
def utf8Step (st : Option (Nat × Nat × Nat)) (b : Byte) : Option (Nat × Nat × Nat) :=
  let n := b.toNat
  match st with
  | none => none
  | some (0, _, _) =>
    if n < 0x80 then some (0, 0, 0)
    else if 0xC2 ≤ n ∧ n ≤ 0xDF then some (1, 0x80, 0xBF)
    else if n = 0xE0 then some (2, 0xA0, 0xBF)
    else if n = 0xED then some (2, 0x80, 0x9F)
    else if 0xE1 ≤ n ∧ n ≤ 0xEF then some (2, 0x80, 0xBF)
    else if n = 0xF0 then some (3, 0x90, 0xBF)
    else if 0xF1 ≤ n ∧ n ≤ 0xF3 then some (3, 0x80, 0xBF)
    else if n = 0xF4 then some (3, 0x80, 0x8F)
    else none
  | some (k + 1, lo, hi) => if lo ≤ n ∧ n ≤ hi then some (k, 0x80, 0xBF) else none

/-- Whether bytes are valid UTF-8 (R49). -/
def utf8Ok (bs : List Byte) : Bool :=
  match bs.foldl utf8Step (some (0, 0, 0)) with
  | some (0, _, _) => true
  | _ => false

/-- An F32 word that is NaN or infinite (R47). -/
def notFinite (w : Nat) : Bool := !(FX.ofBits32 w).isFinite

/-- A left-contiguous mask of 32 bits. -/
def contiguous (v : Nat) : Bool := (List.range 33).any (fun k => v == 2 ^ 32 - 2 ^ k)

/-- Aborts of a scalar against its own type and range (R47, R52, R54). -/
def rangeCodes (ty : Ty) (c : Chk) (v : Nat) : List Nat :=
  if ty = .bool then (if v ≤ 1 then [] else [0x00050005])
  else if ty = .f32 ∧ notFinite v then [0x00050003]
  else
    let x := FX.ofBits32 v
    let below (b : Bool) : List Nat := if b then [0x00050002] else []
    let above (b : Bool) : List Nat := if b then [0x00050001] else []
    match c with
    | .any | .bool | .f32any | .len .. | .binding => []
    | .nat lo hi => below (v < lo) ++ above (v > hi)
    | .natOr lo hi alt => if v = alt then [] else below (v < lo) ++ above (v > hi)
    | .enum lo hi => if lo ≤ v ∧ v ≤ hi then [] else [0x00050005]
    | .oneOf vs => if vs.contains v then [] else [0x00050005]
    | .int lo hi => let z := toSigned (8 * tySize ty) v; below (z < lo) ++ above (z > hi)
    | .f32 lo hi => below (FX.lt x (FX.ofBits32 lo)) ++ above (FX.gt x (FX.ofBits32 hi))
    | .f32nz => below x.isZero
    | .f32pos => below (FX.le x FX.zero)
    | .f32nonneg => below (FX.lt x FX.zero)
    | .mask r => if v &&& r = 0 then [] else [0x00050004]
    | .station =>
      (if bits v 27 12 = 0 then [] else [0x00050004]) ++ (if bits v 31 28 ≤ 3 then [] else [0x00050005])
    | .filter =>
      (if bit v 58 || (!bit v 59 && (bits v 28 11 != 0 || bits v 57 40 != 0)) then [0x00050004] else []) ++
      (if bits v 61 60 = 3 then [0x00050005] else [])
    | .bf24 => let e := toSigned 8 (bits v 31 24); below (e < -24) ++ above (e > 7)
    | .capture => (if bit v 7 then [0x00050004] else []) ++ below (v = 0)
    | .multiple k hi => if v ≤ hi ∧ v % k = 0 then [] else [0x00050006]
    | .contiguous => if contiguous v then [] else [0x00050005]

/-- Aborts of a write's bytes against the type: count, string form (R49). -/
def sizeCodes (r : Row) (data : List Byte) : List Nat :=
  match r.ty with
  | .str =>
    let body := data.drop 2
    let cap := match r.chk with | .len _ hi => hi | _ => 32
    if data.length ≥ 2 && leAt data 0 2 == body.length && body.length ≤ cap && utf8Ok body then [] else [0x00020003]
  | .domain =>
    match r.chk with
    | .len lo hi => if lo ≤ data.length ∧ data.length ≤ hi then [] else [0x00020001]
    | _ => []
  | t => if data.length = tySize t then [] else [0x00020001]

/-! ### Who may write (R28, R455, R456) -/

/-- The plane that owns an index (R28): 0 management, 1 control, 2 data. -/
def ownerOf (idx : Nat) : Nat :=
  let h := idx / 256
  if h < 0x20 then 0
  else if h < 0x40 then 1
  else if h < 0x50 then 2
  else if h < 0x60 then 1
  else if h < 0x63 then 1
  else if h < 0x80 then 2
  else 0

/-- The bit of an interface in an enable (R457). -/
def ifaceBit (iface : Nat) : Nat :=
  if iface = 0x20 then 4 else if iface = 0x21 then 5 else iface - 0x10

/-- Aborts of an interface that is not admitted (R455, R456). -/
def admitCodes (s : State) (o : Origin) (idx : Nat) : List Nat :=
  if o.iface = 0 then [] else
  let p := ownerOf idx
  let m := if p = 0 then s.ob Ob.enableManagementEnable else if p = 1 then s.ob Ob.enableControlEnable
    else s.ob Ob.enableDataEnable
  (if bit m (ifaceBit o.iface) then [] else [0x00060002]) ++
  (if p = 0 && s.flag Ob.enableKeyStrap && !s.flag Ob.enableKeyAsserted then [0x00010005] else [])

/-! ### A channel's Value (R66, R67) -/

/-- Whether a sequencing object or a schedule entry drives a field output channel (R67). -/
def drivenElse (s : State) (n : Nat) : Bool :=
  (seqOutputs s).any (fun p => p.2 == n) ||
  (enabledEntries s).any (fun e => (s.ob (Ob.entryAction e) == 5 || s.ob (Ob.entryAction e) == 7) &&
    s.ob (Ob.entryActionTarget e) == n)

/-- Whether an active loop writes a channel. -/
def drivenByLoop (s : State) (n : Nat) : Bool := (activeLoops s).any (fun l => s.ob (Ob.loopOutputChannel l) == n)

/-- Aborts of a write of a channel's Value by the type of the channel (R66–R68). -/
def chanValueCodes (s : State) (n : Nat) : List Nat :=
  match chanType s n with
  | 0 => [0x00030002]
  | 2 => if s.inOperate && !drivenByLoop s n && !drivenElse s n then [] else [0x00030002]
  | 11 => []
  | _ => [0x00010003]

/-! ### The checks of one write (R52–R56) -/

/-- The check of R77 runs. -/
def checking (s : State) : Bool := s.check.isSome

/-- A write transfer is open on an object (R63). -/
def xferOpen (s : State) (idx sub : Nat) : Bool :=
  s.net.xfers.any (fun x => x.write && x.idx == idx && x.sub == sub)

/-- Indices whose accesses abort while the management cores restart (R82). -/
def mgmtRange (idx : Nat) : Bool :=
  let h := idx / 256
  (0x10 ≤ h && h < 0x20) || h == 0x80 || h == 0x90 || h == 0xA0 || h == 0xB0 || h == 0xF0

/-- Winter entry is under way (R432). -/
def winterRuns (s : State) : Bool := s.winter.stage == 1 || s.winter.stage == 2

/-- A secure erase has been accepted, and the restart follows (R475). -/
def eraseRuns (s : State) : Bool := s.sec.resetDue == some (2, false)

/-- Aborts of assignment and access, of who may write, and of the state of the module: what a write and the opening of a write
transfer meet alike (R45, R50, R55, R61, R82, R432, R475). -/
def gateCodes (s : State) (o : Origin) (idx : Nat) (r : Row) : List Nat :=
  let access : List Nat := match r.acc with
    | .const | .ro => [0x00010003]
    | .rwp => (if s.inPreop then [] else [0x00030001]) ++ (if checking s then [0x00030005] else [])
    | .chanValue => chanValueCodes s (idx - 0x2000)
    | _ => []
  access ++ admitCodes s o idx ++ (if s.mgmtDown then [0x00030003] else []) ++ (if winterRuns s || eraseRuns s then [0x00030005] else [])

/-- Aborts every write meets, whatever the object does: assignment, access, admission, state, size, type and range. -/
def baseCodes (s : State) (w : WReq) (byXfer : Bool) : List Nat :=
  match findBlock w.idx with
  | none => [0x00010001]
  | some _ =>
    if w.sub = 0 then [0x00010003] else
    match findRow w.idx w.sub with
    | none => [0x00010001]
    | some r =>
      let scalar := r.ty != .str && r.ty != .domain && w.data.length == tySize r.ty
      gateCodes s w.who.o w.idx r ++
      (if !byXfer && xferOpen s w.idx w.sub then [0x00030004] else []) ++
      (if w.ty = tyCode r.ty then [] else [0x00020005]) ++ sizeCodes r w.data ++
      (if scalar then rangeCodes r.ty r.chk (ofBytesLE w.data) else [])

/-- The place of a class in the order of R55. -/
def classRank (c : Nat) : Nat :=
  match c / 2 ^ 16 with
  | 1 => 0 | 6 => 1 | 3 => 2 | 2 => 3 | 5 => 4 | 4 => 5 | _ => 6

/-- The abort reported among those met (R55): first class, then lowest detail. -/
def pickAbort : List Nat → Option Nat
  | [] => none
  | c :: cs =>
    match pickAbort cs with
    | none => some c
    | some d => if classRank c * 2 ^ 16 + c % 2 ^ 16 ≤ classRank d * 2 ^ 16 + d % 2 ^ 16 then some c else some d

/-- Keeps the most recent abort (R56). -/
def noteAbort (s : State) (iface idx sub code : Nat) : State :=
  (((s.put Ob.abortLastAbortCode code).put Ob.abortLastAbortObject (idx * 2 ^ 16 + sub * 2 ^ 8)).put
    Ob.abortLastAbortInterface iface).inc Ob.abortAbortCount

/-- What became of a write: not served (R75), discarded with no answer (R461), waiting, aborted, applied, or accepted with its
answer to come (R77). -/
inductive WRes where
  | unserved | dropped | waits | aborted (code : Nat) | done | later
  deriving DecidableEq, Repr

/-- Whether the bytes of a write came by a write transfer. -/
def viaXfer (w : WReq) : Bool := w.stated.isSome

/-- The record of a write that aborts, with the object's present value; of a segmented one NEW is the digest of the bytes received, NEWLEN
the stated length (R459). -/
def abortRec (s : State) (w : WReq) (old : List Byte) (code : Nat) : JRec :=
  let r := writeRec s w.who.o 2 w.ty w.idx w.sub code old w.data
  match w.stated with
  | none => r
  | some n => { r with flags := setBit r.flags 1 true, newLen := n, newV := (sha256 w.data).take 24 }

/-- A write aborts (R53): the abort objects and its record, nothing else. -/
def abortWrite (s : State) (w : WReq) (old : List Byte) (code : Nat) : State :=
  stage (noteAbort s w.who.o.iface w.idx w.sub code) (abortRec s w old code)

/-- A single write as it is at its arrival (R63): one that meets an open write transfer of its object aborts, though it has to wait. -/
def arrived (s : State) (w : WReq) : WReq :=
  if viaXfer w || !xferOpen s w.idx w.sub then w else { w with met := w.met ++ [0x00030004] }

/-- A write waits behind those that wait (R58, R461). -/
def putWaiting (s : State) (w : WReq) : State := { s with storeQ := s.storeQ ++ [arrived s w] }

/-- A write's record keeps the place that the write found (R461): where the module actions of its effect have taken every place, the last of
them is the one that is not recorded (DEDUCED, log entry 109). -/
def yieldPlace (s : State) : State :=
  let g := s.staging
  let acts (r : JRec) : Bool := !r.event && r.kind == 4
  if placesUsed s < 768 ∨ g.staged.any acts = false then s
  else
    let i := g.staged.length - 1 - g.staged.reverse.findIdx acts
    { s with staging := { g with
      staged := g.staged.eraseIdx i, lostActions := g.lostActions + 1, lossAhead := if g.lostActions = 0 then i else min g.lossAhead i } }

/-- The record of a write that was applied, with the value before it, behind the events the write raised. -/
def recordWrite (s : State) (w : WReq) (old : List Byte) : State :=
  let s := yieldPlace (flush s)
  stage s (writeRec s w.who.o 1 w.ty w.idx w.sub 0 old w.data)

/-- Whether the constraints of R52 bear on a write made now. -/
def constrained (s : State) : Bool := s.inOperate || s.inSafe || checking s

/-- All the aborts a write meets: those of every write, those of its object, those its transfer met, and a constraint it would break. The
constraint is tried where nothing that R55 ranks before it stands against the write, which has no value to try it with otherwise (R52,
R55). -/
def writeCodes (s : State) (w : WReq) (extra : List Nat) (eff : State → State) : List Nat :=
  let base := baseCodes s w (viaXfer w) ++ w.met ++ extra
  base ++ (if base.all (fun c => decide (classRank 0x00050006 ≤ classRank c)) && constrained s && breaksNew s (eff s)
    then [0x00050006] else [])

/-- Takes a write into the store: served only while the module runs; refused a place, waiting, aborted, or applied with its
record (R53, R58, R75, R461). `old` is the present value of its object, for the record. -/
def submit (s : State) (w : WReq) (old : List Byte) (extra : List Nat) (eff : State → State) : State × WRes :=
  if s.phase ≠ .run then (s, .unserved)
  else if w.who.o.iface ≠ 0 && decide (704 ≤ placesUsed s) then (s.inc Ob.worustRequestsDropped, .dropped)
  else if !s.storeQ.isEmpty || (w.who.o.iface = 0 && decide (768 ≤ placesUsed s)) then
    (putWaiting s w, .waits)
  else
    match pickAbort (writeCodes s w extra eff) with
    | some c => (abortWrite s w old c, .aborted c)
    | none => (recordWrite (eff s) w old, .done)

/-- A write request from a sender with no answer over Worust (the caller of the row gives the answer's path). -/
def reqOf (x : Sender) (idx sub : Nat) (ty : Ty) (data : List Byte) : WReq :=
  ⟨⟨originOf x, x.port.toNat, 0, false⟩, false, idx, sub, tyCode ty, data, none, []⟩

end Sys2Proof.Machine
end

