-- ==== Sys2Proof/Machine/Loops.lean ====
section
/-! DEFINITION. The loop engines: starts (R78), contexts and pinning (R37, R207, R209), dispatch (R212, R213, R218), commit (R214, R228), tests
and traces (R260–R267), engines leaving and entering service (R215, R268, R269, R481). -/
namespace Sys2Proof.Machine

/-! ### Contexts and starts -/

/-- What is applied to the output a loop writes, in units of its channel (R78): for a field output what the field die applies. -/
def appliedOut (s : State) (n : Nat) : Nat :=
  let out := s.ob (Ob.loopOutputChannel n)
  if out ≥ 4096 then 0
  else
    let b := chanBind s out
    let fr := appliedFrame s
    let i := bindInst b
    let raw : Option Nat :=
      if chanType s out ≠ 2 ∨ bindPoint b ≠ 0 then none else
      match bindClass b with
      | 0x01 => (fr.io[i]?).map (fun v => if v then 0x3F800000 else 0)
      | 0x03 => fr.ao[i]?
      | 0x05 => fr.fn[i]?
      | _ => none
    match raw with
    | some r => scaled s out (FX.ofBits32 r)
    | none => s.ob (Ob.chanValue out)

/-- The start of a loop (R78, R250): the y history at the output applied, the x history 0; profile at the feedback, supervision cleared.
The y history is that of the last stage, whose output the cascade's is; the stages before it start at 0 (log entry 86). No rule resets
the region in force, DWELL and the last scheduling value (R242): they stay, but that no region has been chosen since. Of a write of Active
between two boundaries, LASTTIME is the WC of the last boundary evaluated (DESIGN CHOICE, log entry 111). -/
def startCtx (s : State) (n : Nat) (old : LoopCtx) : LoopCtx :=
  let up := appliedOut s n
  let c := { restCtx old.bank with
    atStart := true, region := old.region, schedVal := old.schedVal, dwell := old.dwell, schedHeld := old.schedHeld
    dwelling := old.dwelling }
  let y := (quant s (FX.ofBits32 up) (stageExp s n (lastStage s n))).1
  let fb := readChan s (s.ob (Ob.loopFeedbackChannel n))
  let c := putProfile { c with uprev := up, lastTime := s.tickWc, lastR := fb.v } fb.v FX.zero FX.zero
  { c with hist := returnHist s n c.hist y }

/-- The context a loop starts from: its own, or a fresh one where its context or bank was lost (R484), and the state without it. -/
def contextFor (s : State) (l : LoopSt) : LoopSt × State :=
  if l.errHold then (newLoop l.loop (restCtx (openBank s l.loop)) true, s.tickFree) else (l, s)

/-- Starts one active loop for OPERATE (R78). No feedforward term is held yet; the other bits of Status show the last sample still. -/
def startLoop (s : State) (n : Nat) : State :=
  match loopOf s n with
  | none => s
  | some l =>
    let (l, s) := contextFor s l
    let s := setLoop s { l with ctx := startCtx s n l.ctx, odd := false, errHold := false, profRestart := false }
    (s.putBit (Ob.loopStatus n) 11 false).put (Ob.supStatusSupervStatus (n / 64) (n % 64)) 0

/-- Every active loop starts at entry to OPERATE (R78). -/
def startLoops (s : State) : State := repin (s.loops.foldl (fun s l => startLoop s l.loop) s)

/-- A loop takes a context and, in OPERATE, starts at once (R207, R209). -/
def activateLoop (s : State) (n : Nat) : State :=
  let s := changeContext raise s n true
  let s := if s.inOperate then startLoop s n else s
  if unpinned s n then raise s 6 n else s

/-- Active written 1 (R207, R209): an active loop is left as it is; one that waits for its last commit takes a context anew after it. -/
def loopActivateEff (n : Nat) (s : State) : State :=
  match loopOf s n with
  | some l => if l.leaving then setLoop s { l with again := true } else s.put (Ob.loopActive n) 1
  | none => activateLoop s n

def loopActivateCodes (s : State) (n : Nat) : List Nat :=
  if (loopOf s n).isNone && 512 ≤ s.loops.length then [0x00040001] else []

/-- The context goes back to the pool. -/
def dropLoop (s : State) (n : Nat) : State := changeContext raise s n false

/-- A leaving loop's last sample is gone: the write of Active 0 takes effect, and one of 1 that followed it. -/
def leaveNow (s : State) (l : LoopSt) : State :=
  let s := dropLoop s l.loop
  if l.again then activateLoop s l.loop else s

/-- Active written 0 (R209): at once, or once the sample in service has committed. A test on the loop ends (R261). -/
def loopDeactivateEff (n : Nat) (s : State) : State :=
  let s := { s with queue := s.queue.filter (fun q => q.loop != n) }
  let s := match testOn s n with | some d => endTest 5 s d | none => s
  match loopOf s n with
  | some l =>
    if s.service.any (fun v => v.loop == n) then setLoop s { l with leaving := true, again := false } else dropLoop s n
  | none => s.put (Ob.loopActive n) 0

/-- CoeffApply and RegionApply mark loads; a mark made while a sample is in service outlasts its commit (R210, R223, R243). -/
def coeffApplyEff (n : Nat) (s : State) : State :=
  match loopOf s n with
  | some l => setLoop s { l with coeffPend := true, coeffAgain := s.service.any (fun v => v.loop == n) }
  | none => s

def regionApplyEff (n v : Nat) (s : State) : State :=
  let m := if v = 0xFF then 0xFE else 2 ^ v
  match loopOf s n with
  | some l =>
    let busy := s.service.any (fun x => x.loop == n)
    setLoop s { l with pendMask := l.pendMask ||| m, maskAgain := if busy then l.maskAgain ||| m else 0 }
  | none => s

/-- ProfileEnable written (R239). -/
def profileEnableEff (n : Nat) (on : Bool) (s : State) : State :=
  let s := s.putFlag (Ob.profProfileEnable n) on
  match loopOf s n with
  | some l => setLoop s { l with profRestart := on, profAgain := on && s.service.any (fun x => x.loop == n) }
  | none => s

/-! ### Status as reads show it (R232, R241, R248) -/

def loopRunning (s : State) (n : Nat) : Bool := isActive s n && s.inOperate && triggerEntry s n != 0xFFFF

/-- The sample of a loop in service. -/
def inService (s : State) (n : Nat) : Option InService := s.service.find? (fun v => v.loop == n)

/-- The Mode in force (R210, R229): one written while a sample is in service acts after it. -/
def modeInForce (s : State) (l : LoopSt) : Nat :=
  match inService s l.loop with
  | some v => v.res.mode
  | none => modeOf s l

def stretched (s : State) (n : Nat) : Bool := decide (2 ≤ s.ob Ob.thermThrottleLevel) && !s.flag (Ob.loopCritical n)

def loopStatusRead (s : State) (n : Nat) : Nat :=
  let st := s.ob (Ob.loopStatus n)
  let l := loopOf s n
  let st := setBit st 0 l.isSome
  let st := setBit st 1 (loopRunning s n)
  let st := setBit st 2 (s.inSafe || (match l with | some l => modeInForce s l == 2 | none => s.ob (Ob.loopMode n) == 2))
  let st := setBit st 8 (l.isSome && stretched s n)
  let st := setBit st 9 (unpinned s n)
  setBit st 10 (match l with | some l => l.coeffPend | none => false)

def regionStatusRead (s : State) (n : Nat) : Nat :=
  let st := setBit (s.ob (Ob.profRegionStatus n)) 2 (s.ob (Ob.profRegionForce n) != 0xFF)
  setBit st 3 (match loopOf s n with | some l => l.pendMask != 0 | none => false)

/-- ProfileStatus (R241): ENABLED and TGTINVALID follow the object and the channel they name. -/
def profileStatusRead (s : State) (n : Nat) : Nat :=
  let sp := s.ob (Ob.loopSetpointChannel n)
  let st := setBit (s.ob (Ob.profProfileStatus n)) 0 (s.flag (Ob.profProfileEnable n))
  setBit st 3 (decide (sp < 4096) && !chanValid s sp)

/-- A 24-bit mantissa in 3 B. -/
def mantBytes (z : Int) : List Byte := bytesLE 3 (ofSigned 24 z)

/-- A loop's context as 256 B (R211, R235, R242, R250). -/
def contextBytes (s : State) (l : LoopSt) : List Byte :=
    let n := l.loop
    let c := l.ctx
    let b (k v : Nat) : List Byte := bytesLE k v
    let o (k : Nat) : List Byte := bytesLE 4 (s.ob k)
    b 2 n ++ b 1 (modeOf s l) ++ b 1 c.region ++
    ([Ob.loopFeedbackChannel n, Ob.loopSetpointChannel n, Ob.loopOutputChannel n, Ob.loopFeedforwardChannel0 n,
      Ob.loopFeedforwardChannel1 n, Ob.loopManualChannel n].flatMap (fun k => b 2 (s.ob k))) ++
    b 1 (stageCount s n * 16 + s.ob (Ob.loopStageTypes n) % 16) ++
    b 1 (ofBool (s.flag (Ob.loopCritical n)) * 128 + ofBool (s.ob (Ob.loopAction n) == 1) * 64 + ofBool c.first * 32) ++
    ((List.range 4).flatMap (fun k => b 1 (s.ob (Ob.loopStageExponent n k)))) ++ b 2 0 ++
    (c.hist.flatMap (fun h => [h.x1, h.x2, h.x3, h.y1, h.y2, h.y3].flatMap mantBytes)) ++
    b 4 c.ppHi ++ b 4 c.ppLo ++ b 4 c.pvel ++ b 4 c.pacc ++ b 4 c.uprev ++
    (c.ffHold.flatMap (fun z => b 2 (ofSigned 16 z))) ++ b 8 c.lastTime ++
    ([Ob.loopInputGain n, Ob.loopDeadband n, Ob.loopOutLow n, Ob.loopOutHigh n, Ob.loopOutRate n, Ob.loopKff0 n, Ob.loopKff1 n,
      Ob.loopFfRef0 n, Ob.loopFfRef1 n, Ob.loopBias n].flatMap o) ++
    b 8 c.fbTime ++ b 4 c.frzRef ++ b 4 c.frzSum ++ b 4 c.frzSq ++ b 2 c.frzCnt ++ b 2 c.staleCnt ++ b 2 c.rangeCnt ++
    b 2 c.clearCnt ++ b 1 c.sfault ++ b 1 0 ++ b 2 c.faults ++
    b 4 c.schedVal ++ b 2 c.dwell ++
    b 1 (ofBool c.schedHeld * 8 + ofBool (s.ob (Ob.profRegionForce n) != 0xFF) * 4 + ofBool c.dwelling * 2 + ofBool c.chosen) ++
    b 1 l.pendMask ++ o (Ob.profSwitchCount n) ++ b 4 0 ++
    o (Ob.loopSatCount n) ++ o (Ob.loopLimitCount n) ++ o (Ob.loopSampleCount n) ++ b 4 0 ++ List.replicate 24 0

/-- ContextImage: the context as it stands between two samples (R211), which a write meanwhile does not change (R210); zero bytes for a
loop without one. -/
def contextImage (s : State) (n : Nat) : List Byte :=
  match inService s n, loopOf s n with
  | some v, _ => v.image
  | none, some l => contextBytes s l
  | none, none => List.replicate 256 0

/-! ### Dispatch (R109, R212, R213, R218) -/

/-- A trigger of a loop by an entry's action, fired together with samples of the channels given: the loop's sample waits for those of its
own channels (R109). -/
def releaseTrigger (s : State) (a : LateAction) (n : Nat) (samples : List Nat) : State :=
  match loopOf s n with
  | none => s
  | some l =>
    if stretched s n && l.odd then setLoop s { l with odd := false }
    else
      let s := setLoop s { l with odd := stretched s n }
      if s.queue.any (fun q => q.loop == n) || s.service.any (fun v => v.loop == n) then
        raise (s.inc (Ob.entryLateCount a.entry)) 237 a.entry
      else if l.leaving then s
      else { s with queue := s.queue ++ [⟨n, a.fired, a.tick, s.osc, false, (loopReads s n).filter (fun c => samples.contains c)⟩] }

/-- The channels of the sample actions among those given that fired at the boundary of that number (R109). -/
def samplesAt (s : State) (l : List LateAction) (tick : Nat) : List Nat :=
  (l.filter (fun a => a.tick == tick && s.ob (Ob.entryAction a.entry) == 1)).map (fun a => s.ob (Ob.entryActionTarget a.entry))

/-- The waiting samples go on waiting for the channels given only; one that waits for none any more is released now. -/
def keepAwaited (s : State) (chans : Nat → List Nat) : State :=
  { s with queue := s.queue.map (fun q =>
      if q.awaits.isEmpty then q
      else
        let rest := q.awaits.filter (fun c => (chans q.number).contains c)
        { q with awaits := rest, released := if rest.isEmpty then s.osc else q.released }) }

/-- The frame of a tick is in, or discarded: what still waits, waits for samples served later (R109). -/
def releaseAwaited (s : State) : State := keepAwaited s (samplesAt s s.late)

/-- Whether sample a is pulled before b (R212, R215). -/
def before (s : State) (a b : Queued) : Bool :=
  let ca := s.flag (Ob.loopCritical a.loop)
  let cb := s.flag (Ob.loopCritical b.loop)
  if ca != cb then ca
  else if a.redo != b.redo then a.redo
  else if a.released ≠ b.released then decide (a.released < b.released)
  else decide (a.loop ≤ b.loop)

/-- The sample an engine pulls next. -/
def nextSample (s : State) : Option Queued :=
  (s.queue.filter (fun q => q.awaits.isEmpty)).foldl (fun best q =>
    match best with
    | none => some q
    | some b => if before s b q then some b else some q) none

def engineServes (s : State) (e : Nat) : Bool :=
  s.ob (Ob.engStateEngineState e) == 0 || s.ob (Ob.engStateEngineState e) == 3

/-- A sample as an engine pulls it: all it reads is read now (R210, R214); the channels the cache lacks are still to be fetched, which
delays its commit (R36). -/
def pulledSample (s : State) (l : LoopSt) (e : Nat) (q : Queued) : InService :=
  { loop := q.loop, engine := e, tick := q.tick, released := q.released, pulled := s.osc
    missing := (loopReads s q.loop).filter (fun c => !s.cache.contains c)
    res := computeSample s l q.tick, test := (testOn s q.loop).map Fin.val, image := contextBytes s l }

/-- An engine pulls a sample. -/
def samplePull (s : State) (e : Fin 18) (off : Fin 10) : State :=
  let t := reach s off
  if t.inOperate && engineServes t e && decide ((t.service.filter (fun v => v.engine == e.val)).length < 12) then
    let s := t
    match nextSample s with
    | none => s
    | some q =>
      match loopOf s q.loop with
      | none => { s with queue := s.queue.filter (fun x => x.loop != q.loop) }
      | some l =>
        let v := pulledSample s l e q
        let held := (loopReads s q.loop).filter (fun c => s.cache.contains c)
        let s := { s.tickFree with queue := s.queue.filter (fun x => x.loop != q.loop), service := s.service ++ [v] }
        held.foldl touchChan s
  else s

/-- A channel that the cache lacks arrives from DRAM, whoever reads it, and the fetch is counted (R36, R493); the samples that waited for it
go on. -/
def channelFetch (s : State) (c : Fin 4096) : State :=
  if s.phase = .run ∧ (!s.cache.contains c.val || s.service.any (fun v => v.missing.contains c.val)) = true then
    let s := touchChan (s.inc Ob.faultChannelCacheMisses) c
    { s with service := s.service.map (fun (v : InService) => { v with missing := v.missing.filter (fun m => m != c.val) }) }
  else s

/-! ### Engines (R268, R269, R481) -/

/-- The middle of a sorted list: the mean of the two middle values where their number is even. -/
def medianFX (l : List FX) : FX :=
  let l := sortBy FX.le l
  let n := l.length
  if n = 0 then FX.zero
  else if n % 2 = 1 then l.getD (n / 2) FX.zero
  else FX.div (FX.add (l.getD (n / 2 - 1) FX.zero) (l.getD (n / 2) FX.zero)) (FX.ofNat 2)

/-- The engines in one of the states given. -/
def enginesIn (s : State) (states : List Nat) : List Nat :=
  (List.range 18).filter (fun e => states.contains (s.ob (Ob.engStateEngineState e)))

/-- The latest block medians of the engines in service that have completed a block, and their median M (R268). -/
def poolMedian (s : State) : FX :=
  medianFX (((enginesIn s [0, 3]).filter (fun e => s.engines[Fin.ofNat 18 e].judged)).map (fun e => s.f (Ob.engMedianEngineMedian e)))

/-- EnginesInService, HealthyReserves and PoolMedian follow the engines. -/
def countEngines (s : State) : State :=
  let s := (s.put Ob.engEnginesInService (enginesIn s [0, 3]).length).put Ob.engHealthyReserves (enginesIn s [1]).length
  s.putF Ob.engPoolMedian (poolMedian s)

/-- Whether an engine's block median exceeds 2 × M (R269). -/
def slowEngine (s : State) (e : Nat) : Bool :=
  s.engines[Fin.ofNat 18 e].judged && FX.gt (s.f (Ob.engMedianEngineMedian e)) (FX.mul (FX.ofNat 2) (s.f Ob.engPoolMedian))

/-- Slow engines leave service as long as a healthy reserve takes their place, the lowest-numbered first (R269). -/
def retireSlow : Nat → State → State
  | 0, s => s
  | fuel + 1, s =>
    match (enginesIn s [0, 3]).find? (slowEngine s), (enginesIn s [1]).head? with
    | some e, some r =>
      let s := countEngines ((s.put (Ob.engStateEngineState e) 2).put (Ob.engStateEngineState r) 0)
      retireSlow fuel (raiseAll (s.inc Ob.engRetireCount) [(15, e), (16, r)])
    | _, _ => s

/-- A block of 1,000 samples ends: the block median, M, and the retirement of slow engines (R269). -/
def engineBlock (s : State) (e : Fin 18) : State :=
  let s := s.putF (Ob.engMedianEngineMedian e) (medianFX s.engines[e].block)
  retireSlow 18 (countEngines { s with engines := s.engines.set e ⟨[], true⟩ })

/-- A commit counts for its engine (R268). -/
def engineSample (s : State) (e : Nat) (stages serviceNs missNs : Nat) : State :=
  let k : Fin 18 := Fin.ofNat 18 e
  let rho := FX.div (FX.ofNat (serviceNs - missNs)) (FX.ofNat (800 + 200 * stages))
  let s := s.inc (Ob.engSamplesEngineSamples e)
  let x := s.engines[k]
  let s := { s with engines := s.engines.set k { x with block := x.block ++ [rho] } }
  if 1000 ≤ x.block.length + 1 then engineBlock s k else s

/-- An engine fails (R215, R269, R481, R487): each sample it held is redone from the context as it stands. -/
def engineFails (s : State) (e : Fin 18) : State :=
  let st := s.ob (Ob.engStateEngineState e)
  if st = 4 then s else
  let gone : List InService := s.service.filter (fun v => v.engine == e.val)
  let redo : List Queued := gone.map (fun v => ⟨v.loop, v.tick, 0, v.released, true, []⟩)
  let s : State := { s with
    service := s.service.filter (fun v => v.engine != e.val), queue := redo ++ s.queue
    loops := s.loops.map (fun l => if gone.any (fun v => v.loop == l.loop) then sampleGone l else l) }
  let s := maskedFault (((s.put (Ob.engStateEngineState e) 4).inc Ob.engFailCount).inc Ob.faultLoopEngineFaults) 0 0
  let serving := st = 0 ∨ st = 3
  let taken : Option (Nat × Nat) :=
    if serving then
      match (enginesIn s [1]).head? with
      | some r => some (r, 0)
      | none => ((enginesIn s [2]).head?).map (fun r => (r, 3))
    else none
  let s := match taken with | some r => s.put (Ob.engStateEngineState r.1) r.2 | none => s
  let s := countEngines s
  let n := s.ob Ob.engEnginesInService
  let s := raiseAll s (gone.map (fun v => (5, v.loop)) ++ (match taken with | some r => [(16, r.1)] | none => []) ++
    (if serving ∧ taken.isNone then [(17, n)] else []))
  let s := retireSlow 18 s
  if serving ∧ n = 0 then beyondMasking s 0 else s

/-- The load of R231. -/
def loopLoad (s : State) : FX :=
  let sum := (activeLoops s).foldl (fun acc n =>
    if !loopRunning s n then acc else
    let e := triggerEntry s n
    let per := FX.ofNat (s.ob (Ob.entryPeriod e))
    let d := s.ob (Ob.entryDomain e)
    let us : Option FX :=
      if d = 9 then some per
      else if d = 8 then
        (if mpGone s || s.mp.period = 0 then none else some (FX.div (FX.mul per (FX.ofNat s.mp.period)) (FX.ofNat 1024)))
      else
        let r := (s.f (Ob.gcRate d)).abs
        if r.isZero then none else some (FX.mul (FX.div per r) (FX.ofNat 1000000))
    match us with
    | none => acc
    | some p =>
      let p := if stretched s n then FX.mul (FX.ofNat 2) p else p
      if p.isZero then acc else FX.add acc (FX.div (FX.ratio (1 + stageCount s n) 10) p)) FX.zero
  let k := s.ob Ob.engEnginesInService
  if sum.isZero then FX.zero else FX.div sum (FX.ofNat k)

/-- The load of R231 from here on, where it has changed; what lies more than 1 s back goes. -/
def noteLoad (s : State) : State :=
  let x := (loopLoad s).toBits32
  if x = (s.loads.head?.map (·.2)).getD 0 then s
  else
    let young := s.loads.takeWhile (fun l => decide (s.osc < l.1 + 1000000))
    { s with loads := (s.osc, x) :: (young ++ (s.loads.drop young.length).take 1) }

/-- The loads weighted with the µs for which each held, from `since` to `upTo`. -/
def loadTime (since : Nat) : Nat → List (Nat × Nat) → FX
  | _, [] => FX.zero
  | upTo, (t, x) :: rest =>
    let w := if upTo ≤ max t since then FX.zero else FX.mul (FX.ofBits32 x) (FX.ofNat (upTo - max t since))
    if t ≤ since then w else FX.add w (loadTime since t rest)

/-- LoopLoad (R269): the load of R231 over the last 1 s. It is taken at tick boundaries and holds between them (DESIGN CHOICE, log entry
110). -/
def loadOver (s : State) : FX := FX.div (loadTime (s.osc - 1000000) s.osc s.loads) (FX.ofNat 1000000)

/-- LoopLoad is formed each second (R269). -/
def loadCheck (s : State) : State :=
  let x := loadOver s
  let s := retireSlow 18 ((s.putF Ob.engLoopLoad x).ran .loopLoad 1000000)
  if FX.gt x FX.one then
    let p := match x with | .inf _ => 65535 | x => min 65535 (FX.mul x (FX.ofNat 1000)).floor.toNat
    raise s 18 p
  else s

/-! ### Commit (R214, R228, R258, R263, R267) -/

/-- The nodes of a loop reach the channels that publish them (R65, R258). -/
def writeNodes (s : State) (n : Nat) (r : SampleRes) : State :=
  (chansOfType s 3).foldl (fun s c =>
    if nodeLoop s c = some n then
      feed s c (r.nodes.getD (bindPoint (chanBind s c) % 16) 0) (1 + 64 * ofBool (bit r.ctx.sfault 7)) s.wc
    else s) s

/-- Phase of a test at sample `i`: 1 pre, 2 injecting, 3 post, 4 done. -/
def testPhase (s : State) (d : Fin 32) (i : Nat) : Nat :=
  let a := s.ob (Ob.injPreSamples d)
  let b := a + s.ob (Ob.injLength d)
  if i < a then 1 else if i < b then 2 else if i < b + s.ob (Ob.injPostSamples d) then 3 else 4

/-- The capture record of a sample (R263). -/
def captureRec (s : State) (d : Fin 32) (tick : Nat) (r : SampleRes) : List Byte :=
  let m := s.ob (Ob.injCaptureNodes d)
  let node (k : Nat) : Nat := r.nodes.getD k 0
  let vals := [node 4, node 5, node 0, r.inj, node 1, node 2, node 3]
  bytesLE 4 s.inj[d].idx ++ bytesLE 4 tick ++
    (((List.range 7).zip vals).filter (fun p => bit m p.1)).flatMap (fun p => bytesLE 4 p.2)

/-- A running test after a commit of its loop (R256, R260, R261, R263): a fault that enters ends it; a sample pulled before its start is none
of its samples. -/
def testCommit (s : State) (v : InService) : State :=
  let n := v.loop
  let r := v.res
  match testOn s n with
  | none => s
  | some d =>
    if r.faultEntered then endTest 4 s d
    else if v.test ≠ some d.val then s
    else if r.mode ≠ 0 then endTest 5 s d
    else
      let i := s.inj[d]
      let recs := if i.records.length < i.clipAt then captureRec s d v.tick r :: i.records else i.records
      let i' : InjSt := { i with idx := i.idx + 1, prbs := r.prbs, prbsBit := r.prbsBit, phase := r.phase, records := recs }
      let s := { s with inj := s.inj.set d i' }
      let s := s.put (Ob.injCapturedRecords d) recs.length
      let ph := testPhase s d (i.idx + 1)
      let s := s.put (Ob.injState d) ph
      if ph = 4 then
        raise (s.put (Ob.injEndCause d) 1) 12 (n + d.val * 2 ^ 16 + 2 ^ 24)
      else s

/-- A trace record (R267). -/
def traceRec (s : State) (n tick : Nat) (r : SampleRes) : List Byte :=
  let node (k : Nat) : List Byte := bytesLE 4 (r.nodes.getD k 0)
  bytesLE 8 tick ++ node 0 ++ r.stageOut.flatMap (bytesLE 4) ++ node 2 ++ node 3 ++ node 4 ++ bytesLE 4 r.ctx.pvel ++
  bytesLE 4 r.ctx.pacc ++ node 5 ++ bytesLE 1 r.ctx.region ++ bytesLE 1 r.satMask ++ bytesLE 2 (loopStatusRead s n) ++
  bytesLE 4 r.inj ++ bytesLE 4 (s.ob (Ob.loopSampleCount n))

/-- The trace slot of a loop records, and freezes once its records after the trigger are made (R265, R266). -/
def traceCommit (n tick : Nat) (r : SampleRes) (s : State) (t : Fin 8) : State :=
  let st := s.ob (Ob.traceState t)
  if s.ob (Ob.traceLoop t) ≠ n ∨ (st ≠ 1 ∧ st ≠ 2) then s
  else
    let x := s.traces[t]
    if x.skip + 1 < s.ob (Ob.traceDecimation t) then { s with traces := s.traces.set t { x with skip := x.skip + 1 } }
    else
      let ring := (traceRec s n tick r :: x.ring).take 1024
      let s := s.put (Ob.traceRecordCount t) ring.length
      let left := if st = 2 then x.left - 1 else x.left
      let s := { s with traces := s.traces.set t { x with ring, skip := 0, left } }
      if st = 2 ∧ left = 0 then s.put (Ob.traceState t) 3 else s

/-- Event 0 at the first saturating sample after at least 1 s without one (R228). -/
def satEvent (s : State) (n : Nat) (saturated : Bool) : State :=
  if !saturated then s
  else
    let first := match assoc s.satTimes n with
      | some t => decide (t + 1000000 ≤ s.osc)
      | none => true
    let s := { s with satTimes := assocSet s.satTimes n s.osc }
    if first then raise s 0 n else s

/-- What a commit writes to the loop's objects. -/
def commitObjects (s : State) (n : Nat) (v : InService) (serviceNs : Nat) (r : SampleRes) : State :=
  let s := s.puts [(Ob.loopStatus n, r.status), (Ob.loopOutputValue n, r.out), (Ob.loopErrorValue n, r.nodes.getD 0 0),
    (Ob.loopCompOutput n, r.compOut), (Ob.loopLastSampleTime n, v.tick),
    (Ob.loopServiceTime n, (FX.ratio serviceNs 1000000000).toBits32), (Ob.profRegionInForce n, r.ctx.region),
    (Ob.profRegionStatus n, r.regStatus), (Ob.profProfileStatus n, r.profStatus),
    (Ob.supStatusSupervStatus (n / 64) (n % 64), r.ctx.sfault), (Ob.profProfilePosition n, r.profPos),
    (Ob.profProfileVelocity n, r.ctx.pvel), (Ob.profProfileAccel n, r.ctx.pacc)]
  let s := if bit r.status 3 then s.inc (Ob.loopSatCount n) else s
  let s := if r.limited then s.inc (Ob.loopLimitCount n) else s
  let s := if r.switched then s.inc (Ob.profSwitchCount n) else s
  s.inc (Ob.loopSampleCount n)

/-- A sample commits as one update. -/
def commitSample (s : State) (v : InService) (l : LoopSt) (serviceNs missNs : Nat) : State :=
  let n := v.loop
  let r := v.res
  let s := { s with service := s.service.filter (fun x => x.loop != n) }
  let moved := substitutes s n != (bits r.ctx.sfault 6 5 == 3)
  let s := setLoop s { l with
    ctx := r.ctx, coeffPend := l.coeffAgain, coeffAgain := false, pendMask := l.maskAgain, maskAgain := 0
    profRestart := l.profAgain, profAgain := false }
  let s := if moved then repin s else s
  let s := commitObjects s n v serviceNs r
  let out := s.ob (Ob.loopOutputChannel n)
  let s := if r.writeOut then writeChan s out r.out (setBit (s.ob (Ob.chanStatus out)) 0 true) s.wc else s
  let s := writeNodes s n r
  let s := testCommit s v
  let s := (List.finRange 8).foldl (traceCommit n v.tick r) s
  let s := raiseAll (satEvent s n (bit r.status 3)) r.events
  let s := engineSample s v.engine (stageCount s n) serviceNs missNs
  if l.leaving then leaveNow s l else s

/-- The commit of a loop's sample in service, `off` µs after the boundary, once the channels it missed are in (R36). A commit more than 20 µs
after the pull, but for the cache-miss wait, is the failure of its engine: the buffer is discarded (R481). -/
def sampleCommit (s : State) (n : Fin 512) (serviceNs missNs : Nat) (off : Fin 10) : State :=
  let t := reach s off
  match inService t n.val, loopOf t n with
  | some v, some l =>
    if !t.inOperate || !v.missing.isEmpty then s
    else if 20000 < serviceNs - missNs then engineFails t (Fin.ofNat 18 v.engine)
    else commitSample t v l serviceNs missNs
  | _, _ => s

/-! ### Test commands (R260, R263, R264) -/

/-- Capture buffers no definition holds. -/
def freeBuffers (s : State) : List Nat :=
  (List.range 16).filter (fun b => (List.range 32).all (fun d => s.ob (Ob.injBuffer d) != b))

/-- RecordSize of a definition. -/
def recordSize (s : State) (d : Nat) : Nat :=
  8 + 4 * ((List.range 7).filter (fun k => bit (s.ob (Ob.injCaptureNodes d)) k)).length

def injBusy (s : State) (d : Nat) : Bool := decide (1 ≤ s.ob (Ob.injState d) ∧ s.ob (Ob.injState d) ≤ 3)

def injCodes (s : State) (d : Fin 32) (v : Nat) : List Nat :=
  if v = 1 then
    let n := s.ob (Ob.injLoop d)
    (if s.inOperate && decide (n < 512) && isActive s n && (loopOf s n).any (fun l => modeOf s l == 0) then [] else [0x00030002]) ++
    (if (List.range 32).any (fun e => e != d.val && injBusy s e && s.ob (Ob.injLoop e) == n) ||
        (s.ob (Ob.injSignal d) == 2 && FX.lt (s.f (Ob.injSweepEnd d)) (s.f (Ob.injSweepStart d))) then [0x00050006] else []) ++
    (if (freeBuffers s).isEmpty && s.ob (Ob.injBuffer d) ≥ 16 then [0x00040004] else [])
  else if v = 3 ∧ injBusy s d then [0x00030002]
  else []

def injStart (d : Fin 32) (s : State) : State :=
  let n := s.ob (Ob.injLoop d)
  let s := s.put (Ob.injBuffer d) 0xFF
  let size := recordSize s d
  let cap := 4194304 / size
  let total := s.ob (Ob.injPreSamples d) + s.ob (Ob.injLength d) + s.ob (Ob.injPostSamples d)
  let clip := decide (4194304 < total * size)
  let s := s.puts [(Ob.injBuffer d, (freeBuffers s).headD 0xFF), (Ob.injCapturedRecords d, 0), (Ob.injRecordSize d, size),
    (Ob.injEndCause d, 0), (Ob.injClipped d, ofBool clip), (Ob.injState d, testPhase s d 0)]
  let s := { s with
    inj := s.inj.set d ⟨0, 2 ^ s.ob (Ob.injPrbsOrder d) - 1, 0, FX.zero, cap, []⟩
    service := s.service.map (fun v => if v.loop = n then { v with test := none } else v) }
  raiseAll s ([(11, n + d.val * 2 ^ 16)] ++ (if clip then [(13, n + d.val * 2 ^ 16)] else []))

def injEnd (d : Fin 32) (s : State) : State := if injBusy s d then endTest 2 s d else s

def injRelease (d : Fin 32) (s : State) : State :=
  { s.put (Ob.injBuffer d) 0xFF with inj := s.inj.set d { s.inj[d] with records := [] } }

def injEff (d : Fin 32) (v : Nat) (s : State) : State :=
  if v = 1 then injStart d s else if v = 2 then injEnd d s else injRelease d s

/-- The 4,096 B of the capture window (R264). -/
def captureBlock (s : State) : List Byte :=
  let d : Fin 32 := Fin.ofNat 32 (s.ob Ob.captureSelect)
  slice (s.inj[d].records.reverse.flatten) (s.ob Ob.captureOffset) 4096

/-! ### Trace commands (R265, R266) -/

/-- The ring empties and recording starts. -/
def traceRestart (t : Fin 8) (s : State) : State :=
  { (s.put (Ob.traceState t) 1).put (Ob.traceRecordCount t) 0 with traces := s.traces.set t ⟨[], 0, 0⟩ }

def traceEnableEff (t : Fin 8) (on : Bool) (s : State) : State :=
  let s := s.putFlag (Ob.traceEnable t) on
  if on then traceRestart t s else s.put (Ob.traceState t) 0

/-- Command 2: the trigger, with event 14. -/
def traceNow (t : Fin 8) (s : State) : State :=
  if s.ob (Ob.traceState t) = 1 then raise (traceTrigger s t) 14 (s.ob (Ob.traceLoop t) % 512 + t.val * 2 ^ 16) else s

def traceRearm (t : Fin 8) (s : State) : State :=
  if s.ob (Ob.traceState t) = 2 ∨ s.ob (Ob.traceState t) = 3 then traceRestart t s else s

def traceCmdEff (t : Fin 8) (v : Nat) (s : State) : State := if v = 1 then traceRearm t s else traceNow t s

/-- The ring as its Buffer object shows it: oldest record first (R265). -/
def traceBuffer (s : State) (t : Fin 8) : List Byte := slice (s.traces[t].ring.reverse.flatten) 0 65536

end Sys2Proof.Machine
end

