-- ==== Sys2Proof/Machine/Parcels.lean ====
section
/-! DEFINITION. Parcels, paths, bins and the dry-matter ledger (R125–R157): creation, advance, pickup, transfer, completion,
coalescing, layers, adjustments, the archive and checkpoints. -/
namespace Sys2Proof.Machine

/-! ### Records and tables -/

def setPlant (s : State) (g : PlantSt → PlantSt) : State := { s with plant := g s.plant }

def setPath (s : State) (p : Nat) (g : PathSt → PathSt) : State :=
  { s with paths := s.paths.set (Fin.ofNat 16 p) (g s.paths[Fin.ofNat 16 p]) }

def pathSt (s : State) (p : Nat) : PathSt := s.paths[Fin.ofNat 16 p]

/-- Writes a parcel record into its entry. -/
def putParcel (s : State) (e : Nat) (r : Parcel) : State :=
  setPlant s (fun d => { d with parcels := assocSet d.parcels e r })

/-- Frees an entry. -/
def freeParcel (s : State) (e : Nat) : State :=
  setPlant s (fun d => { d with parcels := assocDrop d.parcels e })

/-- The lowest entry not in `l`, whose keys rise, from `k` on. -/
def lowestFree (l : List (Nat × Parcel)) (k : Nat) : Nat :=
  match l with
  | [] => k
  | c :: rest => if c.1 = k then lowestFree rest (k + 1) else k

/-- Parcels of a path, falling POS; of equal POS the lower entry ahead (DESIGN CHOICE, log entry 90). -/
def onPath (s : State) (p : Nat) : List (Nat × Parcel) :=
  sortBy (fun a b => decide (b.2.pos ≤ a.2.pos)) (s.plant.parcels.filter (fun c => c.2.path == p))

def parcelCount (s : State) (p : Nat) : Nat := (s.plant.parcels.filter (fun c => c.2.path == p)).length

/-- Layers of a bin, bottom first. -/
def layersOf (s : State) (b : Nat) : List Layer := (assoc s.plant.bins b).getD []

def setLayers (s : State) (b : Nat) (l : List Layer) : State :=
  setPlant s (fun d => { d with bins := if l.isEmpty then assocDrop d.bins b else assocSet d.bins b l })

def sumBy {α : Type} (l : List α) (f : α → Nat) : Nat := l.foldl (fun n x => n + f x) 0

def binDry (s : State) (b : Nat) : Nat := sumBy (layersOf s b) (·.dm)
def binWater (s : State) (b : Nat) : Nat := sumBy (layersOf s b) (·.w)
/-- DryMass and WaterMass of a bin follow its layers (R143). -/
def showBin (s : State) (b : Nat) : State :=
  (s.put (Ob.binDryMass b) (wrap 64 (binDry s b))).put (Ob.binWaterMass b) (wrap 64 (binWater s b))

def putLayers (s : State) (b : Nat) (l : List Layer) : State := showBin (setLayers s b l) b

def binVolume (s : State) (b : Nat) : Nat := sumBy (layersOf s b) (·.volume)

/-- The 64 bytes of a record whose first 62 are given: CRC-16 behind them (R126). -/
def withCheck (body : List Byte) : List Byte := body ++ bytesLE 2 (crc16 body)

/-- A parcel record as bytes (R126). -/
def packParcel (r : Parcel) : List Byte :=
  withCheck (bytesLE 4 r.pid ++ bytesLE 1 r.path ++ bytesLE 1 r.profile ++ bytesLE 2 r.flags ++ bytesLE 4 r.pos ++
    bytesLE 4 r.dm ++ bytesLE 4 r.w ++ bytesLE 2 r.moist ++ bytesLE 2 (ofSigned 16 r.temp) ++ bytesLE 2 r.stress ++
    bytesLE 2 r.grad ++ bytesLE 2 r.inmoist ++ bytesLE 2 r.measmoist ++ bytesLE 1 r.laststn ++ bytesLE 1 r.source ++
    bytesLE 2 (ofSigned 16 r.maxtemp) ++ bytesLE 6 r.createtime ++ bytesLE 6 r.meastime ++ bytesLE 4 r.volume ++
    bytesLE 4 (ofSigned 32 r.wloss) ++ bytesLE 1 r.dest ++ bytesLE 1 0 ++ bytesLE 2 r.resid ++ bytesLE 2 0)

/-- A layer record as bytes (R144). -/
def packLayer (l : Layer) : List Byte :=
  withCheck (bytesLE 8 l.dm ++ bytesLE 8 l.w ++ bytesLE 8 l.volume ++ bytesLE 4 l.firstid ++ bytesLE 4 l.lastid ++
    bytesLE 1 l.profile ++ bytesLE 1 l.flags ++ bytesLE 2 (ofSigned 16 l.temp) ++ bytesLE 2 (ofSigned 16 l.maxtemp) ++
    bytesLE 2 l.stress ++ bytesLE 6 l.firsttime ++ bytesLE 6 l.lasttime ++ bytesLE 10 0)

/-- WC in ms. -/
def wcMs (s : State) : Nat := s.wc / 1000

/-! ### Arithmetic (R127, R141) -/

/-- MOIST of DM and W (R127). -/
def moistOf (dm w : Nat) : Nat := min 65535 (divRound (w * 65536) dm)

/-- A d.b. field from % w.b. (R127); where r does not lie in the field the value is open. -/
def dbField (s : State) (m : FX) : Nat :=
  let r := FX.mul (FX.div m (FX.sub (FX.ofNat 100) m)) (FX.ofNat 65536)
  if FX.ge r (FX.ofNat 65535) then 65535 else if r.isNan then Config.freeValue s.fresh % 65536 else s.fitU 16 r.roundAway

/-- % w.b. of a d.b. field. -/
def wbOfField (m : Nat) : FX :=
  let x := FX.ratio m 65536
  FX.div (FX.mul (FX.ofNat 100) x) (FX.add FX.one x)

/-- 100 × W / (D + W). -/
def wbOf (dm w : Nat) : FX :=
  if dm + w = 0 then FX.zero else FX.div (FX.mul (FX.ofNat 100) (FX.ofNat w)) (FX.ofNat (dm + w))

/-- The average of R141, with floor division. -/
def wavg (v₁ : Int) (w₁ : Nat) (v₂ : Int) (w₂ : Nat) : Int :=
  (v₁ * w₁ + v₂ * w₂ + ((w₁ + w₂) / 2 : Nat)) / ((w₁ + w₂ : Nat) : Int)

/-- The same over several parts (R139): one formula over all of them and not pair by pair (DESIGN CHOICE, log entry 90). -/
def wavgAll (l : List (Int × Nat)) : Int :=
  let t := sumBy l (·.2)
  ((l.foldl (fun (z : Int) x => z + x.1 * x.2) 0) + (t / 2 : Nat)) / (t : Int)

/-- A temperature in °C as an I16 field, saturating; to nearest, ties away from zero, also where R134 states no rounding (DESIGN CHOICE, log
entry 90). -/
def tempField (s : State) (t : FX) : Int := s.clip16 FX.roundAway (FX.mul t (FX.ofNat 128))

/-- FLAGS with OVERTEMP where TEMP lies above the profile's limit (R128). -/
def overtemp (s : State) (profile : Nat) (temp : Int) (flags : Nat) : Nat :=
  if temp > (FX.mul (s.f (Ob.grainMaxGrainTemp profile)) (FX.ofNat 128)).roundAway then setBit flags 8 true else flags

/-! ### The ledger (R145, R146) -/

/-- Adds to a U64 account; a sum outside it is open. -/
def addAcc (s : State) (k : Nat) (d : Int) : State :=
  let z := (s.ob k : Int) + d
  let t := s.put k (s.fitU 64 z)
  if 0 ≤ z ∧ z < ((2 ^ 64 : Nat) : Int) then t else t.tickFree

/-- Adds to an I64 account. -/
def addAccS (s : State) (k : Nat) (d : Int) : State :=
  let z := toSigned 64 (s.ob k) + d
  let t := s.put k (ofSigned 64 (s.fitS 64 z))
  if s.fitS 64 z = z then t else t.tickFree

/-- The dry-matter identity (R146). -/
def ledgerHolds (s : State) : Bool :=
  s.ob Ob.ledgerDryIn + s.ob Ob.ledgerDryAdjustIn ==
    s.ob Ob.ledgerDryInProcess + s.ob Ob.ledgerDryInBins + s.ob Ob.ledgerDryOut + s.ob Ob.ledgerDryAdjustOut

/-- The check after a unit: BALANCED follows, a failure sets CHECKFAIL, event 43 once per episode (R146). -/
def ledgerCheck (s : State) : State :=
  if ledgerHolds s then s.putBit Ob.ledgerLedgerStatus 0 true
  else
    let was := s.stBit Ob.ledgerLedgerStatus 0
    let s := (s.putBit Ob.ledgerLedgerStatus 0 false).putBit Ob.ledgerLedgerStatus 1 true
    if was then raise s 43 0 else s

/-- Posts changes of U64 accounts as one unit and checks. -/
def post (s : State) (l : List (Nat × Int)) : State := ledgerCheck (l.foldl (fun s x => addAcc s x.1 x.2) s)

/-! ### The archive (R149) -/

/-- Records the ring in DRAM holds (R38). -/
def archiveRingSize : Nat := 1048576

/-- The ring in DRAM keeps its newest records; one that is overwritten before it was copied is lost (DESIGN CHOICE, log entry 90). -/
def trimRing (d : PlantSt) : PlantSt :=
  let excess := d.archiveCopied.length + d.archivePend.length - archiveRingSize
  { d with archiveCopied := d.archiveCopied.drop excess, archivePend := d.archivePend.drop (excess - d.archiveCopied.length) }

/-- Appends a completed record with the next sequence number. -/
def archiveAppend (s : State) (rec : List Byte) : State :=
  let n := s.plant.archiveNext
  let s := setPlant s (fun d => trimRing { d with
    archiveNext := n + 1
    archivePend := d.archivePend ++ [(n, rec)]
    archiveAt := if d.archivePend.isEmpty then s.osc else d.archiveAt })
  let s := s.put Ob.archiveNewestSeq n
  if s.ob Ob.archiveOldestSeq = 0 then s.put Ob.archiveOldestSeq n else s

/-- Records of the ring as they are copied: one that cannot be read is copied without its bytes, and stays unreadable (R484). -/
def archiveCopy (s : State) (l : List (Nat × List Byte)) : List (Nat × List Byte) :=
  l.map (fun r => if s.badArchive.contains r.1 then (r.1, []) else r)

/-- Pages the NAND archive holds: 33,554,432 records of 64 to a page. -/
def archivePages : Nat := 524288

/-- The first 64 waiting records go to NAND as a page; the oldest page leaves a full ring with event 44. A page written partly filled stays so
and counts as a whole page of the ring (DESIGN CHOICE, log entry 90). -/
def archivePageWrite (s : State) : State :=
  let page := archiveCopy s (s.plant.archivePend.take 64)
  if page.isEmpty then s
  else
    let s := setPlant s (fun d => { d with
      archivePend := d.archivePend.drop 64, archiveCopied := d.archiveCopied ++ page, archiveAt := s.osc })
    let all := s.nand.archive ++ [page]
    if all.length ≤ archivePages then { s with nand := s.nand.keep { s.nand.areas with archive := all } }
    else
      let rest := all.drop 1
      let s := { s with nand := s.nand.keep { s.nand.areas with archive := rest } }
      let s := s.put Ob.archiveOldestSeq (((rest.head?).bind (fun p => p.head?.map (·.1))).getD 0)
      raise s 44 0

/-- Every archive record held, oldest first. -/
def archiveAll (s : State) : List (Nat × List Byte) := s.nand.archive.flatten ++ s.plant.archivePend

/-! ### Layers and bins (R143, R144) -/

/-- Two adjacent layers as one, `a` the lower. -/
def mergeLayers (s : State) (a b : Layer) (mixed : Bool) : Layer :=
  let wa := a.dm + a.w
  let wb := b.dm + b.w
  { dm := s.fitU 64 (a.dm + b.dm : Nat), w := s.fitU 64 (a.w + b.w : Nat), volume := s.fitU 64 (a.volume + b.volume : Nat)
    firstid := if a.firstid = 0 then b.firstid else a.firstid
    lastid := if b.lastid = 0 then a.lastid else b.lastid
    profile := if a.dm ≥ b.dm then a.profile else b.profile
    flags := setBit (a.flags ||| b.flags) 1 (mixed || bit a.flags 1 || bit b.flags 1)
    temp := wavg a.temp wa b.temp wb
    maxtemp := max a.maxtemp b.maxtemp
    stress := (wavg a.stress wa b.stress wb).toNat
    firsttime := if a.firsttime = 0 then b.firsttime else if b.firsttime = 0 then a.firsttime else min a.firsttime b.firsttime
    lasttime := max a.lasttime b.lasttime }

/-- The two lowest adjacent layers of one profile merged, if there are such. -/
def mergeSame (s : State) : List Layer → Option (List Layer)
  | a :: b :: rest =>
    if a.profile = b.profile then some (mergeLayers s a b false :: rest)
    else (mergeSame s (b :: rest)).map (fun l => a :: l)
  | _ => none

/-- Room for one more layer: with 64 held, two are merged first, with event 39. -/
def layerRoom (s : State) (b : Nat) : State × List (Nat × Nat) :=
  let l := layersOf s b
  if l.length < 64 then (s, [])
  else
    let m := match mergeSame s l, l with
      | some m, _ => m
      | none, x :: y :: rest => mergeLayers s x y true :: rest
      | none, l => l
    ((putLayers s b m).tickFree, [(39, b)])

/-- Puts a layer on top of a bin. -/
def addLayer (s : State) (b : Nat) (x : Layer) : State × List (Nat × Nat) :=
  let r := layerRoom s b
  (putLayers r.1 b (layersOf r.1 b ++ [x]), r.2)

/-- Whether the grain of a bin exceeds its Capacity. -/
def overCap (s : State) (b : Nat) : Bool :=
  FX.gt (FX.ofNat (binVolume s b)) (FX.mul (FX.ofNat 100) (s.f (Ob.binCapacity b)))

/-- The layer a delivered parcel brings. -/
def parcelLayer (s : State) (r : Parcel) : Layer :=
  { dm := r.dm, w := r.w, volume := r.volume, firstid := r.pid, lastid := r.pid, profile := r.profile, flags := 1
    temp := r.temp, maxtemp := r.maxtemp, stress := r.stress, firsttime := wcMs s, lasttime := wcMs s }

/-- A parcel joins the top layer of a bin, or forms a new one (R144). -/
def deliver (s : State) (b : Nat) (r : Parcel) : State × List (Nat × Nat) :=
  let was := overCap s b
  let l := layersOf s b
  let x := parcelLayer s r
  let t : State × List (Nat × Nat) :=
    match l.getLast? with
    | some top =>
      if top.profile = r.profile ∧
          FX.le (FX.ofNat (top.volume + r.volume)) (FX.mul (FX.ofNat 100) (s.f (Ob.binLayerVolume b))) then
        (putLayers s b (l.dropLast ++ [mergeLayers s top x false]), [])
      else addLayer s b x
    | none => addLayer s b x
  (t.1, t.2 ++ (if !was && overCap t.1 b then [(38, b)] else []))

/-! ### Completion (R140, R146) -/

/-- A parcel leaves its path: into a bin (0–63), out of the plant (0x80) or purged (0xC0). One unit. -/
def completeParcel (s : State) (e : Nat) (r : Parcel) (dest : Nat) : State :=
  let p := r.path
  let dm : Int := r.dm
  let w : Int := r.w
  let r := { r with dest := dest, flags := setBit r.flags (if dest < 64 then 6 else 5) true }
  let s := freeParcel s e
  let t : State × List (Nat × Nat) := if dest < 64 then deliver s dest r else (s, [])
  let s := archiveAppend t.1 (packParcel r)
  let s := post s ([(Ob.ledgerDryInProcess, -dm), (Ob.ledgerWaterInProcess, -w), (Ob.pathAcctDryOnPath p, -dm)] ++
    (if dest < 64 then
      [(Ob.ledgerDryInBins, dm), (Ob.ledgerWaterInBins, w), (Ob.pathAcctDryDelivered p, dm), (Ob.binDryReceived dest, dm)]
     else if dest = 0x80 then
      [(Ob.ledgerDryOut, dm), (Ob.ledgerWaterOut, w), (Ob.pathAcctDryExited p, dm)]
     else [(Ob.ledgerDryAdjustOut, dm), (Ob.ledgerWaterAdjustOut, w), (Ob.pathAcctDryExited p, dm)]))
  raiseAll s (t.2 ++ (if dest < 64 then [(36, dest * 256 + p)] else if dest = 0x80 then [(37, p)] else []))

/-! ### Paths -/

def pathPosition (s : State) (p : Nat) : Nat := s.ob (Ob.gcPosition (pathClock s p))
def pathLpc (s : State) (p : Nat) : FX := s.f (Ob.gcLitresPerCount (pathClock s p))
def pathLevel (s : State) (p : Nat) : Nat := bits (s.ob (Ob.pathStatus p)) 7 5

/-- Counts of the path's clock since a reference position. -/
def countsSince (s : State) (p ref : Nat) : Nat := (pathPosition s p + 2 ^ 48 - ref % 2 ^ 48) % 2 ^ 48

/-- The create entry's Period for the path's LEVEL (R130). -/
def setCreatePeriod (s : State) (p : Nat) : State :=
  let e := s.ob (Ob.pathCreateEntry p)
  if e < 1024 then s.put (Ob.entryPeriod e) (wrap 64 (createPeriod s p * 2 ^ pathLevel s p)) else s

def setLevel (s : State) (p l : Nat) : State :=
  setCreatePeriod (s.put (Ob.pathStatus p) (setField (s.ob (Ob.pathStatus p)) 7 5 l)) p

/-! ### A full table (R141, R142) -/

/-- Whether PARCELID a is older than b, modulo 2³² (R88). -/
def olderId (a b : Nat) : Bool := decide (0 < (b + 2 ^ 32 - a) % 2 ^ 32 ∧ (b + 2 ^ 32 - a) % 2 ^ 32 < 2 ^ 31)

/-- Adjacent pairs of a path that may merge, older member first. -/
def pairsOf : List (Nat × Parcel) → List ((Nat × Parcel) × (Nat × Parcel))
  | a :: b :: rest =>
    (if a.2.profile = b.2.profile ∧ a.2.volume + b.2.volume ≤ 4000000 then
      [if olderId a.2.pid b.2.pid then (a, b) else (b, a)] else []) ++ pairsOf (b :: rest)
  | _ => []

/-- The pair chosen: that whose older member is oldest (R141). Where one parcel is the older member of both its pairs R141 names none: the
pair met first is taken, that of the higher POS (DESIGN CHOICE, log entry 98). -/
def choosePair (s : State) : Option ((Nat × Parcel) × (Nat × Parcel)) :=
  ((List.range 16).flatMap (fun p => pairsOf (onPath s p))).foldl (fun best c =>
    match best with
    | none => some c
    | some b => if olderId c.1.2.pid b.1.2.pid then some c else best) none

/-- The surviving record of a merge. -/
def mergeParcels (s : State) (x y : Parcel) : Parcel :=
  let wx := x.dm + x.w
  let wy := y.dm + y.w
  let dm := s.fitU 32 (x.dm + y.dm : Nat)
  let w := s.fitU 32 (x.w + y.w : Nat)
  { x with
    dm, w, volume := x.volume + y.volume, wloss := s.fitS 32 (x.wloss + y.wloss)
    resid := min x.resid y.resid, laststn := min x.laststn y.laststn, maxtemp := max x.maxtemp y.maxtemp
    moist := moistOf dm w, flags := setBit (x.flags ||| y.flags) 14 true
    temp := wavg x.temp wx y.temp wy, stress := (wavg x.stress wx y.stress wy).toNat
    grad := (wavg x.grad wx y.grad wy).toNat, pos := (wavg x.pos x.dm y.pos y.dm).toNat
    inmoist := (wavg x.inmoist x.dm y.inmoist y.dm).toNat
    measmoist := if bit x.flags 12 && bit y.flags 12 then (wavg x.measmoist x.dm y.measmoist y.dm).toNat
      else if bit y.flags 12 then y.measmoist else x.measmoist
    meastime := max x.meastime y.meastime, resfrac := 0, strfrac := 0, grdfrac := 0 }

/-- Coalesces the chosen pair; none where no pair may merge. -/
def coalesce (s : State) : Option State :=
  (choosePair s).map (fun c =>
    let s := (freeParcel (putParcel s c.1.1 (mergeParcels s c.1.2 c.2.2)) c.2.1).tickFree
    raise (s.inc Ob.pTableCoalesceCount) 32 c.1.2.pid)

/-- A creation is deferred (R142). -/
def deferCreate (s : State) (p : Nat) : State :=
  let s := if pathLevel s p < 4 then setLevel s p (pathLevel s p + 1) else s
  let s := (s.putBit (Ob.pathStatus p) 3 true).inc Ob.pTableDeferCount
  raise s 33 (pathLevel s p * 256 + p)

/-- Makes room for a parcel: true where an entry is free. -/
def parcelRoom (s : State) (p : Nat) : State × Bool :=
  if s.plant.parcels.length < 16384 then (s, true)
  else match coalesce s with
    | some t => (t, true)
    | none => (deferCreate s p, false)

/-! ### Creation (R135, R136, R139, R174) -/

/-- The next PARCELID that no record in use holds. -/
def freshId (used : List Nat) : Nat → Nat → Nat
  | 0, n => n
  | fuel + 1, n => if used.contains n then freshId used fuel (if n + 1 ≥ 2 ^ 32 then 1 else n + 1) else n

/-- Enters a new record: its number, path, position, DOUBLED and OVERTEMP; then the unit's accounts, HighWater and the LEVEL. -/
def enterParcel (s : State) (p n : Nat) (r : Parcel) (accts : List (Nat × Int)) : State :=
  let st := pathSt s p
  let id := freshId (s.plant.parcels.map (·.2.pid)) (s.plant.parcels.length + 1) s.plant.nextPid
  let d := countsSince s p st.lastAdvance
  let r := { r with
    pid := id, path := p, pos := s.fitU 32 ((n / 2 - d : Nat) : Int)
    flags := overtemp s r.profile r.temp (setBit r.flags 13 (decide (0 < pathLevel s p))) }
  let s := putParcel s (lowestFree s.plant.parcels 0) r
  let s := setPlant s (fun d => { d with nextPid := if id + 1 ≥ 2 ^ 32 then 1 else id + 1 })
  let s := setPath s p (fun x => { x with lastCreate := pathPosition s p })
  let dm : Int := r.dm
  let s := post s ([(Ob.ledgerDryInProcess, dm), (Ob.ledgerWaterInProcess, (r.w : Int)), (Ob.pathAcctDryCreated p, dm),
    (Ob.pathAcctDryOnPath p, dm)] ++ accts)
  let s := (s.inc (Ob.pathAcctParcelsCreated p)).tickFree
  let s := s.put Ob.pTableHighWater (max (s.ob Ob.pTableHighWater) s.plant.parcels.length)
  let s := s.putBit (Ob.pathStatus p) 3 false
  let lower := 0 < pathLevel s p && decide (s.plant.parcels.length + 1024 ≤ 16384)
  let s := if lower then setLevel s p (pathLevel s p - 1) else s
  raiseAll s ((if lower then [(34, pathLevel s p * 256 + p)] else []) ++ (if bit r.flags 11 then [(35, p)] else []))

/-- The Value of a channel named by an object, where it is set and VALID. -/
def chanVal (s : State) (k : Nat) : Option FX :=
  let n := s.ob k
  if goodChan s n then some (chanF s n) else none

/-- A create action at a measured inlet (R135). -/
def createInlet (s : State) (p : Nat) : State :=
  let n := countsSince s p (pathSt s p).lastCreate
  let mc := chanVal s (Ob.pathMoistureChannel p)
  let m := FX.clamp (mc.getD (s.f (Ob.pathFallbackMoisture p))) FX.zero (FX.ofNat 49)
  let prof := s.ob (Ob.pathProfile p)
  let dSet := decide (s.ob (Ob.pathDensityChannel p) < 4096)
  let dc := chanVal s (Ob.pathDensityChannel p)
  let rho := dc.getD (s.f (Ob.grainBulkDensity prof))
  let sub := mc.isNone || (dSet && dc.isNone)
  let s := s.putBit (Ob.pathStatus p) 2 sub
  let v := FX.mul (FX.ofNat n) (pathLpc s p)
  let mass := (FX.mul v rho).roundAway
  let dry := (FX.div (FX.mul (FX.ofInt mass) (FX.sub (FX.ofNat 100) m)) (FX.ofNat 100)).roundAway
  if dry < 1 then s
  else
    let tc := chanVal s (Ob.pmodelInletTempChannel p)
    let room := parcelRoom s p
    if !room.2 then room.1
    else
      let s := room.1.putBit (Ob.pmodelModelStatus p) 5 tc.isNone
      let dm := max 1 (s.fitU 32 dry)
      let w := s.fitU 32 (mass - dry)
      let temp := tempField s (tc.getD (s.f (Ob.pmodelFallbackInletTemp p)))
      enterParcel s p n
        { pid := 0, path := p, profile := prof, flags := setBit 0x8000 11 sub, pos := 0, dm, w, moist := moistOf dm w, temp,
          stress := 0, grad := 0, inmoist := moistOf dm w, measmoist := 0, laststn := 0xFF, source := p, maxtemp := temp,
          createtime := wrap 48 (wcMs s), meastime := 0
          volume := sat 32 (FX.mul v (FX.ofNat 100)).roundAway.toNat, wloss := 0, dest := 0xFF, resid := 0,
          tstep := wrap 32 (wcMs s), resfrac := 0, strfrac := 0, grdfrac := 0 }
        [(Ob.ledgerDryIn, (dm : Int)), (Ob.ledgerWaterIn, (w : Int))]

/-- What a draw takes from a layer: dry matter, water, volume, and the layer it came from. -/
structure Part where
  dm : Nat
  w : Nat
  volume : Nat
  of_ : Layer
  deriving DecidableEq, Repr

/-- Draws `take` (0.01 L) from the bottom of a bin (R139): the parts, and the layers left. -/
def drawParts : List Layer → Nat → List Part × List Layer
  | [], _ => ([], [])
  | l :: rest, take =>
    if take = 0 then ([], l :: rest)
    else if l.volume ≤ take then
      let r := drawParts rest (take - l.volume)
      (⟨l.dm, l.w, l.volume, l⟩ :: r.1, r.2)
    else
      let pd := l.dm * take / l.volume
      let pw := l.w * take / l.volume
      ([⟨pd, pw, take, l⟩], { l with dm := l.dm - pd, w := l.w - pw, volume := l.volume - take } :: rest)

/-- The profile of the layer that gave the most dry matter, the lower on a tie. -/
def mostDry : List Part → Nat
  | [] => 0
  | x :: xs => (xs.foldl (fun (b : Part) y => if y.dm > b.dm then y else b) x).of_.profile

/-- A create action on a bin unload path (R139). -/
def createDraw (s : State) (p : Nat) : State :=
  let b := s.ob (Ob.pathInletBin p)
  let n := countsSince s p (pathSt s p).lastCreate
  let take := (FX.mul (FX.mul (FX.ofNat n) (pathLpc s p)) (FX.ofNat 100)).roundAway.toNat
  let d := drawParts (layersOf s b) take
  let dry := sumBy d.1 (·.dm)
  if dry < 1 then raise s 40 b
  else
    let room := parcelRoom s p
    if !room.2 then room.1
    else
      let s := room.1
      let water := sumBy d.1 (·.w)
      let dm := max 1 (s.fitU 32 (dry : Int))
      let w := s.fitU 32 (water : Int)
      let temp := wavgAll (d.1.map (fun x => (x.of_.temp, x.dm + x.w)))
      let prof := mostDry d.1
      let mixed := d.1.any (fun x => x.of_.profile != prof)
      let s := setPlant (putLayers s b d.2) (fun g => { g with drawn := assocSet g.drawn b s.osc })
      enterParcel s p n
        { pid := 0, path := p, profile := prof, flags := setBit (setBit 0x8000 10 true) 4 mixed, pos := 0, dm, w,
          moist := moistOf dm w, temp, stress := (wavgAll (d.1.map (fun x => ((x.of_.stress : Int), x.dm + x.w)))).toNat,
          grad := 0, inmoist := moistOf dm w, measmoist := 0, laststn := 0xFF, source := 0x40 + b % 64
          maxtemp := d.1.foldl (fun t x => max t x.of_.maxtemp) temp, createtime := wrap 48 (wcMs s), meastime := 0
          volume := sat 32 (sumBy d.1 (·.volume)), wloss := 0, dest := 0xFF, resid := 0, tstep := wrap 32 (wcMs s),
          resfrac := 0, strfrac := 0, grdfrac := 0 }
        [(Ob.ledgerDryInBins, -(dry : Int)), (Ob.ledgerWaterInBins, -(water : Int)), (Ob.binDryUnloaded b, (dry : Int))]

/-- A create action (R130): nothing on a path fed by others, nor on one that is not enabled (DESIGN CHOICE, log entry 90). -/
def createAction (s : State) (p : Nat) : State :=
  if !s.flag (Ob.pathEnable p) then s
  else match s.ob (Ob.pathInletKind p) with
    | 0 => createInlet s p
    | 2 => createDraw s p
    | _ => s

/-! ### Advance (R134, R137, R138) -/

/-- Publishes a station's picked-up value, and the parcel's MOIST as % w.b., on the channels bound to the station (R134). -/
def publishStation (s : State) (p stn : Nat) (v : FX) (moist : Nat) : State :=
  let s := (boundChans s 4 0x0C p stn).foldl (fun s n => produce s n v 1 s.wc) s
  (boundChans s 4 0x0C p (0x100 + stn)).foldl (fun s n => produce s n (wbOfField moist) 1 s.wc) s

/-- One pickup of station `stn` by the parcel in entry `e` (R134). -/
def pickup (s : State) (p stn kind chan e : Nat) (r : Parcel) : State :=
  if goodChan s chan then
    let v := chanF s chan
    let r := if kind = 1 then
        { r with measmoist := dbField s v, meastime := wrap 48 (wcMs s), flags := setBit r.flags 12 true }
      else
        let t := tempField s v
        { r with temp := t, maxtemp := max r.maxtemp t, flags := overtemp s r.profile t r.flags }
    (publishStation (putParcel s e { r with laststn := stn }) p stn v r.moist).tickFree
  else raise (putParcel s e { r with laststn := stn }) 41 (stn * 256 + p)

/-- Stations of a path that pick up, with offset, kind and channel. -/
def pickupStations (s : State) (p : Nat) : List (Nat × Nat × Nat × Nat) :=
  (List.range (s.ob (Ob.pathStationCount p))).filterMap (fun i =>
    let w := s.ob (Ob.stnSrcStationSource p i)
    let k := stationKind w
    if k = 1 ∨ k = 2 then some (i, s.ob (Ob.stnOffStationOffset p i), k, stationChan w) else none)

/-- All pickups of one parcel, rising station. A parcel that already lies beyond a station's offset when it comes onto the path or is merged,
and has not met the station, is picked up at its next advance (DESIGN CHOICE, log entry 90). -/
def pickups (p : Nat) (stns : List (Nat × Nat × Nat × Nat)) (s : State) (e : Nat) : State :=
  stns.foldl (fun s x =>
    match assoc s.plant.parcels e with
    | some r =>
      if x.2.1 ≤ r.pos && (r.laststn == 0xFF || decide (r.laststn < x.1)) then pickup s p x.1 x.2.2.1 x.2.2.2 e r else s
    | none => s) s

/-- A parcel goes over to path q (R138). -/
def transfer (s : State) (p q e : Nat) (r : Parcel) : State :=
  let past := r.pos - s.ob (Ob.pathLengthCounts p)
  let z := (FX.div (FX.mul (FX.ofNat past) (pathLpc s p)) (pathLpc s q)).roundAway
  let d := countsSince s q (pathSt s q).lastAdvance
  let pos := max 0 (z - (d : Int))
  let dm : Int := r.dm
  let s := (putParcel s e { r with path := q, laststn := 0xFF, pos := s.fitU 32 pos }).tickFree
  post s [(Ob.pathAcctDryTransferredOut p, dm), (Ob.pathAcctDryOnPath p, -dm), (Ob.pathAcctDryTransferredIn q, dm),
    (Ob.pathAcctDryOnPath q, dm)]

/-- A parcel at or beyond the end of its path, while the end is valid. -/
def endOfPath (s : State) (p e : Nat) (r : Parcel) : State :=
  match s.ob (Ob.pathEndAction p) with
  | 0 => completeParcel s e r (s.ob (Ob.pathEndTarget p))
  | 1 => transfer s p (s.ob (Ob.pathEndTarget p)) e r
  | _ => completeParcel s e r 0x80

/-- An advance action (R137). One whose path is not enabled does nothing (DESIGN CHOICE, log entry 90). -/
def advanceAction (s : State) (p : Nat) : State :=
  if !s.flag (Ob.pathEnable p) then s
  else
    let d := toSigned 48 (countsSince s p (pathSt s p).lastAdvance)
    let s := setPath s p (fun x => { x with lastAdvance := pathPosition s p })
    let moved := s.plant.parcels.map (fun c =>
      if c.2.path = p then
        let z := (c.2.pos : Int) + d
        (c.1, if z < 0 then { c.2 with pos := 0, flags := setBit c.2.flags 9 true } else { c.2 with pos := s.fitU 32 z })
      else c)
    let s := (setPlant s (fun g => { g with parcels := moved })).tickFree
    let s := if d = 0 then s else s.putBit (Ob.pathStatus p) 1 (decide (d < 0))
    let s := ((onPath s p).map (·.1)).foldl (pickups p (pickupStations s p)) s
    let len := s.ob (Ob.pathLengthCounts p)
    let done := (onPath s p).filter (fun c => decide (len ≤ c.2.pos))
    if pathEndOk s p then
      (done.foldl (fun s c => endOfPath s p c.1 c.2) s).putBit (Ob.pathStatus p) 4 false
    else s.putBit (Ob.pathStatus p) 4 (!done.isEmpty)

/-! ### Enabling a path (R130) -/

/-- A schedule entry that holds no action and no owner. -/
def entryFree (s : State) (e : Nat) : Bool := s.ob (Ob.entryAction e) == 0 && (entryDyn s e).owner == 0

/-- The lowest-numbered free entries (R112). -/
def freeEntries (s : State) : List Nat := (List.range 1024).filter (entryFree s)

/-- Takes an entry for a path: enabled, due one Period on, armed at the next tick. There is no entry from 1,024 on, so a path that found
none free takes none. -/
def takeEntry (s : State) (e p action period owner : Nat) : State :=
  if 1024 ≤ e then s else
  let s := s.puts [(Ob.entryDomain e, pathClock s p), (Ob.entryTarget e, (pathPosition s p + period) % 2 ^ 48),
    (Ob.entryPeriod e, period), (Ob.entryAction e, action), (Ob.entryActionTarget e, p), (Ob.entryActionParam e, 0),
    (Ob.entryEnable e, 1)]
  setEntry s e ⟨false, true, 0, 0, owner⟩

/-- Frees an entry of a path: its objects return to their defaults (DESIGN CHOICE, log entry 38). -/
def dropEntry (s : State) (e : Nat) : State :=
  if e < 1024 then
    let s := s.puts [(Ob.entryDomain e, 9), (Ob.entryTarget e, 0), (Ob.entryPeriod e, 0), (Ob.entryAction e, 0),
      (Ob.entryActionTarget e, 0), (Ob.entryActionParam e, 0), (Ob.entryEnable e, 0)]
    { s with entries := assocDrop s.entries e }
  else s

/-- Entries a path needs: the advance entry, and a create entry for InletKind 0 and 2. -/
def entriesNeeded (s : State) (p : Nat) : Nat := if s.ob (Ob.pathInletKind p) = 1 then 1 else 2

/-- Allocates a path's entries. `fresh` sets the reference positions to the clock's present Position. A path keeps its LEVEL while it is
disabled, so its create entry takes Period N₀ × 2^LEVEL (log entry 78). Where a load at BOOT or a revert leaves too few free entries R130 says
nothing: the path stays enabled, takes the entries there are and reads 0xFFFF for one it has not, so it does not advance or create of its own
(DESIGN CHOICE, log entry 99). -/
def allocPath (s : State) (p : Nat) (fresh : Bool) : State :=
  let es := freeEntries s
  let a := es.getD 0 0xFFFF
  let s := (takeEntry s a p 4 (s.ob (Ob.pathAdvancePeriod p)) (p + 1)).put (Ob.pathAdvanceEntry p) a
  let s := if s.ob (Ob.pathInletKind p) = 1 then s
    else
      let c := es.getD 1 0xFFFF
      (takeEntry s c p 3 (wrap 64 (createPeriod s p * 2 ^ pathLevel s p)) (p + 17)).put (Ob.pathCreateEntry p) c
  if fresh then setPath s p (fun x => { x with lastCreate := pathPosition s p, lastAdvance := pathPosition s p }) else s

/-- Frees a path's entries. -/
def releasePath (s : State) (p : Nat) : State :=
  let s := dropEntry (dropEntry s (s.ob (Ob.pathAdvanceEntry p))) (s.ob (Ob.pathCreateEntry p))
  (s.put (Ob.pathAdvanceEntry p) 0xFFFF).put (Ob.pathCreateEntry p) 0xFFFF

/-! ### Purge, adjustment, reset (R145–R147) -/

/-- Completes every parcel of a path into the adjust-out accounts (R146). -/
def purgePath (s : State) (p : Nat) : State :=
  let s := (onPath s p).foldl (fun s c => completeParcel s c.1 c.2 0xC0) s
  raise (s.putBit (Ob.pathStatus p) 4 false) 45 p

/-- AdjustCommand 1: a top layer from the operands (R147). Its STRESS 0, its MAXTEMP, which is its TEMP, and the rounding of AdjustVolume to
0.01 L are the model's (DESIGN CHOICE, log entry 90). -/
def adjustAdd (s : State) (b : Nat) : State :=
  let dm := s.ob (Ob.binAdjustDry b)
  let w := s.ob (Ob.binAdjustWater b)
  let t := tempField s (s.f (Ob.binAdjustTemp b))
  let r := addLayer s b
    { dm, w, volume := (FX.mul (s.f (Ob.binAdjustVolume b)) (FX.ofNat 100)).roundAway.toNat, firstid := 0, lastid := 0
      profile := s.ob (Ob.binAdjustProfile b), flags := 5, temp := t, maxtemp := t, stress := 0, firsttime := 0
      lasttime := 0 }
  let s := post r.1 [(Ob.ledgerDryAdjustIn, (dm : Int)), (Ob.ledgerDryInBins, (dm : Int)),
    (Ob.ledgerWaterAdjustIn, (w : Int)), (Ob.ledgerWaterInBins, (w : Int))]
  raiseAll s r.2

/-- Takes `take` grams of dry matter from the bottom layers up, water and volume in proportion: what left, and what stays. -/
def takeDry : List Layer → Nat → (Nat × Nat) × List Layer
  | [], _ => ((0, 0), [])
  | l :: rest, take =>
    if take = 0 then ((0, 0), l :: rest)
    else if l.dm ≤ take then
      let r := takeDry rest (take - l.dm)
      ((l.dm + r.1.1, l.w + r.1.2), r.2)
    else
      let pw := l.w * take / l.dm
      ((take, pw), { l with dm := l.dm - take, w := l.w - pw, volume := l.volume - l.volume * take / l.dm } :: rest)

/-- Removes grain of a bin into the adjust-out accounts. -/
def adjustOut (s : State) (b : Nat) (out : Nat × Nat) (left : List Layer) : State :=
  let dm : Int := out.1
  let w : Int := out.2
  post (putLayers s b left) [(Ob.ledgerDryAdjustOut, dm), (Ob.ledgerDryInBins, -dm), (Ob.ledgerWaterAdjustOut, w),
    (Ob.ledgerWaterInBins, -w)]

/-- AdjustCommand 2. -/
def adjustRemove (s : State) (b : Nat) : State :=
  let r := takeDry (layersOf s b) (s.ob (Ob.binAdjustDry b))
  adjustOut s b r.1 r.2

/-- AdjustCommand 3. -/
def adjustEmpty (s : State) (b : Nat) : State := adjustOut s b (binDry s b, binWater s b) []

/-- The accounts a LedgerReset and a checkpoint cover. -/
def ledgerKeys : List Nat :=
  (List.range 13).map (fun i => key 0x4000 (1 + i)) ++
  (List.range 16).flatMap (fun p => (List.range 8).map (fun i => key (0x4080 + p) (1 + i))) ++
  (List.range 64).flatMap (fun b => [Ob.binDryReceived b, Ob.binDryUnloaded b])

/-- Nothing is held: no parcel in use, no layer in any bin. -/
def noGrain (s : State) : Bool := s.plant.parcels.isEmpty && s.plant.bins.isEmpty

/-- LedgerReset (R145). -/
def ledgerReset (s : State) : State :=
  ledgerCheck ((ledgerKeys.foldl (fun s k => s.put k 0) s).putBit Ob.ledgerLedgerStatus 1 false)

/-! ### Checkpoints (R151–R154) -/

/-- The content of a checkpoint taken now. -/
def ckptBody (s : State) : CkptBody :=
  { parcels := s.plant.parcels, bins := s.plant.bins
    paths := (List.range 16).map (fun p =>
      (-(toSigned 48 (countsSince s p (pathSt s p).lastCreate)), -(toSigned 48 (countsSince s p (pathSt s p).lastAdvance)),
        s.ob (Ob.pathStatus p)))
    accounts := ledgerKeys.filterMap (fun k => if s.ob k = 0 then none else some (k, s.ob k))
    nextPid := s.plant.nextPid, archiveNext := s.plant.archiveNext, archivePend := archiveCopy s s.plant.archivePend }

/-- A checkpoint's body as the bytes its digest runs over (R151): the spec gives the content, the layout is the model's (log entry 79). -/
def ckptBytes (b : CkptBody) : List Byte :=
  b.parcels.flatMap (fun x => bytesLE 2 x.1 ++ packParcel x.2) ++
  b.bins.flatMap (fun x => bytesLE 2 x.1 ++ x.2.flatMap packLayer) ++
  b.paths.flatMap (fun x => bytesLE 6 (ofSigned 48 x.1) ++ bytesLE 6 (ofSigned 48 x.2.1) ++ bytesLE 2 x.2.2) ++
  b.accounts.flatMap (fun x => bytesLE 4 x.1 ++ bytesLE 8 x.2) ++
  bytesLE 4 b.nextPid ++ bytesLE 8 b.archiveNext ++ b.archivePend.flatMap (fun x => bytesLE 8 x.1 ++ x.2)

/-- A checkpoint is valid where its digest is that of its body (R151). -/
def ckptSound (c : Ckpt) : Bool := c.digest == sha256 (ckptBytes c.body)

/-- A checkpoint begins: kind 1 periodic, 2 power-fail; one still being written is abandoned. -/
def ckptStart (s : State) (kind : Nat) : State :=
  setPlant s (fun d => { d with ckptRun := some ⟨kind, s.wc, s.osc, ckptBody s⟩ })

/-- The valid checkpoint with the highest sequence number. -/
def ckptNewest (s : State) : Option Ckpt :=
  (s.nand.ckpts.filter ckptSound).foldl (fun b c => match b with
    | none => some c
    | some x => if x.seq < c.seq then some c else b) none

/-- The header of the checkpoint being written is written: it is valid, in the slot of the oldest of 16. The first one is numbered 1 (DESIGN
CHOICE, log entry 79). -/
def ckptFinish (s : State) : State :=
  match s.plant.ckptRun with
  | none => s
  | some r =>
    let n := ((ckptNewest s).map (·.seq + 1)).getD 1 % 2 ^ 32
    let all := s.nand.ckpts ++ [⟨n, r.kind, sha256 (ckptBytes r.body), r.body⟩]
    let s := { s with nand := s.nand.keep { s.nand.areas with ckpts := all.drop (all.length - 16) } }
    let s := (s.put Ob.ckptSequence n).put Ob.ckptLastTime r.wc
    let s := s.putF Ob.ckptLastDuration (FX.div (FX.ofNat (s.osc - r.began)) (FX.ofNat 1000000))
    setPlant s (fun d => { d with ckptRun := none })

/-- The create entry of a path whose LEVEL was restored: Period N₀ × 2^LEVEL, due one Period on (R130). -/
def retargetCreate (s : State) (p : Nat) : State :=
  let e := s.ob (Ob.pathCreateEntry p)
  let s := setCreatePeriod s p
  if e < 1024 then s.put (Ob.entryTarget e) ((pathPosition s p + s.ob (Ob.entryPeriod e)) % 2 ^ 48) else s

/-- Restores the newest valid checkpoint at BOOT (R154): event 42. With none, the archive's sequence goes on after the newest record in NAND
(DESIGN CHOICE, log entry 90). -/
def ledgerRestore (s : State) : State :=
  match ckptNewest s with
  | none =>
    let newest := ((s.nand.archive.getLast?).bind (fun p => p.getLast?.map (·.1))).getD 0
    let oldest := ((s.nand.archive.head?).bind (fun p => p.head?.map (·.1))).getD 0
    let s := setPlant s (fun d => { d with archiveNext := newest + 1 })
    raise ((s.put Ob.archiveNewestSeq newest).put Ob.archiveOldestSeq oldest) 42 0
  | some c =>
    let b := c.body
    let ms := wrap 32 (wcMs s)
    let kept := s.nand.archive.filterMap (fun p =>
      let q := p.filter (fun (x : Nat × List Byte) => decide (x.1 < b.archiveNext))
      if q.isEmpty then none else some q)
    let newest := ((kept.getLast?).bind (fun p => p.getLast?.map (·.1))).getD 0
    let pend := b.archivePend.filter (fun (x : Nat × List Byte) => decide (newest < x.1))
    let s := { s with nand := s.nand.keep { s.nand.areas with archive := kept } }
    let s := setPlant s (fun d => { d with
      parcels := b.parcels.map (fun x => (x.1, { x.2 with
        flags := setBit x.2.flags 7 true, tstep := ms, resfrac := 0, strfrac := 0, grdfrac := 0 }))
      bins := b.bins, nextPid := b.nextPid, archiveNext := b.archiveNext, archivePend := pend, archiveAt := s.osc })
    let s := (List.range 64).foldl showBin (s.puts b.accounts)
    let s := (List.range 16).foldl (fun s p =>
      let x := b.paths.getD p (0, 0, 0)
      let s := (setPath s p (fun y => { y with lastCreate := ofSigned 48 x.1, lastAdvance := ofSigned 48 x.2.1 })).put
        (Ob.pathStatus p) x.2.2
      retargetCreate s p) s
    let all := archiveAll s
    let s := (s.put Ob.archiveNewestSeq (((all.getLast?).map (·.1)).getD 0)).put Ob.archiveOldestSeq
      (((all.head?).map (·.1)).getD 0)
    let s := ((s.put Ob.ckptRestored c.kind).put Ob.ckptSequence c.seq).putBit Ob.ledgerLedgerStatus 2 true
    let s := s.put Ob.pTableHighWater s.plant.parcels.length
    raise (ledgerCheck s) 42 c.seq

/-! ### Access windows (R156) -/

/-- What a window selects: a parcel, or a layer with the volume below it. -/
inductive Sel where
  | none | parcel (r : Parcel) | layer (l : Layer) (below : Nat)
  deriving DecidableEq, Repr

def winSel (s : State) (w : Nat) : Sel :=
  let o := s.ob (Ob.winSelectOrdinal w)
  let p := s.ob (Ob.winSelectPath w)
  match s.ob (Ob.winMode w) with
  | 0 => match s.plant.parcels.find? (fun c => c.2.pid == s.ob (Ob.winSelectId w)) with
    | some c => .parcel c.2
    | none => .none
  | 1 => match (onPath s p)[o]? with
    | some c => .parcel c.2
    | none => .none
  | _ => match (layersOf s p)[o]? with
    | some l => .layer l (sumBy ((layersOf s p).take o) (·.volume))
    | none => .none

/-- A window's number read at one of its subindices 5 and 7–12. -/
def winNum (s : State) (w sub : Nat) : Nat :=
  match winSel s w with
  | .none => if sub = 0x0C then 0xBF800000 else 0
  | .parcel r =>
    match sub with
    | 5 => 1
    | 7 => (wbOf r.dm r.w).toBits32
    | 8 => (FX.div (FX.ofInt r.temp) (FX.ofNat 128)).toBits32
    | 9 => r.dm
    | 10 => r.w
    | 11 => (FX.mul (FX.ofNat r.pos) (pathLpc s r.path)).toBits32
    | _ => if bit r.flags 12 then (wbOfField r.measmoist).toBits32 else 0xBF800000
  | .layer l below =>
    match sub with
    | 5 => 1
    | 7 => (wbOf l.dm l.w).toBits32
    | 8 => (FX.div (FX.ofInt l.temp) (FX.ofNat 128)).toBits32
    | 9 => l.dm
    | 10 => l.w
    | 11 => (FX.ratio below 100).toBits32
    | _ => 0xBF800000

/-- The record a window shows. -/
def winBytes (s : State) (w : Nat) : List Byte :=
  match winSel s w with
  | .none => bytesLE 64 0
  | .parcel r => packParcel r
  | .layer l _ => packLayer l

/-! ### Derived reads of paths and bins -/

def pathStatusRead (s : State) (p : Nat) : Nat := setBit (s.ob (Ob.pathStatus p)) 0 (pathActive s p)

/-- EffectiveVolume (R129), of a path that is not enabled too, whose Default reads 0.0 (DESIGN CHOICE, log entry 90). -/
def effectiveVolume (s : State) (p : Nat) : FX := FX.mul (s.f (Ob.pathParcelVolume p)) (FX.ofNat (2 ^ pathLevel s p))

/-- Bin Status (R143). -/
def binStatus (s : State) (b : Nat) : Nat :=
  let l := layersOf s b
  ofBool (s.flag (Ob.binEnable b)) + 2 * ofBool l.isEmpty + 4 * ofBool (overCap s b) +
    8 * ofBool (l.any (fun x => bit x.flags 1)) +
    16 * ofBool (match assoc s.plant.drawn b with | some t => decide (s.osc < t + 10000000) | none => false)

end Sys2Proof.Machine
end

