-- ==== Sys2Proof/Machine/Model.lean ====
section
/-! DEFINITION. The parcel drying model with its isotherm and psychrometric unit (R158–R184): the air of each zone, the update of
each parcel, the projection to the end of the path, and what a step publishes. -/
namespace Sys2Proof.Machine

/-! ### Psychrometric functions and isotherms (R166–R168) -/

/-- A decimal figure of the text, n / 10^k, in binary64. -/
def dec (n k : Nat) : FX := FX.ratio n (10 ^ k)

/-- Saturation vapour pressure, Pa. -/
def psat (t : FX) : FX :=
  if FX.le (FX.neg (FX.ofNat 40)) t && FX.le t (FX.ofNat 200) then
    FX.mul (dec 61094 2) (FX.exp (FX.div (FX.mul (dec 17625 3) t) (FX.add t (dec 24304 2))))
  else Config.satPressureOpen t

def molRatio : FX := dec 621945 6

/-- Humidity ratio of a vapour pressure below the air pressure. -/
def humRatio (pv p : FX) : FX :=
  if FX.lt pv p then FX.div (FX.mul molRatio pv) (FX.sub p pv) else Config.humRatioOpen pv p

/-- Vapour pressure of a humidity ratio. -/
def pvOfRatio (x p : FX) : FX := FX.div (FX.mul x p) (FX.add molRatio x)

/-- RH from a vapour pressure, at most 1. -/
def rhOf (pv t : FX) : FX := FX.fmin FX.one (FX.div pv (psat t))

/-- Dew point of a vapour pressure, taken as at least 0.01 Pa. -/
def dewPoint (pv : FX) : FX :=
  let g := FX.ln (FX.div (FX.fmax pv (dec 1 2)) (dec 61094 2))
  FX.div (FX.mul (dec 24304 2) g) (FX.sub (dec 17625 3) g)

def enthalpy (t x : FX) : FX :=
  FX.add (FX.mul (FX.ofNat 1006) t) (FX.mul x (FX.add (FX.ofNat 2501000) (FX.mul (FX.ofNat 1860) t)))

/-- RH at T from an input of kind 0 RH, 1 dew point, 2 humidity ratio, before the clip to 0–1. -/
def rhOfKind (kind : Nat) (h t p : FX) : FX :=
  match kind with
  | 0 => h
  | 1 => if FX.gt h t then FX.one else rhOf (psat h) t
  | _ => rhOf (pvOfRatio h p) t

def clip01 (x : FX) : FX := FX.clamp x FX.zero FX.one

def posFX (x : FX) : Bool := FX.gt x FX.zero

/-- The form of R167, where its bases and arguments lie above 0. -/
def isoForm (form : Nat) (a b c t rh : FX) : Option FX :=
  match form with
  | 0 =>
    let base := FX.div (FX.neg (FX.ln (FX.sub FX.one rh))) (FX.mul a (FX.add t c))
    if posFX (FX.add t c) && !a.isZero && !b.isZero && posFX base then
      some (FX.mul (dec 1 2) (FX.pow base (FX.div FX.one b))) else none
  | 1 =>
    let arg := FX.div (FX.mul (FX.neg (FX.add t c)) (FX.ln rh)) a
    if posFX (FX.add t c) && !a.isZero && !b.isZero && posFX arg then
      some (FX.mul (FX.neg (FX.div FX.one b)) (FX.ln arg)) else none
  | 2 =>
    let base := FX.div (FX.neg (FX.exp (FX.add a (FX.mul b t)))) (FX.ln rh)
    if !c.isZero && posFX base && base.isFinite then
      some (FX.mul (dec 1 2) (FX.pow base (FX.div FX.one c))) else none
  | _ =>
    let base := FX.add a (FX.mul b t)
    if !c.isZero && posFX base then
      some (FX.mul (FX.mul (dec 1 2) base) (FX.pow (FX.div rh (FX.sub FX.one rh)) (FX.div FX.one c))) else none

/-- Equilibrium moisture of a profile, d.b. ratio; none where the isotherm is undefined (R168). -/
def isotherm (s : State) (g : Nat) (t rh : FX) : Option FX :=
  match isoForm (s.ob (Ob.grainIsoForm g)) (s.f (Ob.grainIsoA g)) (s.f (Ob.grainIsoB g)) (s.f (Ob.grainIsoC g)) t
      (FX.clamp rh (dec 1 3) (dec 999 3)) with
  | some me => if me.isFinite then some (FX.clamp me FX.zero (dec 9999 4)) else none
  | none => none

/-- A d.b. ratio as % w.b. -/
def wbOfRatio (m : FX) : FX := FX.div (FX.mul (FX.ofNat 100) m) (FX.add FX.one m)

def minusOne : FX := FX.neg FX.one

/-- % w.b. of an equilibrium moisture, −1.0 when undefined. -/
def emcWb (me : Option FX) : FX := match me with | some m => wbOfRatio m | none => minusOne

/-- Air pressure (R166). -/
def airPressure (s : State) : FX := (chanVal s Ob.modelPressureChannel).getD (s.f Ob.modelAtmPressure)

/-! ### Zones (R162, R163) -/

/-- A zone's air as resolved at the start of a step. `st` holds its SUBST bits [3:1]. -/
structure ZoneAir where
  z : Nat
  lo : Nat
  hi : Nat
  ta : FX
  rh : FX
  q : FX
  heated : Bool
  st : Nat
  deriving DecidableEq, Repr

def resolveZone (s : State) (z : Nat) : ZoneAir :=
  let p := airPressure s
  let tc := chanVal s (Ob.zoneTempChannel z)
  let ta := tc.getD (s.f (Ob.zoneFallbackTemp z))
  let kind := s.ob (Ob.zoneHumidityKind z)
  let hum : Option FX :=
    if kind = 3 then
      match chanVal s Ob.modelAmbientTempChannel, chanVal s Ob.modelAmbientRHChannel with
      | some at_, some ar => some (rhOf (pvOfRatio (humRatio (FX.mul ar (psat at_)) p) p) ta)
      | _, _ => none
    else (chanVal s (Ob.zoneHumidityChannel z)).map (fun h => rhOfKind kind h ta p)
  let fc := chanVal s (Ob.zoneFlowChannel z)
  { z, lo := s.ob (Ob.zoneStartOffset z), hi := s.ob (Ob.zoneEndOffset z), ta
    rh := clip01 (hum.getD (s.f (Ob.zoneFallbackRH z)))
    q := FX.fmax (fc.getD (s.f (Ob.zoneFallbackFlow z))) FX.zero
    heated := s.flag (Ob.zoneHeated z)
    st := 2 * ofBool tc.isNone + 4 * ofBool hum.isNone + 8 * ofBool fc.isNone }

/-- Enabled zones of a path, rising offset. R163 says each zone of the path: a disabled one is neither resolved nor published (DESIGN CHOICE,
log entry 108). -/
def pathZones (s : State) (p : Nat) : List ZoneAir :=
  sortBy (fun a b => decide (a.lo ≤ b.lo))
    (((enabledZones s).filter (fun z => s.ob (Ob.zonePath z) == p)).map (resolveZone s))

/-! ### The update of one parcel (R169–R173) -/

/-- Me, k and h of a profile in a zone. -/
def zoneRates (s : State) (lpc : FX) (g : Nat) (a : ZoneAir) : Option FX × FX × FX :=
  let vz := FX.div (FX.mul (FX.ofNat (a.hi - a.lo)) lpc) (FX.ofNat 1000)
  let x := FX.div (FX.div a.q vz) (s.f (Ob.grainQRef g))
  let k := FX.mul (FX.mul (s.f (Ob.grainRateK0 g))
      (FX.exp (FX.div (FX.neg (s.f (Ob.grainRateEa g))) (FX.add a.ta (dec 27315 2)))))
    (FX.pow x (s.f (Ob.grainAirflowExp g)))
  (isotherm s g a.ta a.rh, k, FX.mul (s.f (Ob.grainHeatK0 g)) (FX.pow x (s.f (Ob.grainHeatAirflowExp g))))

/-- The moisture step of R169. -/
def moistStep (s : State) (g : Nat) (me : Option FX) (k mi m0 dt : FX) : FX :=
  match me with
  | none => m0
  | some me =>
    if k.isZero then m0 else
    let d := FX.sub mi me
    let mr := FX.div (FX.sub m0 me) d
    let n := s.f (Ob.grainPageN g)
    let m1 :=
      if s.ob (Ob.grainModelForm g) = 1 && FX.gt d (dec 1 3) && posFX mr && FX.le mr FX.one then
        let teq := FX.pow (FX.div (FX.neg (FX.ln mr)) k) (FX.div FX.one n)
        FX.add me (FX.mul d (FX.exp (FX.mul (FX.neg k) (FX.pow (FX.add teq dt) n))))
      else FX.add me (FX.mul (FX.sub m0 me) (FX.exp (FX.mul (FX.neg k) dt)))
    FX.fmax FX.zero m1

/-- A figure as whole part and fraction in 2⁻¹⁶, (65,535, 0) at saturation (R172). R172 gives no rounding of the fraction to 2⁻¹⁶: it is
rounded down; and a whole part of exactly 65,535 counts as not saturated and keeps its fraction (DESIGN CHOICE, log entry 101). -/
def splitIndex (x : FX) : Nat × Nat :=
  let f := x.floor
  if f > 65535 then (65535, 0)
  else (f.toNat, (FX.mul (FX.sub x (FX.ofInt f)) (FX.ofNat 65536)).floor.toNat)

/-- GRAD with its fraction after dt with a change of water dW (R172). -/
def gradStep (s : State) (r : Parcel) (dt : FX) (dw : Int) : Parcel :=
  let g := r.profile
  let x := FX.add
    (FX.mul (FX.add (FX.ofNat r.grad) (FX.ratio r.grdfrac 65536)) (FX.exp (FX.div (FX.neg dt) (s.f (Ob.grainTemperTau g)))))
    (FX.mul (FX.div (FX.mul (s.f (Ob.grainGradGain g)) (FX.ofNat dw.natAbs)) (FX.ofNat r.dm)) (FX.ofNat 65536))
  let y := splitIndex x
  { r with grad := y.1, grdfrac := y.2 }

/-- A parcel's record after a step in a zone; none is no zone. Answers the record, dW and whether its isotherm was undefined. -/
def updateRecord (s : State) (lpc : FX) (zone : Option ZoneAir) (ms : Nat) (r : Parcel) : Parcel × Int × Bool :=
  let dtMs := min 60000 ((ms + 2 ^ 32 - r.tstep) % 2 ^ 32)
  let dt := FX.ratio dtMs 1000
  let g := r.profile
  let r := { r with tstep := ms % 2 ^ 32 }
  match zone with
  | none => (gradStep s r dt 0, 0, false)
  | some a =>
    let (me, k, h) := zoneRates s lpc g a
    let m0 := FX.div (FX.ofNat r.w) (FX.ofNat r.dm)
    let w1 : Nat := match me with
      | none => r.w
      | some _ => sat 32 (FX.mul (moistStep s g me k (FX.ratio r.inmoist 65536) m0 dt) (FX.ofNat r.dm)).roundAway.toNat
    let dw : Int := (r.w : Int) - w1
    let tg := FX.div (FX.ofInt r.temp) (FX.ofNat 128)
    let t1 := FX.add a.ta (FX.mul (FX.sub tg a.ta) (FX.exp (FX.mul (FX.neg h) dt)))
    let lam := FX.mul (FX.sub (FX.ofNat 2501000) (FX.mul (FX.ofNat 2361) t1))
      (FX.add FX.one (FX.mul (s.f (Ob.grainLatentA g))
        (FX.exp (FX.div (FX.mul (FX.neg (s.f (Ob.grainLatentB g))) (FX.ofNat w1)) (FX.ofNat r.dm)))))
    let cap := FX.div (FX.add (FX.mul (FX.ofNat r.dm) (s.f (Ob.grainCpDry g))) (FX.mul (FX.ofNat w1) (FX.ofNat 4186)))
      (FX.ofNat 1000)
    let tnew := FX.sub t1 (FX.div (FX.mul (FX.div (FX.ofInt dw) (FX.ofNat 1000)) lam) cap)
    let temp := tempField s tnew
    let st := splitIndex (FX.add (FX.add (FX.ofNat r.stress) (FX.ratio r.strfrac 65536))
      (FX.div (FX.mul (FX.fmax FX.zero (FX.sub tnew (s.f (Ob.grainSafeGrainTemp g)))) dt) (FX.ofNat 60)))
    let rf := if a.heated then r.resfrac + dtMs else r.resfrac
    let r := gradStep s r dt dw
    ({ r with
        w := w1, moist := if me.isSome then moistOf r.dm w1 else r.moist, wloss := s.fitS 32 (r.wloss + dw)
        temp, maxtemp := max r.maxtemp temp, flags := overtemp s g temp r.flags, stress := st.1, strfrac := st.2
        resid := min 65535 (r.resid + rf / 10000), resfrac := rf % 10000 }, dw, me.isNone)

/-- The zone a parcel lies in (R162). Enabled zones of one path overlap only outside OPERATE, where R52 is not checked, and there R162 names no
zone: the first of the path's list, that of the lowest StartOffset, is taken, and `project` goes through each (DESIGN CHOICE, log entry 100). -/
def zoneOf (zs : List ZoneAir) (pos : Nat) : Option ZoneAir := zs.find? (fun a => decide (a.lo ≤ pos ∧ pos < a.hi))

/-- The moisture projected to the end of the path, % w.b. (R177). -/
def project (s : State) (lpc rate : FX) (len : Nat) (zs : List ZoneAir) (r : Parcel) : FX :=
  let g := r.profile
  wbOfRatio (zs.foldl (fun m a =>
    let lo := max a.lo r.pos
    let hi := min a.hi len
    if a.lo < a.hi ∧ lo < hi then
      let (me, k, _) := zoneRates s lpc g a
      moistStep s g me k (FX.ratio r.inmoist 65536) m (FX.div (FX.ofNat (hi - lo)) rate)
    else m) (FX.div (FX.ofNat r.w) (FX.ofNat r.dm)))

/-! ### A step (R158–R161, R178) -/

/-- The throttle level that halves the parcel step rate is in force (R161, R412). -/
def stepHalved (s : State) : Bool := decide (1 ≤ s.ob Ob.thermThrottleLevel)

/-- The parcel engines accept no update of a parcel or a bin: from the power-fail warning until it is withdrawn and its checkpoint valid,
and in Winter entry (R153, R424, R432). -/
def ledgerStill (s : State) : Bool := s.stBit Ob.supplySupplyStatus 3 || s.plant.modelStop

/-- No step starts: the power-fail warning is in force, or Winter entry has stopped them (R161). No step starts either where no parcel engine
works, and one that falls due then is not counted (R183, R487; DESIGN CHOICE, log entry 108). -/
def modelHeld (s : State) : Bool :=
  ledgerStill s || s.ob Ob.modelEnginesWorking == 0

/-- One timed interval in tick boundaries: StepPeriod to the nearest 10 µs, twice it while halved. -/
def stepTicks (s : State) (p : Nat) : Nat :=
  let d := max 1 (FX.mul (s.f (Ob.pmodelStepPeriod p)) (FX.ofNat 100000)).roundAway.toNat
  if stepHalved s then 2 * d else d

/-- The number of the first tick boundary at or after the present instant. -/
def nextBoundary (s : State) : Nat := if s.wc = s.tickWc then s.ticks else s.ticks + 1

/-- The step clock of a path starts, or restarts, at the first tick boundary from now on (R158). Its grid is counted in tick boundaries, which a
step of WC does not move; the 10 s of displacement mode begin anew with it (DESIGN CHOICE, log entry 108). -/
def startStepClock (s : State) (p : Nat) : State :=
  setPath s p (fun x => { x with
    clockOn := true, since := s.osc + (10 - s.wc % 10) % 10, nextStep := nextBoundary s + stepTicks s p, odd := false })

/-- No profile is stepped in a zone any more, or in its present place yet: ISODOMAIN is 0 (R164), also in what a running step will publish. -/
def clearIso (s : State) (z : Nat) : State :=
  let s := s.putBit (Ob.zoneStatus z) 4 false
  { s with paths := s.paths.map (fun x => { x with
      run := x.run.map (fun r => { r with
        objs := r.objs.map (fun c => if c.1 = Ob.zoneStatus z then (c.1, setBit c.2 4 false) else c) }) }) }

/-- A zone is enabled, disabled or moved (R164). -/
def zonePlaceEff (k z v : Nat) (s : State) : State := if s.ob k = v then s else clearIso (s.put k v) z

def stopStepClock (s : State) (p : Nat) : State :=
  let s := ((enabledZones s).filter (fun z => s.ob (Ob.zonePath z) == p)).foldl clearIso s
  setPath s p (fun x => { x with clockOn := false })

/-- StepMode or StepPeriod takes a value: a step clock that runs restarts (R158). -/
def stepTimingEff (k p v : Nat) (s : State) : State :=
  let s := s.put k v
  if (pathSt s p).clockOn then startStepClock s p else s

/-- The step clock follows ModelEnable and the path's Enable after a write of either. -/
def syncStepClock (s : State) (p : Nat) : State :=
  let want := s.flag Ob.modelModelEnable && s.flag (Ob.pathEnable p)
  if want && !(pathSt s p).clockOn then startStepClock s p
  else if !want && (pathSt s p).clockOn then stopStepClock s p
  else s

/-- One parcel of a step: its record and the water it lost are committed as one unit. Gathers the zones whose isotherm was
undefined and the figures of the projection: POS, DM, projected % w.b. and present % w.b. -/
def stepParcel (p : Nat) (zs : List ZoneAir) (rate : FX) (ms : Nat) (acc : State × List Nat × List (Nat × Nat × FX × FX))
    (e : Nat) : State × List Nat × List (Nat × Nat × FX × FX) :=
  let s := acc.1
  match assoc s.plant.parcels e with
  | none => acc
  | some r =>
    let lpc := pathLpc s p
    let zone := zoneOf zs r.pos
    let clipped := decide (60000 < (ms + 2 ^ 32 - r.tstep) % 2 ^ 32)
    let u := updateRecord s lpc zone ms r
    let s := if clipped then s.inc Ob.modelStepsClipped else s
    let s := (putParcel s e u.1).tickFree
    let s := if u.2.1 = 0 then s
      else ledgerCheck (addAccS (addAccS (addAcc s Ob.ledgerWaterInProcess (-u.2.1)) Ob.ledgerWaterEvaporated u.2.1)
        (Ob.pathAcctWaterEvaporated p) u.2.1)
    let zs' := match zone with | some a => if u.2.2 then a.z :: acc.2.1 else acc.2.1 | none => acc.2.1
    (s, zs', acc.2.2 ++ [(u.1.pos, u.1.dm, project s lpc rate (s.ob (Ob.pathLengthCounts p)) zs u.1, wbOf u.1.dm u.1.w)])

/-- The figure nearest to E without exceeding the length, the higher POS on a tie (R178). -/
def nearest (e : Int) (len : Nat) (l : List (Nat × Nat × FX × FX)) : Option FX :=
  (l.foldl (fun (b : Option (Nat × FX)) x =>
    if len < x.1 then b else
    match b with
    | none => some (x.1, x.2.2.1)
    | some y =>
      let dx := ((x.1 : Int) - e).natAbs
      let dy := ((y.1 : Int) - e).natAbs
      if dx < dy ∨ (dx = dy ∧ y.1 < x.1) then some (x.1, x.2.2.1) else b) none).map (·.2)

/-- The DM-weighted mean of the projections within a window. -/
def windowMean (lo hi : Int) (l : List (Nat × Nat × FX × FX)) : Option FX :=
  let m := l.filter (fun x => decide (lo ≤ (x.1 : Int) ∧ (x.1 : Int) ≤ hi))
  if m.isEmpty then none
  else some (FX.div (m.foldl (fun t x => FX.add t (FX.mul (FX.ofNat x.2.1) x.2.2.1)) FX.zero) (FX.ofNat (sumBy m (·.2.1))))

/-- What a zone publishes at the end of the step (R164, R165), SUBST bits and ISODOMAIN of its Status with the rest (DESIGN CHOICE, log entry
108). -/
def zonePublish (s : State) (p : Nat) (iso : List Nat) (a : ZoneAir) : List (Nat × Nat) × List (Nat × Option FX × Nat) :=
  let emc := emcWb (isotherm s (s.ob (Ob.pathProfile p)) a.ta a.rh)
  let pv := FX.mul a.rh (psat a.ta)
  let sub (b : Bool) : Nat := if b then 64 else 0
  let tS := bit a.st 1
  let hS := bit a.st 2
  let b (pt : Nat) : Nat := 0x0D * 2 ^ 24 + a.z * 2 ^ 16 + pt
  ([(Ob.zoneAirZoneTemp a.z, a.ta.toBits32), (Ob.zoneAirZoneRH a.z, a.rh.toBits32), (Ob.zoneAirZoneFlow a.z, a.q.toBits32),
    (Ob.zoneEMC a.z, emc.toBits32), (Ob.zoneStatus a.z, a.st + 16 * ofBool (iso.contains a.z))],
   [(b 0, some a.ta, sub tS), (b 1, some a.rh, sub hS), (b 2, some a.q, sub (bit a.st 3)), (b 3, some emc, sub (tS || hS)),
    (b 4, some (dewPoint pv), sub (tS || hS)), (b 5, some (humRatio pv (airPressure s)), sub (tS || hS))])

/-- A model step of a path starts: every parcel on it is updated and projected, and what its end will publish is held. -/
def modelStep (s : State) (p : Nat) : State :=
  let ms := s.tickWc / 1000
  let zs := pathZones s p
  let stopped := bit (gcStatus s (pathClock s p)) 4
  let rr := FX.abs (s.f (Ob.gcRate (pathClock s p)))
  let minR := s.f (Ob.pmodelMinPredRate p)
  let stale := stopped || FX.lt rr minR
  let rate := if stale then minR else rr
  let es := (onPath s p).map (·.1)
  let r := es.foldl (stepParcel p zs rate ms) (s, [], [])
  let s := r.1
  let iso := (zs.filter (fun a => r.2.1.contains a.z)).map (·.z)
  let fig := r.2.2
  let lead := s.ob (Ob.pmodelLeadCounts p)
  let win := s.ob (Ob.pmodelWindowCounts p)
  let len := s.ob (Ob.pathLengthCounts p)
  let e : Int := (len : Int) - lead
  let v0 := nearest e len fig
  let v1 := if win = 0 then v0 else windowMean (e - win) e fig
  let v2 := (fig.head?).map (fun x => x.2.2.2)
  let v3 := some (FX.div (FX.ofNat lead) rate)
  let vals : List (Nat × Option FX) := [(0, v0), (1, v1), (2, v2), (3, v3)]
  let z := zs.map (zonePublish s p iso)
  let st := 8 * ofBool stale + 4 * ofBool (vals.any (fun v => v.2.isNone)) + 16 * ofBool (!iso.isEmpty)
  let objs := z.flatMap (·.1) ++
    vals.filterMap (fun v => v.2.map (fun x => (key (0x4290 + p) (0x08 + v.1), x.toBits32)))
  let chans := z.flatMap (·.2) ++
    vals.map (fun v => (0x0E * 2 ^ 24 + (0x20 + p) * 2 ^ 16 + v.1, v.2, 1))
  let s := (s.incBy Ob.modelIsoDomainCount iso.length).put (Ob.pmodelLastStepTime p) s.tickWc
  let s := (s.putBit (Ob.pmodelModelStatus p) 0 true).putBit (Ob.pmodelModelStatus p) 1 false
  let s := setPlant s (fun d => { d with
    updates := (s.osc, 2 * es.length) :: d.updates.filter (fun u => decide (s.osc < u.1 + 1000000)) })
  setPath s p (fun x => { x with
    since := s.osc, lastWc := s.tickWc, stepped := true, odd := false, run := some ⟨s.osc, st, objs, chans⟩ })

/-- The end of a step: its values are published (R165, R178). -/
def modelPublish (s : State) (p : Nat) : State :=
  match (pathSt s p).run with
  | none => s
  | some r =>
    let s := s.puts r.objs
    let s := r.chans.foldl (fun s c =>
      let zone := decide (bindClass c.1 = 0x0D)
      ((listed s 0x2000 4096 0x05 (fun v => v == c.1)).filter (fun n => chanType s n == (if zone then 5 else 7))).foldl (fun s n =>
        match c.2.1 with
        | some x => produce s n x (if zone then c.2.2 else 1) s.wc
        | none => feedBit s n 0 false) s) s
    let st := s.ob (Ob.pmodelModelStatus p)
    let s := s.put (Ob.pmodelModelStatus p) (r.status + 2 * ofBool (bit st 1) + 32 * ofBool (bit st 5))
    let s := s.putF (Ob.pmodelLastStepDuration p) (FX.div (FX.ofNat (s.osc - r.began)) (FX.ofNat 1000000))
    setPath s p (fun x => { x with run := none })

/-- A step starts when an advance of the path completes, in displacement mode (R158, R161). One that qualifies while the last step still runs
starts none and counts nowhere (DESIGN CHOICE, log entry 108). -/
def displacementStep (s : State) (p : Nat) : State :=
  let x := pathSt s p
  if !x.clockOn || s.ob (Ob.pmodelStepMode p) != 1 || modelHeld s || x.run.isSome ||
      (x.stepped && decide (s.wc < x.lastWc + 100000)) then s
  else if stepHalved s && !x.odd then setPath s p (fun x => { x with odd := true })
  else modelStep s p

/-! ### Commands -/

/-- MODEL_STEP_TIMED (R158, R161): path. Where halving begins or ends between two due steps the one that is due stays so, and the interval after
it is the new one (DESIGN CHOICE, log entry 108). -/
def stepTimed (s : State) (p : Nat) : State :=
  let x := pathSt s p
  if s.phase = .run ∧ x.clockOn ∧ s.ob (Ob.pmodelStepMode p) = 0 ∧ x.nextStep ≤ s.ticks then
    let s := setPath s p (fun x => { x with nextStep := x.nextStep + stepTicks s p })
    if modelHeld s then s
    else if x.run.isSome then (s.putBit (Ob.pmodelModelStatus p) 1 true).inc Ob.modelStepsSkipped
    else modelStep s p
  else s

/-- MODEL_STEP_FALLBACK (R158): 10 s without a step in displacement mode, counted in oscillator time (DESIGN CHOICE, log entry 108). -/
def stepFallback (s : State) (p : Nat) : State :=
  let x := pathSt s p
  if s.phase = .run ∧ x.clockOn ∧ s.ob (Ob.pmodelStepMode p) = 1 ∧ x.since + 10000000 ≤ s.osc ∧ !modelHeld s ∧
      x.run.isNone then modelStep s p
  else s

/-! ### Derived reads (R164, R181, R182) -/

/-- Zone Status (R164): ACTIVE follows the zone and its path. -/
def zoneStatusRead (s : State) (z : Nat) : Nat := setBit (s.ob (Ob.zoneStatus z)) 0 (zoneActive s z)

/-- ModelStatus (R180): ISODOMAIN is that of the path's zones, STEPPING that a step runs. -/
def modelStatusRead (s : State) (p : Nat) : Nat :=
  let iso := (enabledZones s).any (fun z => s.ob (Ob.zonePath z) == p && bit (zoneStatusRead s z) 4)
  setBit (setBit (s.ob (Ob.pmodelModelStatus p)) 4 iso) 0 (pathSt s p).run.isSome

/-- Updates and projections over the last 1 s. -/
def updatesPerSecond (s : State) : Nat :=
  sumBy (s.plant.updates.filter (fun u => decide (s.osc < u.1 + 1000000))) (·.2)

/-- Load (R181): over the guaranteed 1,000,000 updates/s of each working engine; open where none works. -/
def modelLoad (s : State) : Nat :=
  let n := s.ob Ob.modelEnginesWorking
  if n = 0 then Config.openRead Ob.modelLoad s.fresh % 2 ^ 32 else (FX.ratio (updatesPerSecond s) (n * 1000000)).toBits32

/-- The outputs of the evaluation objects (R182). HumidityRatio and Enthalpy are formed from the clipped RH as the others are (DESIGN CHOICE, log
entry 108). -/
def evalRead (s : State) (sub : Nat) : Nat :=
  let t := s.f Ob.evalEvalTemp
  let p := s.f Ob.evalEvalPressure
  let k := s.ob Ob.evalEvalKind
  let h0 := s.f Ob.evalEvalHumidity
  let h := match k with
    | 0 => clip01 h0
    | 1 => FX.clamp h0 (FX.neg (FX.ofNat 40)) (FX.ofNat 200)
    | _ => FX.clamp h0 FX.zero (FX.ofNat 10)
  let rh := clip01 (rhOfKind k h t p)
  let pv := FX.mul rh (psat t)
  let me := isotherm s (s.ob Ob.evalEvalProfile) t rh
  let x := humRatio pv p
  let r : FX := match sub with
    | 6 => psat t
    | 7 => rh
    | 8 => if FX.lt pv p then x else minusOne
    | 9 => dewPoint pv
    | 10 => if FX.lt pv p then enthalpy t x else minusOne
    | 11 => me.getD minusOne
    | _ => emcWb me
  r.toBits32

end Sys2Proof.Machine
end

