-- ==== Sys2Proof/Machine/Sequencing.lean ====
section
/-! DEFINITION. Sequencing of the plant (R271–R296): rounds, conveyor chains, dryers and bin aeration, and the requests they make of
the control plane. Times are on the sequencer's clock, µs of WC without the restarts of the application cores. -/
namespace Sys2Proof.Machine

def setSeq (s : State) (g : SeqSt → SeqSt) : State := { s with seq := g s.seq }
def convSt (s : State) (c : Nat) : ConvSt := s.seq.convs[Fin.ofNat 32 c]
def setConv (s : State) (c : Nat) (g : ConvSt → ConvSt) : State :=
  setSeq s (fun q => { q with convs := q.convs.set (Fin.ofNat 32 c) (g (convSt s c)) })
def chainSt (s : State) (k : Nat) : ChainSt := s.seq.chains[Fin.ofNat 8 k]
def setChain (s : State) (k : Nat) (g : ChainSt → ChainSt) : State :=
  setSeq s (fun q => { q with chains := q.chains.set (Fin.ofNat 8 k) (g (chainSt s k)) })
def dryerSt (s : State) (d : Nat) : DryerSt := s.seq.dryers[Fin.ofNat 4 d]
def setDryer (s : State) (d : Nat) (g : DryerSt → DryerSt) : State :=
  setSeq s (fun q => { q with dryers := q.dryers.set (Fin.ofNat 4 d) (g (dryerSt s d)) })
def aerSt (s : State) (b : Nat) : AerSt := s.seq.aer[Fin.ofNat 64 b]
def setAer (s : State) (b : Nat) (g : AerSt → AerSt) : State :=
  setSeq s (fun q => { q with aer := q.aer.set (Fin.ofNat 64 b) (g (aerSt s b)) })

/-- Whether `d` seconds (an F32 object) have passed since a time on the sequencer's clock. -/
def passed (s : State) (from_ k : Nat) : Bool := decide (from_ + s.micros k ≤ s.seq.clock)

/-- The same since a time that may not be running. -/
def passedOpt (s : State) (from_ : Option Nat) (k : Nat) : Bool :=
  match from_ with
  | some t => passed s t k
  | none => false

/-- A condition's start: kept while it holds, now where it begins, none where it does not hold. -/
def track (s : State) (t : Option Nat) (holds : Bool) : Option Nat := if holds then some (t.getD s.seq.clock) else none

/-- A named input channel is active (R274). -/
def inActive (s : State) (k : Nat) : Bool :=
  match chanVal s k with
  | some v => FX.ge v (FX.ratio 1 2)
  | none => false

/-- A named input channel has VALID 0. -/
def inInvalid (s : State) (k : Nat) : Bool := decide (s.ob k < 4096) && !chanValid s (s.ob k)

/-! ### Requests (R273) -/

def request (s : State) (r : SeqReq) : State := setSeq s (fun q => { q with reqs := q.reqs ++ [r] })

/-- Switches a named run output channel. -/
def requestOut (s : State) (k : Nat) (on : Bool) : State := if s.ob k < 4096 then request s (.output (s.ob k) on) else s

def requestMode (s : State) (loop m : Nat) : State := if loop < 512 then request s (.mode loop m) else s

/-- Writes a loop's ManualChannel, where it has one. -/
def requestManual (s : State) (loop v : Nat) : State :=
  if loop < 512 ∧ s.ob (Ob.loopManualChannel loop) < 4096 then request s (.manual (s.ob (Ob.loopManualChannel loop)) v) else s

/-- The control plane carries out one request. -/
def carryOut (s : State) (r : SeqReq) : State :=
  match r with
  | .output c on => writeChan s c (if on then 0x3F800000 else 0) (setBit (s.ob (Ob.chanStatus c)) 0 true) s.wc
  | .manual c v => writeChan s c v (setBit (s.ob (Ob.chanStatus c)) 0 true) s.wc
  | .mode l m => s.put (Ob.loopMode l) m

/-- The requests of the last round, at the next tick. -/
def carryRequests (s : State) : State :=
  let r := s.seq.reqs
  r.foldl carryOut (setSeq s (fun q => { q with reqs := [] }))

/-! ### Conveyors (R277, R279, R282) -/

/-- Switches a conveyor's run output. -/
def convSwitch (s : State) (c : Nat) (on : Bool) : State :=
  if (convSt s c).on = on then s
  else
    let s := setConv s c (fun x => { x with on, onAt := if on then s.seq.clock else x.onAt, proved := false, lowAt := none })
    requestOut s (Ob.convRunChannel c) on

/-- A conveyor's State object: a fault stays until it is reset. -/
def convShow (s : State) (c : Nat) : State :=
  let x := convSt s c
  if s.ob (Ob.convFaultCause c) ≠ 0 then seqStep s (Ob.convState c) 3
  else seqStep s (Ob.convState c) (if x.on then (if x.proved then 2 else 1) else 0)

/-- Motion and plug inputs of a conveyor are taken: proof, and since when it is below its rate or plugged. -/
def convSense (s : State) (c : Nat) : State :=
  let named := decide (s.ob (Ob.convMotionChannel c) < 4096)
  let v := chanVal s (Ob.convMotionChannel c)
  let ok := match v with
    | some x => FX.ge x (s.f (Ob.convMinPulseRate c))
    | none => false
  let x := convSt s c
  let proves := x.on && !x.proved && (if named then ok else decide (x.onAt < s.seq.clock))
  setConv s c (fun x => { x with
    proved := x.proved || proves
    provedAt := if proves then s.seq.clock else x.provedAt
    lowAt := track s x.lowAt (x.on && x.proved && named && !ok)
    plugAt := track s x.plugAt (inActive s (Ob.convPlugChannel c)) })

/-- PulseRate of a conveyor (R277): the Value of its MotionChannel. -/
def pulseRateRead (s : State) (c : Nat) : Nat :=
  if s.ob (Ob.convMotionChannel c) < 4096 then s.ob (Ob.chanValue (s.ob (Ob.convMotionChannel c))) else 0

/-- The fault cause a chain member shows (R282), 0 for none. -/
def convCause (s : State) (c : Nat) : Nat :=
  let x := convSt s c
  if passedOpt s x.plugAt (Ob.convPlugTime c) then 3
  else if x.on && !x.proved && passed s x.onAt (Ob.convMotionStartTime c) then 1
  else if x.on && x.proved && passedOpt s x.lowAt (Ob.convMotionLossTime c) then 2
  else 0

/-! ### Chains (R279–R282) -/

/-- Members from `n` on go off as their purge runs out; the chain's next member and the time its predecessor went off follow. -/
def purgeFrom (k : Nat) : Nat → List Nat → State → State
  | _, [], s => s
  | i, c :: rest, s =>
    let x := chainSt s k
    if i < x.offNext then purgeFrom k (i + 1) rest s
    else if !(convSt s c).on then
      purgeFrom k (i + 1) rest (setChain s k (fun x => { x with offNext := i + 1 }))
    else if i = 0 || passed s x.offAt (Ob.convPurgeTime c) then
      let s := convSwitch s c false
      purgeFrom k (i + 1) rest (setChain s k (fun x => { x with offNext := i + 1, offAt := s.seq.clock }))
    else s

/-- Starts members in reverse flow order (R279). `next` is the member after, as conveyor number. -/
def startMembers (k : Nat) : Option Nat → List Nat → State → State
  | _, [], s => s
  | next, c :: rest, s =>
    let due := match next with
      | none => passed s (chainSt s k).startAt (Ob.convStartDelay c)
      | some n => (convSt s n).proved && passed s (convSt s n).provedAt (Ob.convStartDelay c)
    let s := if due then convSwitch s c true else s
    startMembers k (some c) rest s

/-- The members of a chain that fault in this round, by member index, those already in fault left out. -/
def newFaults (s : State) (ms : List Nat) : List (Nat × Nat × Nat) :=
  (List.range ms.length).filterMap (fun i =>
    let c := ms.getD i 0
    let v := convCause s c
    if v ≠ 0 ∧ s.ob (Ob.convFaultCause c) = 0 then some (i, c, v) else none)

/-- A chain enters FAULT at member i (R282). -/
def chainFault (s : State) (k i : Nat) (ms : List Nat) : State :=
  let s := (ms.take (i + 1)).foldl (fun s c => convSwitch s c false) s
  let s := setChain s k (fun x => { x with cmd := 0, offNext := i + 1, offAt := s.seq.clock })
  (((seqStep s (Ob.chainState k) 4).put (Ob.chainFaultMember k) i).put (Ob.chainFaultTime k) s.wc)

/-- The latched command of a chain (R281). -/
def chainCommandNow (s : State) (k : Nat) (ms : List Nat) : State :=
  let cmd := (chainSt s k).cmd
  let s := setChain s k (fun x => { x with cmd := 0 })
  match cmd with
  | 1 => seqStep (setChain s k (fun x => { x with startAt := s.seq.clock })) (Ob.chainState k) 1
  | 2 => seqStep (setChain s k (fun x => { x with offNext := 0, offAt := s.seq.clock })) (Ob.chainState k) 3
  | 3 =>
    let s := ms.foldl (fun s c => s.put (Ob.convFaultCause c) 0) s
    seqStep (s.put (Ob.chainFaultMember k) 0xFF) (Ob.chainState k) 0
  | _ => s

/-- One chain in a round: faults, then the command, then the timers. -/
def chainRound (s : State) (k : Nat) : State :=
  let ms := chainMembers s k
  let s := ms.foldl convSense s
  let fs := newFaults s ms
  let s := fs.foldl (fun s f => s.put (Ob.convFaultCause f.2.1) f.2.2) s
  let s := match fs with
    | f :: _ => if s.ob (Ob.chainState k) = 4 then s else chainFault s k f.1 ms
    | [] => s
  let s := chainCommandNow s k ms
  let s := match s.ob (Ob.chainState k) with
    | 1 =>
      let s := startMembers k none ms.reverse s
      if (ms.head?.map (fun c => (convSt s c).proved)).getD false then seqStep s (Ob.chainState k) 2 else s
    | 3 =>
      let s := purgeFrom k 0 ms s
      if ms.all (fun c => !(convSt s c).on) then seqStep s (Ob.chainState k) 0 else s
    | 4 => purgeFrom k 0 ms s
    | _ => s
  ms.foldl convShow s

/-- Aborts of a chain command (R281). -/
def chainCodes (s : State) (k v : Nat) : List Nat :=
  let st := s.ob (Ob.chainState k)
  let ms := chainMembers s k
  let plug := ms.any (fun c => inActive s (Ob.convPlugChannel c))
  let ok := s.inOperate && match v with
    | 1 => st == 0 && !plug
    | 2 => st == 1 || st == 2
    | 3 => st == 4 && ms.all (fun c => !(convSt s c).on) && !plug
    | _ => true
  if ok then [] else [0x00030002]

def chainLatch (k v : Nat) (s : State) : State := setChain s k (fun x => { x with cmd := v })

/-! ### Dryers (R283–R289) -/

def plenumFeedback (s : State) (d : Nat) : FX := chanF s (s.ob (Ob.loopFeedbackChannel (s.ob (Ob.dryerPlenumLoop d))))

/-- DischargeChain is RUNNING; 0xFF counts as always RUNNING. -/
def chainRuns (s : State) (d : Nat) : Bool :=
  let c := s.ob (Ob.dryerDischargeChain d)
  c ≥ 8 || s.ob (Ob.chainState c) == 2

def dryerInputs (d : Nat) : List Nat :=
  [Ob.dryerHeatProvenChannel d, Ob.dryerFullChannel d, Ob.dryerEmptyChannel d, Ob.dryerFanProvenChannel d,
   Ob.dryerBatchEndChannel d]

/-- Inputs of a dryer are taken and its supervision timers follow. -/
def dryerSense (s : State) (d : Nat) : State :=
  let proven := inActive s (Ob.dryerHeatProvenChannel d)
  let fanNamed := decide (s.ob (Ob.dryerFanProvenChannel d) < 4096)
  let fanIn := inActive s (Ob.dryerFanProvenChannel d)
  setDryer s d (fun x => { x with
    fanProved := x.fan && (x.fanProved || (if fanNamed then fanIn else decide (x.fanAt < s.seq.clock)))
    fanSeen := x.fan && (x.fanSeen || fanIn)
    fanLowAt := track s x.fanLowAt (x.fan && fanNamed && x.fanSeen && !fanIn)
    heatSeen := x.heat && (x.heatSeen || proven)
    heatLowAt := track s x.heatLowAt (x.heat && x.heatSeen && !proven)
    stuckAt := track s x.stuckAt (!x.heat && proven)
    highRuns := if FX.gt (plenumFeedback s d) (s.f (Ob.dryerPlenumTrip d)) then x.highRuns + 1 else 0 })

/-- The waits of R287: since when the chain does not run, or the level is low, while the step would meter. -/
def dryerWaits (s : State) (d : Nat) : State :=
  let step := s.ob (Ob.dryerStep d)
  let drying := step = 3 && s.ob (Ob.dryerKind d) = 0
  let full := inActive s (Ob.dryerFullChannel d)
  let runs := chainRuns s d
  setDryer s d (fun x => { x with
    chainAt := track s x.chainAt ((drying || step = 5) && !runs), levelAt := track s x.levelAt (drying && !full) })

/-- The causes of R288 that occur, as FaultCause bits (R289). -/
def dryerCauses (s : State) (d : Nat) : Nat :=
  let x := dryerSt s d
  let step := s.ob (Ob.dryerStep d)
  let fanNamed := decide (s.ob (Ob.dryerFanProvenChannel d) < 4096)
  ofBool (x.heat && !x.heatSeen && passed s x.heatAt (Ob.dryerProvenTimeout d)) +
  2 * ofBool (passedOpt s x.heatLowAt (Ob.dryerProvenLossTime d)) +
  4 * ofBool (step = 1 && passed s x.stepAt (Ob.dryerFillTimeout d)) +
  8 * ofBool (step = 5 && passed s x.stepAt (Ob.dryerEmptyTimeout d)) +
  16 * ofBool (passedOpt s x.chainAt (Ob.dryerWaitTime d)) +
  32 * ofBool (passedOpt s x.levelAt (Ob.dryerWaitTime d)) +
  64 * ofBool (fanNamed && x.fan && ((!x.fanSeen && passed s x.fanAt (Ob.dryerProvenTimeout d)) ||
    passedOpt s x.fanLowAt (Ob.dryerProvenLossTime d))) +
  128 * ofBool (decide (3 ≤ x.highRuns)) +
  256 * ofBool (passedOpt s x.stuckAt (Ob.dryerProvenTimeout d))

/-- A dryer goes to a step (R286). -/
def dryerGo (s : State) (d step : Nat) : State :=
  seqStep (setDryer s d (fun x => { x with
      stepAt := s.seq.clock, dwellAt := none, chainAt := none, levelAt := none, unload := x.unload && step = 4 }))
    (Ob.dryerStep d) step

/-- A dryer enters FAULT with its causes, or takes further ones (R288). -/
def dryerFault (s : State) (d causes : Nat) : State :=
  if s.ob (Ob.dryerStep d) = 6 then s.put (Ob.dryerFaultCause d) (s.ob (Ob.dryerFaultCause d) ||| causes)
  else
    let s := (s.put (Ob.dryerFaultCause d) causes).put (Ob.dryerFaultTime d) s.wc
    dryerGo (setDryer s d (fun x => { x with cmd := 0, fanOff := bit causes 6 })) d 6

/-- The latched command of a dryer (R285). -/
def dryerCommandNow (s : State) (d : Nat) : State :=
  let cmd := (dryerSt s d).cmd
  let step := s.ob (Ob.dryerStep d)
  let s := setDryer s d (fun x => { x with cmd := 0 })
  match cmd with
  | 1 => if step = 0 then dryerGo s d 1 else s
  | 2 => if step = 1 ∨ step = 5 then dryerGo s d 0
    else if step = 2 ∨ step = 3 then dryerGo s d 4 else s
  | 3 =>
    if step = 0 then dryerGo s d 5
    else if step = 4 then setDryer s d (fun x => { x with unload := true })
    else if 1 ≤ step ∧ step ≤ 3 then dryerGo (setDryer s d (fun x => { x with unload := true })) d 4
    else s
  | 4 => if step = 6 then dryerGo (s.put (Ob.dryerFaultCause d) 0) d 0 else s
  | _ => s

/-- Whether the condition of a step that must hold for a dwell holds now (R286). -/
def dwellHolds (s : State) (d : Nat) : Bool :=
  match s.ob (Ob.dryerStep d) with
  | 2 =>
    let sp := chanF s (s.ob (Ob.loopSetpointChannel (s.ob (Ob.dryerPlenumLoop d))))
    FX.le (FX.abs (FX.sub (plenumFeedback s d) sp)) (s.f (Ob.dryerWarmupBand d))
  | 3 => s.ob (Ob.dryerKind d) = 1 && (match chanVal s (Ob.dryerBatchEndChannel d) with
    | some v => FX.le v (s.f (Ob.dryerBatchTarget d))
    | none => false)
  | 5 => inActive s (Ob.dryerEmptyChannel d)
  | _ => false

/-- The step conditions of R286. -/
def dryerTimers (s : State) (d : Nat) : State :=
  let s := setDryer s d (fun x => { x with dwellAt := track s x.dwellAt (dwellHolds s d) })
  let x := dryerSt s d
  match s.ob (Ob.dryerStep d) with
  | 1 => if inActive s (Ob.dryerFullChannel d) then dryerGo s d 2 else s
  | 2 => if passedOpt s x.dwellAt (Ob.dryerWarmupDwell d) then dryerGo s d 3 else s
  | 3 => if s.ob (Ob.dryerKind d) = 1 && passedOpt s x.dwellAt (Ob.dryerWarmupDwell d) then
      dryerGo (setDryer s d (fun x => { x with unload := true })) d 4 else s
  | 4 => if passed s x.stepAt (Ob.dryerCoolTime d) then dryerGo s d (if x.unload then 5 else 0) else s
  | 5 => if passedOpt s x.dwellAt (Ob.dryerEmptyDwell d) then
      dryerGo s d (if s.ob (Ob.dryerKind d) = 1 && s.flag (Ob.dryerAutoCycle d) then 1 else 0) else s
  | _ => s

/-- What a dryer's step drives: fan, heat in Auto, metering, discharge loop mode (R286). -/
def dryerWants (s : State) (d : Nat) : Bool × Bool × Bool × Nat :=
  let x := dryerSt s d
  let step := s.ob (Ob.dryerStep d)
  let cont := s.ob (Ob.dryerKind d) == 0
  let runs := chainRuns s d
  let full := inActive s (Ob.dryerFullChannel d)
  let fan := step = 2 || step = 3 || step = 4 || (step = 6 && !x.fanOff && !passed s x.stepAt (Ob.dryerCoolTime d))
  let meter := (step = 3 && cont && runs && full) || (step = 5 && runs)
  (fan, (step = 2 || step = 3) && x.fan && x.fanProved, meter,
    if !meter then 2 else if step = 5 then 1 else 0)

/-- Issues a dryer's requests: all of them at a step change, otherwise those that changed. -/
def dryerDrive (s : State) (d : Nat) (all : Bool) : State :=
  let w := dryerWants s d
  let x := dryerSt s d
  let pl := s.ob (Ob.dryerPlenumLoop d)
  let dl := s.ob (Ob.dryerDischargeLoop d)
  let s := if all || w.1 != x.fan then requestOut s (Ob.dryerFanRunChannel d) w.1 else s
  let s := if all || w.2.1 != x.heat then
      (if w.2.1 then requestMode s pl 0 else requestMode (requestManual s pl (s.ob (Ob.dryerHeatOffValue d))) pl 1) else s
  let s := if all || w.2.2.1 != x.meter then
      let s := requestOut s (Ob.dryerMeteringRunChannel d) w.2.2.1
      let s := if w.2.2.2 = 1 then requestManual s dl (s.ob (Ob.dryerUnloadSpeed d)) else s
      requestMode s dl w.2.2.2 else s
  setDryer s d (fun x => { x with
    fan := w.1, fanAt := if w.1 && !x.fan then s.seq.clock else x.fanAt, fanProved := w.1 && x.fan && x.fanProved
    fanSeen := w.1 && x.fan && x.fanSeen, heat := w.2.1, heatAt := if w.2.1 && !x.heat then s.seq.clock else x.heatAt
    heatSeen := w.2.1 && x.heat && x.heatSeen, meter := w.2.2.1 })

/-- What the rounds decide of a dryer's Status (R289). -/
def dryerShow (s : State) (d : Nat) : State :=
  let x := dryerSt s d
  s.put (Ob.dryerStatus d) (ofBool x.fan + 2 * ofBool x.meter + 8 * ofBool x.fanProved + 16 * ofBool x.chainAt.isSome +
    32 * ofBool x.levelAt.isSome + 256 * ofBool x.unload)

/-- Dryer Status as a read shows it (R289): HEATAUTO follows the plenum loop's Mode, INPUTINVALID and HEATPROVEN the inputs. -/
def dryerStatusRead (s : State) (d : Nat) : Nat :=
  let l := s.ob (Ob.dryerPlenumLoop d)
  let st := setBit (s.ob (Ob.dryerStatus d)) 2 (decide (l < 512) && s.ob (Ob.loopMode l) == 0)
  setBit (setBit st 6 ((dryerInputs d).any (inInvalid s))) 7 (inActive s (Ob.dryerHeatProvenChannel d))

/-- Seconds since entry to Step (R283). -/
def dryerStepTime (s : State) (d : Nat) : Nat := (FX.ratio (seqNow s - (dryerSt s d).stepAt) 1000000).toBits32

/-- One dryer in a round: faults, the command, the step conditions, the outputs. -/
def dryerRound (s : State) (d : Nat) : State :=
  let before := s.ob (Ob.dryerStep d)
  let s := dryerWaits (dryerSense s d) d
  let c := dryerCauses s d
  let s := if c = 0 then s else dryerFault s d c
  let s := dryerWaits (dryerTimers (dryerCommandNow s d) d) d
  dryerShow (dryerDrive s d (decide (s.ob (Ob.dryerStep d) ≠ before))) d

/-- A cause is present for Reset (R288). -/
def dryerCausePresent (s : State) (d : Nat) : Bool :=
  FX.gt (plenumFeedback s d) (s.f (Ob.dryerPlenumTrip d)) || inActive s (Ob.dryerHeatProvenChannel d)

/-- Aborts of a dryer command (R285). -/
def dryerCodes (s : State) (d v : Nat) : List Nat :=
  let step := s.ob (Ob.dryerStep d)
  let ok := s.inOperate && match v with
    | 1 => step == 0
    | 2 => step == 1 || step == 5 || step == 2 || step == 3
    | 3 => decide (step ≤ 4)
    | 4 => step == 6 && !dryerCausePresent s d
    | _ => true
  if ok then [] else [0x00030002]

def dryerLatch (d v : Nat) (s : State) : State := setDryer s d (fun x => { x with cmd := v })

/-- Keys whose writes abort while a dryer is not in IDLE (R273): Mode of its loops, the Value of their ManualChannel, and the
Value of its output channels. -/
def dryerOwned (s : State) : List Nat :=
  (enabledDryers s).flatMap (fun d =>
    if s.ob (Ob.dryerStep d) = 0 then []
    else
      let ls := [s.ob (Ob.dryerPlenumLoop d), s.ob (Ob.dryerDischargeLoop d)].filter (fun l => decide (l < 512))
      ls.map (fun l => Ob.loopMode l) ++
      (ls.filter (fun l => decide (s.ob (Ob.loopManualChannel l) < 4096))).map (fun l => Ob.chanValue (s.ob (Ob.loopManualChannel l))) ++
      (([Ob.dryerFanRunChannel d, Ob.dryerMeteringRunChannel d].filter (fun k => decide (s.ob k < 4096))).map
        (fun k => Ob.chanValue (s.ob k))))

/-! ### Aeration (R291–R296) -/

/-- Switches a bin's fan. -/
def aerSwitch (s : State) (b : Nat) (on : Bool) : State :=
  if (aerSt s b).fan = on then s
  else
    let s := setAer s b (fun x => { x with fan := on, fanAt := s.seq.clock, superAt := s.seq.clock, seen := false, lowAt := none })
    let s := seqStep s (Ob.aerState b) (if s.ob (Ob.aerState b) = 2 then 2 else if on then 1 else 0)
    requestOut s (Ob.aerFanRunChannel b) on

/-- A bin's fan in a round: supervision of its proof, the latched reset, a new mode, and the run time (R294, R295). -/
def aerRound (dt : Nat) (s : State) (b : Nat) : State :=
  let mode := s.ob (Ob.aerMode b)
  let named := decide (s.ob (Ob.aerFanProvenChannel b) < 4096)
  let act := inActive s (Ob.aerFanProvenChannel b)
  let s := setAer s b (fun x => { x with
    ranMicros := x.ranMicros + (if x.fan then dt else 0)
    seen := x.fan && (x.seen || act), lowAt := track s x.lowAt (x.fan && named && x.seen && !act) })
  let s := s.put (Ob.aerRunTime b) (wrap 32 ((aerSt s b).ranMicros / 1000000))
  let x := aerSt s b
  let bad := named && x.fan && ((!x.seen && decide (x.superAt + 10000000 ≤ s.seq.clock)) ||
    (match x.lowAt with | some t => decide (t + 2000000 ≤ s.seq.clock) | none => false))
  let s := if bad then
      let s := seqStep s (Ob.aerState b) 2
      aerSwitch (setAer s b (fun x => { x with cmd := 0 })) b false
    else s
  let reset := (aerSt s b).cmd = 1
  let s := if reset then
      let s := setAer s b (fun x => { x with cmd := 0, metAt := none, failAt := none })
      seqStep s (Ob.aerState b) 0
    else s
  let s := if (aerSt s b).mode = mode then s else setAer s b (fun x => { x with mode, metAt := none, failAt := none })
  if s.ob (Ob.aerState b) = 2 || reset then s
  else if mode = 0 then aerSwitch s b false
  else if mode = 1 then aerSwitch s b true
  else s

/-- Tg of a bin (R292). -/
def binGrainTemp (s : State) (b : Nat) : Option FX :=
  if s.ob (Ob.aerGrainTempChannel b) < 4096 then chanVal s (Ob.aerGrainTempChannel b)
  else
    let l := layersOf s b
    if l.isEmpty then none
    else some (FX.div (FX.ofInt (wavgAll (l.map (fun x => (x.temp, x.dm + x.w))))) (FX.ofNat 128))

/-- The profile whose isotherm judges a bin. -/
def binProfile (s : State) (b : Nat) : Option Nat :=
  if s.ob (Ob.aerProfile b) < 32 then some (s.ob (Ob.aerProfile b))
  else match layersOf s b with
    | [] => none
    | x :: xs => some (xs.foldl (fun (t : Layer) y => if y.dm > t.dm then y else t) x).profile

/-- Evaluates a bin in Mode 2–4: the plenum air, the conditions of R293, and the switches of R294. -/
def aerEvaluate (s : State) (b : Nat) : State :=
  let mode := s.ob (Ob.aerMode b)
  if mode < 2 then s
  else
    let at_ := chanVal s Ob.modelAmbientTempChannel
    let ar := chanVal s Ob.modelAmbientRHChannel
    let tg := binGrainTemp s b
    let s := match at_ with
      | some ta => s.putF (Ob.aerPlenumTemp b) (FX.add ta (s.f (Ob.aerFanRise b)))
      | none => s
    let s := match at_, ar with
      | some ta, some rh =>
        let tp := FX.add ta (s.f (Ob.aerFanRise b))
        let rp := rhOf (FX.mul rh (psat ta)) tp
        let me := (binProfile s b).bind (fun g => isotherm s g tp rp)
        (s.putF (Ob.aerPlenumRH b) rp).putF (Ob.aerPlenumEMC b) (emcWb me)
      | _, _ => s
    let s := match tg with | some t => s.putF (Ob.aerGrainTemp b) t | none => s
    let tp := s.f (Ob.aerPlenumTemp b)
    let emc := s.f (Ob.aerPlenumEMC b)
    let air := at_.isSome && ar.isSome && FX.ge emc FX.zero
    let tgt := s.f (Ob.aerTargetMoisture b)
    let lo := FX.sub tgt (s.f (Ob.aerDryBand b))
    let hi := FX.add tgt (s.f (Ob.aerWetBand b))
    let warm := FX.ge tp (s.f (Ob.aerMinAirTemp b))
    let cool := match mode, tg with
      | 2, some g => FX.le tp (FX.sub g (s.f (Ob.aerCoolDelta b)))
      | 4, some g => FX.le tp g
      | _, _ => true
    let mOk := FX.le lo emc && FX.le emc (if mode = 3 then tgt else hi)
    let met := air && tg.isSome && warm && cool && mOk
    let s := setAer s b (fun x => { x with metAt := track s x.metAt met, failAt := track s x.failAt (!met) })
    let x := aerSt s b
    let fault := s.ob (Ob.aerState b) == 2
    let wantOn := !fault && !x.fan && passedOpt s x.metAt (Ob.aerOpenDwell b)
    let wantOff := x.fan && passedOpt s x.failAt (Ob.aerCloseDwell b)
    let onOk := passed s x.fanAt (Ob.aerMinOff b)
    let offOk := passed s x.fanAt (Ob.aerMinRun b)
    let s := s.put (Ob.aerStatus b) (2 * ofBool met + 4 * ofBool ((wantOn && !onOk) || (wantOff && !offOk)) +
      8 * ofBool (at_.isSome && !(warm && cool)) + 16 * ofBool (air && FX.lt emc lo) + 32 * ofBool (air && FX.gt emc hi))
    if wantOn && onOk then aerSwitch s b true
    else if wantOff && offOk then aerSwitch s b false
    else s

/-- INPUTINVALID of a bin: a named input invalid (R274), and in Mode 2–4 no ambient air, no grain temperature, or an isotherm undefined
at the last evaluation (R292). -/
def aerInvalid (s : State) (b : Nat) : Bool :=
  inInvalid s (Ob.aerFanProvenChannel b) || inInvalid s (Ob.aerGrainTempChannel b) ||
  (decide (2 ≤ s.ob (Ob.aerMode b)) &&
    ((chanVal s Ob.modelAmbientTempChannel).isNone || (chanVal s Ob.modelAmbientRHChannel).isNone ||
      (binGrainTemp s b).isNone || FX.lt (s.f (Ob.aerPlenumEMC b)) FX.zero))

/-- Aeration Status as a read shows it (R296): what the evaluations judge stands at 0 in Modes 0 and 1. -/
def aerStatusRead (s : State) (b : Nat) : Nat :=
  let st := if s.ob (Ob.aerMode b) < 2 then 0 else s.ob (Ob.aerStatus b)
  setBit (setBit (setBit st 0 (aerSt s b).fan) 6 (aerInvalid s b)) 7 (s.ob (Ob.aerState b) == 2)

/-- Aborts of the aeration command (R291). -/
def aerCodes (s : State) (b : Nat) : List Nat :=
  if s.ob (Ob.aerState b) = 2 then [] else [0x00030002]

def aerLatch (b : Nat) (s : State) : State := setAer s b (fun x => { x with cmd := 1 })

/-- Aborts of a write of aeration Mode (R291). -/
def aerModeCodes (s : State) (b v : Nat) : List Nat :=
  if 1 ≤ v ∧ v ≤ 4 ∧ s.ob (Ob.aerFanRunChannel b) = 0xFFFF then [0x00050006] else []

/-! ### Rounds (R271–R275) -/

/-- Rounds run (R275). -/
def roundsRun (s : State) : Bool := s.inOperate && !s.appDown

/-- The sequencer's clock follows WC (R271). -/
def seqTime (s : State) : State := setSeq s (fun q => { q with clock := s.seq.clock + (s.wc - s.seq.lastWc), lastWc := s.wc, gap := false })

/-- Supervision timers start again from 0 (R275). -/
def superviseAnew (s : State) : State :=
  let now := s.seq.clock
  setSeq s (fun q => { q with
    convs := q.convs.map (fun x => { x with onAt := if x.on && !x.proved then now else x.onAt, lowAt := none, plugAt := none })
    dryers := q.dryers.map (fun x => { x with
      fanAt := if x.fan && !x.fanSeen then now else x.fanAt, fanLowAt := none
      heatAt := if x.heat && !x.heatSeen then now else x.heatAt, heatLowAt := none, stuckAt := none, highRuns := 0
      chainAt := none, levelAt := none })
    aer := q.aer.map (fun x => { x with superAt := now, lowAt := none }) })

/-- The first round of OPERATE drives every named output to its idle step (R275). -/
def firstRound (s : State) : State :=
  let s := setSeq s (fun q => { q with first := false })
  let s := (enabledConvs s).foldl (fun s c => requestOut s (Ob.convRunChannel c) false) s
  let s := (enabledDryers s).foldl (fun s d => dryerDrive s d true) s
  (runningBins s).foldl (fun s b => requestOut s (Ob.aerFanRunChannel b) false) s

/-- A sequencing round that takes `took` µs. -/
def sequencingRound (s : State) (took : Nat) : State :=
  let gap := s.seq.gap
  let before := s.seq.clock
  let s := seqTime s
  let s := if gap then superviseAnew s else s
  let dt := s.seq.clock - before
  let s := (s.putF Ob.seqLastRoundDuration (FX.ratio took 1000000))
  let s := setSeq s (fun q => { q with busyTo := s.osc + took })
  if s.seq.first then firstRound s
  else
    let s := (enabledChains s).foldl chainRound s
    let s := (enabledDryers s).foldl dryerRound s
    (List.range 64).foldl (fun s b =>
      if s.ob (Ob.aerMode b) = 0 && !(aerSt s b).fan && s.ob (Ob.aerState b) = 0 then
        setAer s b (fun x => { x with mode := 0, cmd := 0 })
      else aerRound dt s b) s

/-- SEQUENCING_ROUND (R271): at a WC multiple of 10,000 µs. -/
def roundDue (s : State) (took : Nat) : State :=
  if roundsRun s ∧ s.wc % 10000 = 0 then
    if s.osc < s.seq.busyTo then s.inc Ob.seqRoundOverruns else sequencingRound s took
  else s

/-- AERATION_EVALUATE (R292): in the round that started at a WC multiple of 10 s; a round that was skipped evaluates nothing. -/
def aerationDue (s : State) : State :=
  if roundsRun s ∧ s.wc % 10000000 = 0 ∧ !s.seq.first ∧ s.seq.lastWc = s.wc then (List.range 64).foldl aerEvaluate s else s

end Sys2Proof.Machine
end

