-- ==== Sys2Proof/Machine/Scheduler.lean ====
section
/-! DEFINITION. The schedule table (R83, R103–R115): which entries fire at a tick boundary, in which order their actions are served, and what
each action does. -/
namespace Sys2Proof.Machine

/-! ### Positions and targets (R83, R88, R93) -/

/-- The Position of an entry's domain. -/
def domainPos (s : State) (d : Nat) : Nat :=
  if d = 9 then s.wc else if d = 8 then mpPos s else s.ob (Ob.gcPosition d)

/-- How far a domain's Position is past a target, where the target is reached (R88). A Target of 2⁴⁸ or more that a write of Domain leaves on a
grain clock or MP is compared modulo 2⁴⁸ (DESIGN CHOICE, log entry 110). -/
def reachedBy (d pos target : Nat) : Option Nat :=
  if d = 9 then (if target ≤ pos then some (pos - target) else none)
  else
    let x := (pos + 2 ^ 48 - target % 2 ^ 48) % 2 ^ 48
    if x < 2 ^ 47 then some x else none

/-- Additions of Period after which a target that is `past` behind is no longer reached (R105), at least one. A Period that is a multiple
of 2^48 never moves such a target on: one addition is made (log entry 73). -/
def additions (d past period : Nat) : Nat :=
  if d = 9 then past / period + 1
  else
    let p := period % 2 ^ 48
    if p = 0 then 1
    else if p ≤ 2 ^ 47 then past / p + 1
    else max 1 ((2 ^ 47 - past + (2 ^ 48 - p) - 1) / (2 ^ 48 - p))

/-- The target after `k` additions: U64 in the wall clock's domain, 48 bits in the others. -/
def movedTarget (d target period k : Nat) : Nat :=
  if d = 9 then wrap 64 (target + k * period) else wrap 48 (target + k * period)

/-- A periodic entry's target is advanced; additions beyond the first are missed periods (R105, R111). -/
def advanceTarget (s : State) (e past : Nat) : State :=
  let d := s.ob (Ob.entryDomain e)
  let per := s.ob (Ob.entryPeriod e)
  let k := additions d past per
  let s := s.put (Ob.entryTarget e) (movedTarget d (s.ob (Ob.entryTarget e)) per k)
  if 2 ≤ k then raise (s.incBy (Ob.entryMissedCount e) (k - 1)) 238 e else s

/-! ### Firing -/

/-- An entry that fired: its place in the order of R106, and its number. -/
structure Fired where
  rank : Nat
  past : Nat
  entry : Nat
  deriving DecidableEq, Repr

def firedBefore (a b : Fired) : Bool :=
  decide (a.rank < b.rank) ||
  (a.rank == b.rank && (decide (b.past < a.past) || (a.past == b.past && decide (a.entry ≤ b.entry))))

def domainRank (d : Nat) : Nat := if d = 9 then 0 else if d = 8 then 1 else 2 + d

/-- The firing of an entry (R103, R105). -/
def fireEntry (s : State) (e past : Nat) : State :=
  let s := (s.inc (Ob.entryFireCount e)).put (Ob.entryLastFireTime e) s.tickWc
  if s.ob (Ob.entryPeriod e) = 0 then
    setEntry (s.put (Ob.entryEnable e) 0) e { entryDyn s e with armed := false, arming := false }
  else advanceTarget s e past

/-- No MP entry fires while the mains phase is LOST (R95). -/
def mpHeld (s : State) (d : Nat) : Bool := d == 8 && s.stBit Ob.mpStatus 2

/-- The entry's own state once it is armed (R111, R114): a newly armed one starts its accumulator at 0, and outside OPERATE its burst
output stands off; one armed again by a write of Target goes on as it was (log entry 74). -/
def armedDyn (s : State) (x : EntryDyn) : EntryDyn :=
  { x with armed := true, arming := false, acc := if x.armed then x.acc else 0
           forced := if x.armed then x.forced else if s.inOperate then 0 else 4 }

/-- One enabled entry at a tick boundary: arming (R111) and firing (R105). A one-shot MP entry armed while LOST with its target reached
waits until LOST clears (R95, log entry 74); a periodic one fires at no arming, and its target is advanced as R111 has it. A one-shot entry armed
with its target reached counts in LateCount, as R111 says, and raises no event 237 (DESIGN CHOICE, log entry 110). -/
def evalEntry (acc : State × List Fired) (e : Nat) : State × List Fired :=
  let s := acc.1
  let x := entryDyn s e
  let d := s.ob (Ob.entryDomain e)
  let hit := reachedBy d (domainPos s d) (s.ob (Ob.entryTarget e))
  if x.arming then
    let s := setEntry s e (armedDyn s x)
    match hit with
    | none => (s, acc.2)
    | some past =>
      if s.ob (Ob.entryPeriod e) ≠ 0 then (advanceTarget s e past, acc.2)
      else if mpHeld s d then (s, acc.2)
      else (fireEntry (s.inc (Ob.entryLateCount e)) e past, acc.2 ++ [⟨domainRank d, past, e⟩])
  else if x.armed && !mpHeld s d then
    match hit with
    | none => acc
    | some past => (fireEntry s e past, acc.2 ++ [⟨domainRank d, past, e⟩])
  else acc

/-! ### Actions (R104, R108–R110, R114) -/

/-- An output channel takes a value, as a tick's action gives it. -/
def driveOutput (s : State) (n : Nat) (on : Bool) : State :=
  writeChan s n (if on then 0x3F800000 else 0) (setBit (s.ob (Ob.chanStatus n)) 0 true) s.wc

/-- A burst-fire entry's output goes off in OPERATE (R115) for a case (0 the duty channel, 1 LOST); event 239 comes as the case begins, and
not again until it has ended (log entry 74). -/
def forceOff (s : State) (e case : Nat) : State :=
  let x := entryDyn s e
  let n := s.ob (Ob.entryActionTarget e)
  let s := if s.inOperate && n < 4096 then driveOutput s n false else s
  if bit x.forced case then s else raise (setEntry s e { x with forced := setBit x.forced case true }) 239 e

/-- The next cycle of a burst with duty `d` (R114): whether it is on, and the accumulator. -/
def burstNext (d : FX) (acc : Nat) : Bool × Nat :=
  if FX.ge d FX.one then (true, acc)
  else if FX.le d FX.zero then (false, acc)
  else
    let t := acc + (FX.scale d 32).roundAway.toNat
    (decide (2 ^ 32 ≤ t), t % 2 ^ 32)

/-- Burst fire (R114). -/
def burstFire (s : State) (e : Nat) : State :=
  let duty := s.ob (Ob.entryActionParam e)
  if !goodChan s duty then forceOff s e 0
  else
    let x := entryDyn s e
    let r := burstNext (chanF s duty) x.acc
    driveOutput (setEntry s e { x with acc := r.2, forced := 0 }) (s.ob (Ob.entryActionTarget e)) r.1

/-- Output edge (R110): 0 off, 1 on, 2 toggle. A toggle goes by the channel's Value, on from 0.5 up (log entry 73). -/
def outputEdge (s : State) (n param : Nat) : State :=
  driveOutput s n (if param = 2 then FX.lt (chanF s n) (FX.ratio 1 2) else param == 1)

/-- A channel whose source lies on the field die. -/
def onFieldDie (s : State) (n : Nat) : Bool := chanType s n == 1 && bindClass (chanBind s n) != 7

/-- A value waits for the upstream frame of this tick. -/
def latchValue (s : State) (n raw stat at_ : Nat) : State :=
  { s with link := { s.link with latch := s.link.latch.filter (fun l => l.chan != n) ++ [⟨n, raw, stat, at_⟩] } }

/-- What a channel's source holds now (R108): the value of a field input or grain clock, else the source's most recent value. -/
def sourceNow (s : State) (n : Nat) : Option (Option Nat × Nat) :=
  if chanType s n = 1 then (fieldSource s (chanBind s n)).map (fun v => (some v.1, v.2))
  else (s.sources.find? (fun l => l.chan == n)).map (fun l => (l.raw, sourceStatus s n l.stat))

/-- A channel takes a copy of its source, with the time of the boundary at which the entry fired. One that has given
nothing yet leaves the entry as it is (log entry 73), one that has given a status alone its Value (R201). -/
def copySample (s : State) (n fired : Nat) (got : Option (Option Nat × Nat)) : State :=
  match got with
  | some v => writeChan s n ((v.1.map (engineering s n)).getD (s.ob (Ob.chanValue n))) v.2 fired
  | none => s

/-- A sample action (R108): a field value of this tick waits for its frame, everything else is copied at once; one that waited for a later
tick copies what its source held. Answers whether the channel waits. -/
def sampleAction (s : State) (n : Nat) (a : LateAction) : State × Bool :=
  if a.tick ≠ s.ticks then (copySample s n a.fired a.got, false)
  else if onFieldDie s n then
    match fieldSource s (chanBind s n) with
    | some v => (latchValue s n v.1 v.2 a.fired, true)
    | none => (s, false)
  else (copySample s n a.fired (sourceNow s n), false)

/-- Whether create and advance actions are carried out (R153, R432, R487). -/
def parcelsMove (s : State) : Bool := !modelHeld s && !s.stBit Ob.faultFaultStatus 1

/-- The scheduler's work within a tick: the state, the channels whose sample waits for this tick's frame (R108), and the frame of this
tick, which the tick's output actions still change (R24). -/
structure TickRun where
  s : State
  waits : List Nat
  frame : Frame
  deriving DecidableEq, Repr

/-- A tick's output action has written a channel: it counts as written before the boundary (R24). -/
def TickRun.drove (r : TickRun) (s : State) (n : Nat) : TickRun := { r with s := s, frame := frameWith s r.frame n }

/-- One action served (R104): `samples` gives the channels of the sample actions fired at a boundary (R109). Its constraints are judged as it
is served, so a trigger that waited beyond the 64th does nothing where its entry has been disabled meanwhile (DESIGN CHOICE, log entry 73). -/
def serveAction (samples : Nat → List Nat) (r : TickRun) (a : LateAction) : TickRun :=
  let s := r.s
  let e := a.entry
  let t := s.ob (Ob.entryActionTarget e)
  if !entryOk s e && s.ob (Ob.entryAction e) != 2 then r else
  match s.ob (Ob.entryAction e) with
  | 1 =>
    let x := sampleAction s t a
    { r with s := x.1, waits := if x.2 then r.waits ++ [t] else r.waits }
  | 2 => if s.inOperate && entryOk s e then { r with s := releaseTrigger s a t (samples a.tick) } else r
  | 3 => if parcelsMove s then { r with s := createAction s t } else r
  | 4 => if parcelsMove s then { r with s := displacementStep (advanceAction s t) t } else r
  | 5 => if s.inOperate then r.drove (outputEdge s t (s.ob (Ob.entryActionParam e))) t else r
  | 6 => { r with s := raise s t (s.ob (Ob.entryActionParam e)) }
  | 7 => if s.inOperate then r.drove (burstFire s e) t else r
  | _ => r

/-- What a sample action that is served later copies: what its source held at its boundary. -/
def lateGot (s : State) (e : Nat) : Option (Option Nat × Nat) :=
  let n := s.ob (Ob.entryActionTarget e)
  if s.ob (Ob.entryAction e) = 1 ∧ n < 4096 then sourceNow s n else none

/-- A case of R115 in OPERATE: it forces the output off as it begins. LOST is over as it ends; the duty's case ends with a firing whose duty
is valid. -/
def burstCase (holds : Bool) (case e : Nat) (r : TickRun) : TickRun :=
  let x := entryDyn r.s e
  if holds == bit x.forced case then r
  else if holds then r.drove (forceOff r.s e case) (r.s.ob (Ob.entryActionTarget e))
  else if case = 1 then { r with s := setEntry r.s e { x with forced := setBit x.forced case false } }
  else r

/-- One burst output in force (R115). Outside OPERATE the state suppresses its action, which is reported as it begins (`burstsStopped`, or
here where the entry became one there), and its value is R80's; back in OPERATE it goes off, whatever R80 had it at, and what else forces it
off is found anew. -/
def checkBurst (r : TickRun) (e : Nat) : TickRun :=
  let s := r.s
  let x := entryDyn s e
  let t := s.ob (Ob.entryActionTarget e)
  if !s.inOperate then
    if bit x.forced 2 then r else { r with s := raise (setEntry s e { x with forced := 4 }) 239 e }
  else
    let r := if bit x.forced 2 && decide (t < 4096) then r.drove (driveOutput (setEntry s e { x with forced := setBit x.forced 2 false }) t false) t else r
    burstCase (!goodChan r.s (s.ob (Ob.entryActionParam e))) 0 e (burstCase (r.s.stBit Ob.mpStatus 2) 1 e r)

/-- Burst outputs that their duty, a lost mains phase or the state holds off (R115). -/
def checkBursts (r : TickRun) : TickRun :=
  ((enabledEntries r.s).filter (fun e => r.s.ob (Ob.entryAction e) == 7 && (entryDyn r.s e).armed)).foldl checkBurst r

/-- Between two ticks, the outputs that must go off do (R115). -/
def burstsOff (s : State) : State := (checkBursts ⟨s, [], s.link.sent⟩).s

/-- The scheduler at a tick boundary, over the frame of what was written before it. Actions beyond the 64th wait for the next tick, and
each counts as late at every tick it waits (R107, log entry 73). An action that does nothing but increment FireCount (R104) takes its place
among the 64 as any other (DESIGN CHOICE, log entry 96). A loop sample goes on waiting for the samples of its tick that are
not written yet (R109). -/
def schedulerTick (s : State) (frame : Frame) : TickRun :=
  let r := (enabledEntries s).foldl evalEntry (s, [])
  let s := r.1
  let fresh : List LateAction := (sortBy firedBefore r.2).map (fun f => ⟨f.entry, s.ticks, s.tickWc, none⟩)
  let all := s.late ++ fresh
  let later := (all.drop 64).map (fun a => if a.tick = s.ticks then { a with got := lateGot s a.entry } else a)
  let r := (all.take 64).foldl (serveAction (samplesAt s all)) ⟨{ s with late := later }, [], frame⟩
  let s := later.foldl (fun s a => raise (s.inc (Ob.entryLateCount a.entry)) 237 a.entry) r.s
  let open_ (tick : Nat) : List Nat := (if tick = s.ticks then r.waits else []) ++ samplesAt s later tick
  checkBursts { r with s := keepAwaited s open_ }

/-! ### Writes of an entry (R103, R111, R113) -/

/-- Enable written. -/
def entryEnableEff (e : Nat) (on : Bool) (s : State) : State :=
  let was := s.flag (Ob.entryEnable e)
  let s := s.putFlag (Ob.entryEnable e) on
  let x := entryDyn s e
  if on && !was then setEntry s e { x with arming := true, armed := false }
  else if !on then setEntry s e { x with arming := false, armed := false }
  else s

/-- Target written: an armed entry is armed anew at the next tick. -/
def entryTargetEff (e v : Nat) (s : State) : State :=
  let s := s.put (Ob.entryTarget e) v
  if s.flag (Ob.entryEnable e) then setEntry s e { entryDyn s e with arming := true } else s

/-- The range of Target by its domain (R103). -/
def targetCodes (s : State) (e v : Nat) : List Nat :=
  if s.ob (Ob.entryDomain e) ≠ 9 ∧ 2 ^ 48 ≤ v then [0x00050001] else []

/-- The RWP subindices of an OWNED entry (R113). -/
def ownedCodes (s : State) (e : Nat) : List Nat := if (entryDyn s e).owner ≠ 0 then [0x00030002] else []

/-- Whether the present state suppresses an entry's action (R104). -/
def suppressed (s : State) (e : Nat) : Bool :=
  let a := s.ob (Ob.entryAction e)
  if a = 2 ∨ a = 5 ∨ a = 7 then !s.inOperate else s.phase != .run

/-- Entry Status (R113). -/
def entryStatusRead (s : State) (e : Nat) : Nat :=
  let x := entryDyn s e
  let d := s.ob (Ob.entryDomain e)
  ofBool (s.flag (Ob.entryEnable e) && x.armed) + 2 * ofBool (x.owner != 0) +
  4 * ofBool (if d = 9 then false else if d = 8 then mpGone s else !bit (gcStatus s d) 0) + 8 * ofBool (suppressed s e)

/-- Every enabled entry is armed at the first tick after BOOT. -/
def armAll (s : State) : State :=
  (enabledEntries s).foldl (fun s e => setEntry s e { entryDyn s e with arming := true }) s

end Sys2Proof.Machine
end

