-- ==== Sys2Proof/Machine/Clocks.lean ====
section
/-! DEFINITION. The timebases (R92–R102): the grain clocks, the mains-phase tracker and the wall clock. -/
namespace Sys2Proof.Machine

/-- The timebases run once the field link and the tick do: from step 8 of BOOT (R440), and while the module runs. -/
def clocksRun (s : State) : Bool :=
  match s.phase with
  | .run => true
  | .boot n => decide (8 ≤ n)
  | _ => false

/-! ### Mains phase (R93–R96) -/

/-- PhaseOffset (R96). -/
def mpOffset (s : State) : Int := toSigned 16 (s.ob Ob.mpPhaseOffset)

/-- Phase just at a crossing: phase 0 lies PhaseOffset units after it (R93). -/
def crossPhase (off : Int) : Nat := ((-off) % 1024).toNat

/-- The Position nearest `pos` whose phase is `ph`. -/
def nearestWithPhase (pos ph : Nat) : Nat :=
  let d := (ph + 1024 - pos % 1024) % 1024
  if d ≤ 512 then (pos + d) % 2 ^ 48 else (pos + d + 2 ^ 48 - 1024) % 2 ^ 48

/-- Whole periods that a flywheel has bridged, as part of the gap since the last valid crossing: a crossing that ends a flywheel is judged
by what is left of its gap (DESIGN CHOICE, log entry 83: R95 gives such a crossing no period). -/
def bridged (m : MpSt) (gap : Nat) : Nat :=
  if m.missAt = 0 || m.period = 0 then 0 else (max 1 ((2 * gap + m.period) / (2 * m.period)) - 1) * m.period

/-- A frequency within 45–65 Hz, by its period in µs (R95). -/
def validPeriod (g : Nat) : Bool := decide (15385 ≤ g ∧ g ≤ 22222)

/-- Frequency in mHz, as the events carry it (R124). -/
def milliHz (s : State) : Nat := (FX.mul (s.f Ob.mpFrequency) (FX.ofNat 1000)).roundAway.toNat

/-- A valid crossing `g` µs after the one before it: the frequency is measured, and after eight of them the tracker locks
(R94, R95). At a start of tracking Position takes the crossing's phase, which can move it back (DESIGN CHOICE, log entry 83). -/
def mpValid (s : State) (g : Nat) : State :=
  let m := s.mp
  let n := m.valid + 1
  let lost := s.stBit Ob.mpStatus 2
  let locked := s.stBit Ob.mpStatus 0
  let ph := crossPhase (mpOffset s)
  let pos := if lost then m.refPos else if m.period = 0 then m.refPos / 1024 * 1024 + ph else nearestWithPhase (mpPos s) ph
  let s := (s.putF Ob.mpFrequency (FX.div (FX.ofNat 1000000) (FX.ofNat g))).putBit Ob.mpStatus 1 false
  let lock := !locked && decide (8 ≤ n)
  let pos := if lock && lost then ((m.refPos / 1024 + 1) * 1024 + ph) % 2 ^ 48 else pos
  let s := { s with mp := { m with
    lastValid := s.osc, hasValid := true, period := g, valid := n, missAt := 0, refAt := s.osc, refPos := pos, offset := mpOffset s } }
  if lock then raise ((s.putBit Ob.mpStatus 0 true).putBit Ob.mpStatus 2 false) 233 (milliHz s) else s

/-- A positive-going crossing of MS (R93, R95). -/
def mpCross (s : State) : State :=
  let m := s.mp
  if !s.flag Ob.mpEnable then s
  else if !m.hasValid then { s with mp := { m with lastValid := s.osc, hasValid := true, valid := 0 } }
  else
    let gap := s.osc - m.lastValid
    let g := gap - bridged m gap
    let s := rangeE s .msFrequency (!validPeriod g)
    if validPeriod g then mpValid s g
    else if s.stBit Ob.mpStatus 0 || m.missAt != 0 || g < 15385 then { s with mp := { m with valid := 0 } }
    else { s with mp := { m with lastValid := s.osc, valid := 0 } }

/-- Whether 1.5 periods have passed without a valid crossing (R94). -/
def mpMissDue (s : State) : Bool :=
  s.flag Ob.mpEnable && !s.stBit Ob.mpStatus 2 && s.mp.hasValid && s.mp.period != 0 && s.mp.missAt == 0 &&
  decide (2 * s.mp.lastValid + 3 * s.mp.period ≤ 2 * s.osc)

/-- The flywheel starts (R95). -/
def mpMissNow (s : State) : State :=
  { (s.putBit Ob.mpStatus 1 true) with mp := { s.mp with missAt := s.osc, valid := 0 } }

/-- Whether four periods of flywheel have ended without a valid crossing (R94). -/
def mpLostDue (s : State) : Bool :=
  s.stBit Ob.mpStatus 1 && decide (s.mp.missAt + 4 * s.mp.period ≤ s.osc)

/-- Lock is lost (R95): Position stops, event 232, burst outputs off. MS has then left its range of R520 (log entry 16). A flywheel that
ends before lock was gained sets LOST with its event and counts in LockLossCount no loss of lock (DESIGN CHOICE, log entry 88). -/
def mpLostNow (s : State) : State :=
  let pos := mpPos s
  let was := s.stBit Ob.mpStatus 0
  let s := ((s.putBit Ob.mpStatus 0 false).putBit Ob.mpStatus 1 false).putBit Ob.mpStatus 2 true
  let s := if was then s.inc Ob.mpLockLossCount else s
  let s := { s with mp := { s.mp with refPos := pos, refAt := s.osc, hasValid := false, valid := 0, missAt := 0 } }
  burstsOff (raise (rangeE s .msFrequency true) 232 (milliHz s))

/-- Enable of MP written (R96): Position holds where it is, and tracking begins anew. -/
def mpEnableEff (on : Bool) (s : State) : State :=
  if s.flag Ob.mpEnable == on then s
  else
    let pos := mpPos s
    let s := (s.putFlag Ob.mpEnable on).put Ob.mpStatus 0
    { s with mp := { s.mp with refPos := pos, refAt := s.osc, hasValid := false, period := 0, valid := 0, missAt := 0 } }

/-! ### Wall clock (R97–R102) -/

/-- Every WC entry's target moves with a step (R100); one that would fall below 0, which no U64 holds, stays at 0 (DESIGN CHOICE, log entry
110). -/
def moveTargets (s : State) (d : Int) : State :=
  (List.range 1024).foldl (fun s e =>
    if s.ob (Ob.entryDomain e) = 9 then
      s.put (Ob.entryTarget e) (wrap 64 ((s.ob (Ob.entryTarget e) : Int) + d).toNat)
    else s) s

/-- WC steps by `d` µs (R100): targets move, event 235. A boundary that the step lands on is still to be evaluated, unless the step is made
at a boundary. The time since the last measurement leaves the step out: its mark moves along (DESIGN CHOICE, log entry 88). What was
still to be slewed is dropped, also by a write of Time, and SLEWING clears (DESIGN CHOICE, log entry 96). -/
def wcStepNow (s : State) (d : Int) : State :=
  let w := ((s.wc : Int) + d).toNat
  let s := { s with
    wc := w
    tickWc := if s.wc = s.tickWc then w / 10 * 10 else (w - 1) / 10 * 10
    diel := { s.diel with stepped := s.diel.stepped + d }
    wcs := { s.wcs with slew := 0, lastMeas := ((s.wcs.lastMeas : Int) + d).toNat } }
  raise (moveTargets (s.putBit Ob.wcSyncStatus 2 false) d) 235 (satSigned 32 d)

/-- The type code that marks a step waiting in the store for its record (R461); no write carries it. -/
def stepMark : Nat := 255

/-- A step of the module's own, journaled as a write of Time by firmware (R100). -/
def wcStepOwn (s : State) (d : Int) : State :=
  let old := bytesLE 8 s.wc
  let s := yieldPlace (wcStepNow s d)
  stage s (writeRec s fwOrigin 1 (tyCode .u64) 0x5420 1 0 old (bytesLE 8 s.wc))

/-- What waits in the store in the place of such a step. -/
def stepReq : WReq := ⟨⟨fwOrigin, 0, 0, false⟩, false, 0x5420, 1, stepMark, [], none, []⟩

/-- A step of the module's own is asked for (R461): one whose record finds no place waits in the store with what was measured. -/
def wcStepAsk (s : State) (d : Int) : State :=
  if s.storeQ.isEmpty && decide (placesUsed s < 768) then wcStepOwn s d
  else { s with storeQ := s.storeQ ++ [stepReq], wcs := { s.wcs with stepRef := some ((s.wc : Int) + d - s.osc) } }

/-- The step that waited is made, by what the master's time leads WC now (R461). -/
def wcStepWaited (s : State) : State :=
  match s.wcs.stepRef with
  | none => s
  | some r => wcStepOwn { s with wcs := { s.wcs with stepRef := none } } (r + s.osc - s.wc)

/-- RateCorrection after a measurement of offset `o` (R99), where WC time has passed since the last one. -/
def newRate (s : State) (o : Int) : FX :=
  let i := s.wc - s.wcs.lastMeas
  let lim := FX.to32 (FX.ratio 5 10000)
  FX.clamp (FX.add (s.f Ob.wcRateCorrection) (FX.div (FX.ofInt o) (FX.ofNat (8 * i)))) (FX.neg lim) lim

/-- An accepted time measurement of offset `o` µs, master minus local (R99, R100, R102). Two choices of the model (log entry 88): with no WC
time passed since the last one RateCorrection stays as it is, and a first synchronisation in OPERATE or SAFE above StepThreshold steps WC
and begins an episode of event 236 too. -/
def timeMeasured (s : State) (o : Int) (eth : Bool) : State :=
  let w := s.wcs
  let s := if w.hasMeas && decide (w.lastMeas < s.wc) then s.putF Ob.wcRateCorrection (newRate s o) else s
  let s := (s.put Ob.wcOffset (ofSigned 32 (s.fitS 32 o))).tickFree
  let good := decide (o.natAbs ≤ if eth then 50 else 500)
  let run := if good then min 3 (w.goodRun + 1) else 0
  let first := !s.stBit Ob.wcSyncStatus 0
  let thr := s.ob Ob.wcStepThreshold
  let big := decide (thr < o.natAbs)
  let s := s.putBit Ob.wcSyncStatus 0 true
  let s := if run = 3 then s.putBit Ob.wcSyncStatus 1 true else s
  let held := big && (s.inOperate || s.inSafe)
  let s := { s with wcs := { w with
    goodRun := run, lastMsg := s.osc, lastMeas := s.wc, hasMeas := true, episode := held } }
  let s := if held && !w.episode then raise s 236 (satSigned 32 o) else s
  if s.wcs.stepRef.isSome then { s with wcs := { s.wcs with stepRef := some ((s.wc : Int) + o - s.osc) } }
  else if first || (s.inPreop && big) then wcStepAsk s o
  else { (s.putBit Ob.wcSyncStatus 2 (o != 0)) with wcs := { s.wcs with slew := o } }

/-- One single-µs step of WC: an added step moves WC alone, an omitted one the oscillator alone (R98). -/
def wcMicro (s : State) (up : Bool) : State :=
  if up then { s with wc := s.wc + 1 } else { s with osc := s.osc + 1 }

/-- Whether the next step of an offset slew is due (R99): 2,000 µs after the last step of any kind, so the first one of a slew may come with
its measurement (DESIGN CHOICE, log entry 96). -/
def slewDue (s : State) : Bool := s.wcs.slew != 0 && decide (s.wcs.slewAt + 2000 ≤ s.osc)

def slewStep (s : State) : State :=
  let up := decide (0 < s.wcs.slew)
  let left := if up then s.wcs.slew - 1 else s.wcs.slew + 1
  let now := s.osc
  let s := wcMicro s up
  { (if left = 0 then s.putBit Ob.wcSyncStatus 2 false else s) with
    wcs := { s.wcs with slew := left, slewAt := now, rateAt := now } }

/-- round(1 / |c|) µs, the interval of the rate steps (R99); none while c is 0.0. -/
def rateEvery (s : State) : Option Nat :=
  let c := s.f Ob.wcRateCorrection
  if c.isZero then none else some (FX.div FX.one (FX.abs c)).roundAway.toNat

/-- Whether a rate step is due: no slew runs and the interval has passed. -/
def rateDue (s : State) : Bool :=
  s.wcs.slew == 0 && (match rateEvery s with
    | some d => decide (s.wcs.rateAt + d ≤ s.osc)
    | none => false)

def rateStep (s : State) : State :=
  let up := FX.gt (s.f Ob.wcRateCorrection) FX.zero
  let now := s.osc
  let s := wcMicro s up
  { s with wcs := { s.wcs with slewAt := now, rateAt := now } }

/-- Aborts and effect of a write of Time (R101). -/
def wcTimeCodes (s : State) : List Nat := if s.inPreop then [] else [0x00030002]
def wcTimeEff (v : Nat) (s : State) : State := wcStepNow s ((v : Int) - (s.wc : Int))

/-- Whether SyncLossTime has passed without a time message (R102). -/
def syncLossDue (s : State) : Bool :=
  s.stBit Ob.wcSyncStatus 1 && decide (s.wcs.lastMsg + s.micros Ob.wcSyncLossTime ≤ s.osc)

def syncLossNow (s : State) : State :=
  let s := { (s.putBit Ob.wcSyncStatus 1 false) with wcs := { s.wcs with goodRun := 0, hasMeas := false } }
  raise s 234 0

end Sys2Proof.Machine
end

