-- ==== Sys2Proof/Machine/Bus.lean ====
section
/-! DEFINITION. The message bus controllers (R297–R329): start and stop, transmit buffers, cancellation, reception and filters, error
confinement, recovery, and the raw frame path. -/
namespace Sys2Proof.Machine

/-! ### Status and events (R327, R329) -/

def busBit (s : State) (n : Fin 4) (b : Nat) : Bool := s.stBit (Ob.busStatus n) b
def setBusBit (s : State) (n : Fin 4) (b : Nat) (v : Bool) : State := s.putBit (Ob.busStatus n) b v

/-- The event of a channel at an offset of its block. -/
def busRaise (s : State) (n : Fin 4) (offset payload : Nat) : State := raise s (144 + 12 * n.val + offset) payload

/-- The mask of buffers that are pending (R329). -/
def pendingMask (s : State) (n : Fin 4) : Nat :=
  (List.range 3).foldl (fun m b => if bufStatus s n b = 1 then m + 2 ^ b else m) 0

/-- Takes part on the bus: started, integrated, not in bus-off (R327). -/
def onBus (s : State) (n : Fin 4) : Bool := s.bus[n].started && busBit s n 1

/-! ### Start and stop (R300, R334) -/

/-- A filter element (R319). -/
def filterWord (action mask id : Nat) : Nat := action * 2 ^ 62 + 2 ^ 59 + mask * 2 ^ 29 + id

/-- Elements 0–3, as the server writes them at each start (R334). -/
def serverFilters (s : State) (n : Fin 4) : State :=
  s.puts [(Ob.filterFilterElement n 0, filterWord 2 (15 * 2 ^ 22) 0),
          (Ob.filterFilterElement n 1, filterWord 1 (127 * 2 ^ 15) (nodeId s * 2 ^ 15)),
          (Ob.filterFilterElement n 2, filterWord 1 (127 * 2 ^ 15) (127 * 2 ^ 15)),
          (Ob.filterFilterElement n 3, filterWord 1 (15 * 2 ^ 22) (11 * 2 ^ 22))]

/-- The controller starts and integrates: counters, buffers, queue and raw ring begin anew. An entry of the high-priority buffer is
firmware's until it releases it, and HPBFULL with it (R316). -/
def startBus (s : State) (n : Fin 4) : State :=
  let b := s.bus[n]
  let s := s.puts [(Ob.busStatus n, bits (s.ob (Ob.busStatus n)) 15 14 * 2 ^ 14 + 2 ^ 8 + ofBool (busBit s n 3) * 2 ^ 3), (Ob.busTEC n, 0), (Ob.busREC n, 0),
    (Ob.busRecoveryProgress n, 0), (Ob.busTxBufferStatus n 0, 0), (Ob.busTxBufferStatus n 1, 0), (Ob.busTxBufferStatus n 2, 0)]
  let s := serverFilters s n
  setBus s n { b with
    started := true, stopping := false, tdc := s.ob (Ob.busTimingTdcMode n) == 1
    bitClocks := s.ob (Ob.busTimingNomPrescaler n) * (1 + s.ob (Ob.busTimingNomTseg1 n) + s.ob (Ob.busTimingNomTseg2 n))
    mode := s.ob (Ob.busOperatingMode n), fd := s.flag (Ob.busFdEnable n)
    protExc := s.flag (Ob.busProtocolException n), bufs := Vector.replicate 3 State.restTx
    rxq := [], raw := [], rawNext := 1, chosen := none, recovReq := false, conts := [], held := [], filtWas := [] }

/-- The end of BOOT, or a write of Enable 1, for a channel whose bit timing passes (R303, R304). -/
def tryStartBus (s : State) (n : Fin 4) : State :=
  match timingFault s n with
  | none => startBus s n
  | some _ => setBusBit s n 16 true

/-- The controller stops; its receive queue is empty, and QOVERFLOW goes with it (R314). -/
def stopBus (s : State) (n : Fin 4) : State :=
  let s := [1, 2, 8, 11, 12, 13].foldl (fun s b => setBusBit s n b false) s
  setBus s n { s.bus[n] with started := false, stopping := false, rxq := [], chosen := none, recovReq := false }

/-- A stop is carried out; a controller that Enable asks for again by then starts anew (R300), but not for Winter (R351). -/
def stopNow (s : State) (n : Fin 4) : State :=
  let s := stopBus s n
  if s.flag (Ob.busEnable n) && s.winter.stage == 0 then tryStartBus s n else s

/-! ### Cancellation (R312) -/

/-- One cancellation is counted; during Winter entry EntryCancels counts it too (R313, R347). -/
def countCancel (s : State) (n : Fin 4) : State :=
  let s := s.inc (Ob.busTxCancelCount n)
  if s.winter.stage = 0 then s else s.inc (Ob.wakeEntryCancels n)

/-- A buffer's outcome is CANCELLED (R313). -/
def bufCancelled (s : State) (n : Fin 4) (b : Fin 3) : State :=
  let s := countCancel (s.put (Ob.busTxBufferStatus n b) 4) n
  setBus s n { s.bus[n] with bufs := s.bus[n].bufs.set b { s.bus[n].bufs[b] with frames := [], retryCancel := false } }

/-- A cancel request: a pending buffer is withdrawn, an active one marked; any other is left. -/
def cancelBuf (s : State) (n : Fin 4) (b : Fin 3) : State :=
  match bufStatus s n b with
  | 1 => bufCancelled s n b
  | 2 => s.put (Ob.busTxBufferStatus n b) 6
  | _ => s

/-- The frames that firmware still holds for a buffer it does not have loaded are withdrawn, which counts as a cancellation (R18). -/
def dropRest (s : State) (n : Fin 4) (b : Fin 3) : State :=
  if bufOwned s n b || s.bus[n].bufs[b].frames.isEmpty then s
  else countCancel (setBus s n { s.bus[n] with bufs := s.bus[n].bufs.set b { s.bus[n].bufs[b] with frames := [] } }) n

/-- The messages that wait behind buffer 0 are withdrawn; each is counted as a cancellation (R18, R347). -/
def cancelHot (s : State) (n : Fin 4) : State :=
  setBus (s.bus[n].hot.foldl (fun s _ => countCancel s n) s) n { s.bus[n] with hot := [], hotUse := [] }

/-- Every buffer of a channel is cancelled (R335). -/
def cancelAll (s : State) (n : Fin 4) : State :=
  (List.finRange 3).foldl (fun s (b : Fin 3) => cancelBuf (dropRest s n b) n b) (cancelHot s n)

/-- Enable 0 (R300): buffers cancelled, queue emptied; the controller stops at once in bus-off, else at the next bus idle. -/
def busDisableEff (n : Fin 4) (s : State) : State :=
  let s := s.putFlag (Ob.busEnable n) false
  let s := if s.bus[n].started then cancelAll s n else s
  let s := setBusBit (setBus s n { s.bus[n] with rxq := [] }) n 2 false
  let s := setBusBit s n 16 false
  if !s.bus[n].started then s
  else if busBit s n 11 then stopBus s n
  else setBus s n { s.bus[n] with stopping := true }

/-- Enable 1 (R300, R303): a write comes here once the check has passed, a revert is checked here as the end of BOOT is (R304, log entry 103);
a controller that runs goes on, and one that is still to stop starts once it has stopped, with every cancel at its outcome (R312). -/
def busEnableEff (n : Fin 4) (s : State) : State :=
  let s := s.putFlag (Ob.busEnable n) true
  if s.bus[n].started then s else tryStartBus s n

def busEnableCodes (s : State) (n : Nat) : List Nat :=
  match timingFault s n with
  | some _ => [0x00050006]
  | none => []

/-- A cancelled active buffer reaches its retry point (R312). -/
def retryPoint (s : State) (n : Fin 4) : State :=
  (List.finRange 3).foldl (fun s (b : Fin 3) => if s.bus[n].bufs[b].retryCancel then bufCancelled s n b else s) s

/-- Bus idle: cancels at the retry point end, a stop is carried out, and firmware loads what waits. -/
def busIdle (s : State) (n : Fin 4) : State :=
  let s := retryPoint s n
  if s.bus[n].stopping && s.bus[n].chosen.isNone then stopNow s n else feedBus s n

/-! ### Mode (R299) -/

def applyMode (s : State) (n : Fin 4) : State := setBus s n { s.bus[n] with mode := s.ob (Ob.busOperatingMode n) }

/-- A write of OperatingMode acts at once while the controller integrates or is in bus-off. -/
def busModeEff (n : Fin 4) (v : Nat) (s : State) : State :=
  let s := s.put (Ob.busOperatingMode n) v
  if s.bus[n].started && (busBit s n 8 || busBit s n 11) then applyMode s n else s

def busModeCodes (s : State) (v : Nat) : List Nat := if v = 3 && !s.inPreop then [0x00030002] else []

/-! ### Choice and transmission (R309–R311) -/

/-- A frame's arbitration field as transmitted, as one number; the lower wins (R310). -/
def arbitration (f : CanFrame) : Nat :=
  if f.ide then (f.id / 2 ^ 18 % 2 ^ 11) * 2 ^ 21 + 3 * 2 ^ 19 + (f.id % 2 ^ 18) * 2 + ofBool f.rtr
  else (f.id % 2 ^ 11) * 2 ^ 21 + ofBool f.rtr * 2 ^ 20

/-- The pending buffers with the frame each would send. -/
def pendingBufs (s : State) (n : Fin 4) : List (Fin 3 × CanFrame) :=
  (List.finRange 3).filterMap (fun (b : Fin 3) =>
    if bufStatus s n b = 1 then (s.bus[n].bufs[b].frames.head?).map (fun f => (b, f)) else none)

/-- The buffer chosen next (R310). -/
def choose (s : State) (n : Fin 4) : Option (Fin 3) :=
  let ps := pendingBufs s n
  if s.ob (Ob.busTxOrder n) = 1 then ps.head?.map (fun p => p.1)
  else (ps.foldl (fun (best : Option (Fin 3 × CanFrame)) p =>
    match best with
    | none => some p
    | some q => if arbitration p.2 < arbitration q.2 then some p else some q) none).map (fun p => p.1)

/-- The chosen frame starts: ACTIVE, the WC of its start-of-frame, `sof` µs from now, recorded (R311). -/
def startFrame (s : State) (n : Fin 4) (b : Fin 3) (sof : Int) : State :=
  let s := s.put (Ob.busTxBufferStatus n b) 2
  setBus s n { s.bus[n] with
    chosen := some b.val
    bufs := s.bus[n].bufs.set b { s.bus[n].bufs[b] with sof := ((s.wc : Int) + sof).toNat, esi := busBit s n 10 } }

/-- Whether the mode transmits (R299). -/
def transmits (s : State) (n : Fin 4) : Bool := s.bus[n].mode == 0 || s.bus[n].mode == 3

/-- The choice at bus idle or at the third bit of intermission, the chosen frame's start-of-frame `sof` µs from now. -/
def txChoice (s : State) (n : Fin 4) (sof : Int) : State :=
  let s := busIdle s n
  if onBus s n && transmits s n && s.bus[n].chosen.isNone then
    match choose s n with
    | some b => startFrame s n b sof
    | none => s
  else s

/-- The buffer on the bus. -/
def activeBuf (s : State) (n : Fin 4) : Option (Fin 3) := s.bus[n].chosen.map (fun b => Fin.ofNat 3 b)

/-! ### Error confinement (R321, R322) -/

/-- Whether the counters count (R299). -/
def counts (s : State) (n : Fin 4) : Bool := transmits s n

/-- The counters as an event payload (R329). -/
def counterPayload (s : State) (n : Fin 4) : Nat := min 255 (s.ob (Ob.busTEC n)) * 256 + s.ob (Ob.busREC n)

/-- Bus-off is entered (R321, R322): an active frame with a cancel requested is cancelled, every other loaded buffer is pending. -/
def enterBusOff (s : State) (n : Fin 4) : State :=
  let s := (s.put (Ob.busTEC n) 256).put (Ob.busRecoveryProgress n) 0
  let s := (List.finRange 3).foldl (fun s (b : Fin 3) =>
    match bufStatus s n b with
    | 6 => bufCancelled s n b
    | 2 => s.put (Ob.busTxBufferStatus n b) 1
    | _ => s) s
  let s := setBusBit (setBusBit (setBusBit s n 11 true) n 10 false) n 1 false
  let s := setBus s n { s.bus[n] with chosen := none, busOffAt := s.osc, recovReq := false }
  let s := if s.bus[n].mode = s.ob (Ob.busOperatingMode n) then s else applyMode s n
  let s := busRaise s n 3 (pendingMask s n)
  if s.bus[n].stopping then stopNow s n else s

/-- The counters take new values, and the error state follows (R321, R329). -/
def putCounters (s : State) (n : Fin 4) (tec rec_ : Nat) : State :=
  let s := (s.put (Ob.busTEC n) (min 256 tec)).put (Ob.busREC n) (min 255 rec_)
  let warn := decide (96 ≤ tec) || decide (96 ≤ rec_)
  let passive := (decide (128 ≤ tec) || decide (128 ≤ rec_)) && decide (tec < 256)
  let hadWarn := busBit s n 9
  let hadPassive := busBit s n 10
  let s := setBusBit (setBusBit s n 9 warn) n 10 passive
  let s := if warn && !hadWarn then busRaise s n 0 (counterPayload s n) else s
  let s := if passive && !hadPassive then busRaise s n 1 (counterPayload s n) else s
  let s := if !passive && hadPassive && decide (tec < 256) then busRaise s n 2 (counterPayload s n) else s
  if 256 ≤ tec then enterBusOff s n else s

/-- REC after a frame received without error: 119 to 127 where it was above 127, an open value in that range (R321). -/
def recAfterFrame (s : State) (rec_ : Nat) : Nat :=
  if 127 < rec_ then 119 + Config.freeValue s.fresh % 9 else rec_ - 1

/-- An error is detected (R299, R321): `lec` its code, `data` in the data phase; `exempt` where ISO 11898-1 leaves the transmitter's
counter; `primary` where a receiver sees a dominant bit after its error flag; `eights` further runs of eight dominant bits; at a
`site` that is a flag, the counter of the flag's sender rises by 8. -/
def busError (s : State) (n : Fin 4) (lec : Nat) (data exempt primary : Bool) (eights : Nat) (site : ErrorSite) : State :=
  let mode := s.bus[n].mode
  let s := s.inc (Ob.busTxErrorFrameCount n)
  let s := setBusBit (s.put (Ob.busStatus n) (setField (s.ob (Ob.busStatus n)) 7 5 lec)) n 4 data
  let tec := s.ob (Ob.busTEC n)
  let rec_ := s.ob (Ob.busREC n)
  let own := activeBuf s n
  let s := match own with
    | none => s
    | some b =>
      let s := setBus s n { s.bus[n] with chosen := none }
      if bufStatus s n b = 6 then
        setBus s n { s.bus[n] with bufs := s.bus[n].bufs.set b { s.bus[n].bufs[b] with retryCancel := true } }
      else s.put (Ob.busTxBufferStatus n b) 1
  let s :=
    if !counts s n then s
    else match site with
      | .flag true => putCounters s n (tec + 8 + 8 * eights) rec_
      | .flag false => putCounters s n tec (rec_ + 8 + 8 * eights)
      | .frame =>
        if own.isSome then putCounters s n (tec + (if exempt then 0 else 8) + 8 * eights) rec_
        else putCounters s n tec (rec_ + (if primary then 9 else 1) + 8 * eights)
  if mode = 1 then setBusBit (setBusBit s n 8 true) n 1 false else s

/-! ### Reception (R314–R318) -/

/-- The ID field of R317. -/
def idField (f : CanFrame) : Nat := ofBool f.ide * 2 ^ 31 + ofBool f.rtr * 2 ^ 30 + f.id % 2 ^ 29

/-- A frame as the bus can carry it: identifier, DLC and byte count in their ranges (R308). -/
def carriedFrame (f : CanFrame) : CanFrame :=
  let dlc := f.dlc % 16
  let rtr := f.rtr && !f.fdf
  { f with
    id := if f.ide then f.id % 2 ^ 29 else f.id % 2 ^ 11
    rtr := rtr, brs := f.brs && f.fdf, esi := f.esi && f.fdf, dlc := dlc
    data := if rtr then [] else slice f.data 0 (dlcBytes f.fdf dlc) }

/-- Whether an element matches a frame (R318, R319). -/
def elementMatches (e : Nat) (f : CanFrame) : Bool :=
  bits e 63 62 != 0 && (bit e 59 == f.ide) &&
  ((f.id ^^^ bits e 28 0) &&& bits e 57 29) == 0 &&
  (match bits e 61 60 with
   | 1 => !f.fdf
   | 2 => f.fdf
   | _ => true)

/-- A filter object as it stood at an oscillator time (R320): the word before the first write behind it, else the present one. -/
def filterAt (s : State) (n : Fin 4) (sof k : Nat) : Nat :=
  match s.bus[n].filtWas.find? (fun w => w.2.1 == k && decide (sof < w.1)) with
  | some w => w.2.2
  | none => s.ob k

/-- A filter object takes a value; the one before serves the frame in progress, for which 1 s is ample at 10 kbit/s. -/
def filterEff (n : Fin 4) (k v : Nat) (s : State) : State :=
  let was := s.bus[n].filtWas.filter (fun w => decide (s.osc < w.1 + 1000000))
  setBus (s.put k v) n { s.bus[n] with filtWas := was ++ [(s.osc, k, s.ob k)] }

/-- What the filters of a frame's start decide (R318, R320): the store (0 discard, 1 queue, 2 high-priority buffer) and the element that
matched. -/
def filterFrame (s : State) (n : Fin 4) (f : CanFrame) (sof : Nat) : Nat × Option Nat :=
  let at_ (k : Nat) : Nat := filterAt s n sof k
  if f.rtr && at_ (Ob.filterRemoteAction n) = 0 then (0, none)
  else match (List.range 32).find? (fun i => elementMatches (at_ (Ob.filterFilterElement n i)) f) with
    | some i =>
      let a := bits (at_ (Ob.filterFilterElement n i)) 63 62
      (if a = 3 then 0 else a, some i)
    | none => (if at_ (Ob.filterNonMatchAction n) = 1 then 1 else 0, none)

/-- A frame for the queue: stored at its tail, or lost (R314, R315). -/
def toQueue (s : State) (n : Fin 4) (e : RxEntry) : State :=
  let b := s.bus[n]
  if b.rxq.length < 48 then
    let s := (setBus s n { b with rxq := b.rxq ++ [e] }).inc (Ob.busRxRxCount n)
    if e.divert then busRaise s n 10 (idField e.frame) else s
  else busRaise (setBusBit (s.inc (Ob.busRxRxLost n)) n 2 true) n 5 (idField e.frame)

/-- A frame valid for a receiver, its start-of-frame at a WC, is filtered and stored. -/
def storeFrame (s : State) (n : Fin 4) (f : CanFrame) (time : Nat) : State :=
  let d := filterFrame s n f (s.osc - (s.wc - time))
  let e : RxEntry := ⟨time, f, d.2.getD 0xFF, d.2.isSome, false, s.osc⟩
  match d.1 with
  | 1 => toQueue s n e
  | 2 =>
    if s.bus[n].hpb.isNone then
      setBusBit ((setBus s n { s.bus[n] with hpb := some e }).inc (Ob.busRxRxCount n)) n 3 true
    else toQueue s n { e with divert := true }
  | _ => s

/-- A frame received without error (R314, R321), its start-of-frame `age` µs ago. -/
def frameReceived (s : State) (n : Fin 4) (f : CanFrame) (age : Nat) : State :=
  let s := retryPoint s n
  let rec_ := s.ob (Ob.busREC n)
  let s := if counts s n && rec_ != 0 then (putCounters s n (s.ob (Ob.busTEC n)) (recAfterFrame s rec_)).tickFree else s
  storeFrame s n f (s.wc - age)

/-- The firmware releases an entry: the one it read, and the state without it (R315, R316). -/
def releaseEntry (s : State) (n : Fin 4) : Option (RxEntry × State) :=
  let b := s.bus[n]
  match b.hpb with
  | some e => some (e, setBusBit (setBus s n { b with hpb := none }) n 3 false)
  | none =>
    match b.rxq with
    | [] => none
    | e :: rest =>
      let s := setBus s n { b with rxq := rest }
      some (e, if rest.isEmpty then setBusBit s n 2 false else s)

/-- A frame appended to the raw receive ring (R325). -/
def toRawRing (s : State) (n : Fin 4) (e : RxEntry) : State :=
  let b := s.bus[n]
  let ring := b.raw ++ [(b.rawNext, e)]
  let s := setBus s n { b with raw := if 256 < ring.length then ring.drop 1 else ring, rawNext := wrap 32 (b.rawNext + 1) }
  if 256 < ring.length then s.inc (Ob.busRxRawOverwritten n) else s

/-- The 80 bytes of an entry (R317). -/
def entryBytes (e : RxEntry) : List Byte :=
  let f := e.frame
  bytesLE 8 e.time ++ bytesLE 4 (idField f) ++ bytesLE 1 f.dlc ++
  bytesLE 1 (ofBool f.fdf * 128 + ofBool f.brs * 64 + ofBool f.esi * 32 + ofBool e.matched * 16 + ofBool e.divert * 8) ++
  bytesLE 1 e.filter ++ bytesLE 1 f.data.length ++ slice f.data 0 64

/-! ### What becomes of a transmitted frame (R311, R312, R335, R345) -/

/-- The sync frame of buffer 0 was sent: its follow-up carries the start-of-frame recorded (R345). -/
def followUp (s : State) (n : Fin 4) (sof seq : Nat) : State :=
  queueHot s n ⟨0, 0, 127, 0, ownFd s n, bytesLE 1 2 ++ bytesLE 1 seq ++ bytesLE 8 sof⟩ 2 seq

/-- The frame being sent has its transmitter delay measured (R306): an FD frame with BRS, with TdcMode 1 in force. -/
def tdcApplies (s : State) (n : Fin 4) : Bool :=
  s.bus[n].tdc && (match activeBuf s n with
    | some b => ((s.bus[n].bufs[b].frames.head?).map (fun f => f.fdf && f.brs)).getD false
    | none => false)

/-- The delay measured in the frame being sent, 0 where the frame did not come so far: TdcMeasured, and the event beyond 127. -/
def tdcMeasure (s : State) (n : Fin 4) (tdc : Nat) : State :=
  if tdcApplies s n && tdc != 0 then
    let s := s.put (Ob.busTimingTdcMeasured n) (min 127 tdc)
    if 127 < tdc then busRaise s n 8 tdc else s
  else s

/-- A frame is sent without error. -/
def sentWhole (s : State) (n : Fin 4) (b : Fin 3) : State :=
  let x := s.bus[n].bufs[b]
  let late := bufStatus s n b == 6
  let f := x.frames.head?
  let s := (s.put (Ob.busTxBufferStatus n b) (if late then 5 else 3)).inc (Ob.busTxTxCount n)
  let rest := if late then [] else x.frames.drop 1
  let s := setBus s n { s.bus[n] with chosen := none, bufs := s.bus[n].bufs.set b { x with frames := rest } }
  let tec := s.ob (Ob.busTEC n)
  let s := if counts s n && tec != 0 then putCounters s n (tec - 1) (s.ob (Ob.busREC n)) else s
  let s := if late then busRaise s n 7 b.val else s
  let s := match f with
    | some f => if s.bus[n].mode = 3 then storeFrame s n { f with esi := f.fdf && (f.esi || x.esi) } x.sof else s
    | none => s
  let s := if b.val = 0 && x.use = 1 then followUp s n x.sof x.seq else s
  feedBus s n

/-- A frame comes to its end. One whose measured delay is above 127 cannot: its first data-phase bit, ESI, is a bit error (R306). -/
def frameSent (s : State) (n : Fin 4) (b : Fin 3) (tdc : Nat) : State :=
  if tdcApplies s n && decide (127 < tdc) then
    let x := s.bus[n].bufs[b]
    let esi := x.esi || ((x.frames.head?).map (fun f => f.esi)).getD false
    busError (tdcMeasure s n tdc) n (if esi then 4 else 5) true false false 0 .frame
  else sentWhole (tdcMeasure s n tdc) n b

/-- A frame loses arbitration: it stays pending, or is cancelled where that was asked. -/
def arbitrationLost (s : State) (n : Fin 4) (b : Fin 3) : State :=
  let s := s.inc (Ob.busTxArbLostCount n)
  let s := setBus s n { s.bus[n] with chosen := none }
  if bufStatus s n b = 6 then feedBus (bufCancelled s n b) n else s.put (Ob.busTxBufferStatus n b) 1

/-- Bus-off recovery completes (R323). -/
def recoveryComplete (s : State) (n : Fin 4) : State :=
  let s := s.puts [(Ob.busTEC n, 0), (Ob.busREC n, 0), (Ob.busRecoveryProgress n, 128)]
  let s := [9, 10, 11, 12].foldl (fun s b => setBusBit s n b false) s
  let s := setBus (setBusBit s n 1 true) n { s.bus[n] with recovReq := false }
  busRaise s n 4 (pendingMask s n)

/-- A request for recovery: a repeated one does nothing (R323). -/
def recoveryRequest (s : State) (n : Fin 4) : State :=
  if s.bus[n].recovReq then s
  else setBusBit (setBus (s.put (Ob.busRecoveryProgress n) 0) n { s.bus[n] with recovReq := true, recovAt := s.osc }) n 12 true

/-- The most runs of 11 recessive bits since the request (R323). -/
def recoveryRunsMost (s : State) (n : Fin 4) : Nat := (s.osc - s.bus[n].recovAt) * 80 / (11 * max 1 s.bus[n].bitClocks)

/-- How many of `k` successive stretches of 11 bits were recessive: open, and only rising with `k`. -/
def openRuns (seed : Nat) : Nat → Nat
  | 0 => 0
  | k + 1 => openRuns seed k + Config.openRead seed k % 2

/-- RecoveryProgress (R323): while it counts, of the stretches of 11 bits since the request those that were recessive, which the bus alone
decides (log entry 19), below 128. -/
def recoveryProgress (s : State) (n : Fin 4) : Nat :=
  let k := Ob.busRecoveryProgress n
  if busBit s n 12 then min 127 (openRuns (n.val + 4 * s.bus[n].recovAt) (recoveryRunsMost s n)) else s.ob k

def recoveryCodes (s : State) (n : Fin 4) : List Nat := if busBit s n 11 then [] else [0x00030002]

/-! ### Raw frames (R324) -/

/-- The frame a RawTxFrame spells. -/
def rawFrameOf (data : List Byte) : CanFrame :=
  let id := leAt data 8 4
  let flags := leAt data 13 1
  carriedFrame { ide := bit id 31, rtr := bit id 30, fdf := bit flags 7, brs := bit flags 6, esi := bit flags 5, id := id % 2 ^ 29,
                 dlc := leAt data 12 1 % 16, data := slice data 16 (leAt data 15 1) }

/-- Aborts of a RawTxFrame (R324): no buffer is loaded while firmware restarts (R301, log entry 91). -/
def rawTxCodes (s : State) (n : Fin 4) (data : List Byte) : List Nat :=
  let id := leAt data 8 4
  let dlc := leAt data 12 1
  let flags := leAt data 13 1
  let len := leAt data 15 1
  let fdf := bit flags 7
  (if bufOwned s n 2 || !s.bus[n].started || s.bus[n].stopping || s.appDown then [0x00030002] else []) ++
  (if data.length = 16 + len then [] else [0x00020001]) ++
  (if bit id 29 || decide (16 ≤ dlc) || bits flags 2 0 != 0 then [0x00050004] else []) ++
  (if decide (dlcBytes fdf (dlc % 16) < len) || (fdf && !s.bus[n].fd) || (bit id 30 && fdf) ||
      (bit flags 6 && !fdf) then [0x00050006] else [])

def rawTxEff (n : Fin 4) (who : Origin) (data : List Byte) (s : State) : State := loadBuf s n 2 [rawFrameOf data] who 0 0

/-! ### Objects that follow (R302, R325, R326) -/

/-- Channel Status as a read shows it (R327): ENABLED is Enable. -/
def busStatusRead (s : State) (n : Fin 4) : Nat := setBit (s.ob (Ob.busStatus n)) 0 (s.flag (Ob.busEnable n))

/-- A bit rate of R302 as a word. -/
def bitRate (prescaler t1 t2 : Nat) : Nat :=
  (FX.div (FX.ofNat 80000000) (FX.ofNat (prescaler * (1 + t1 + t2)))).toBits32

def nomBitRate (s : State) (n : Nat) : Nat :=
  bitRate (s.ob (Ob.busTimingNomPrescaler n)) (s.ob (Ob.busTimingNomTseg1 n)) (s.ob (Ob.busTimingNomTseg2 n))

def dataBitRate (s : State) (n : Nat) : Nat :=
  bitRate (s.ob (Ob.busTimingDataPrescaler n)) (s.ob (Ob.busTimingDataTseg1 n)) (s.ob (Ob.busTimingDataTseg2 n))

def rawOldest (s : State) (n : Fin 4) : Nat := (s.bus[n].raw.head?.map (fun e => e.1)).getD 0
def rawNewest (s : State) (n : Fin 4) : Nat := (s.bus[n].raw.getLast?.map (fun e => e.1)).getD 0

/-- RawFrame: the entry selected, or the abort of R325, older or newer as the U32 numbers wrap. -/
def rawFrameRead (s : State) (n : Fin 4) : Except Nat (List Byte) :=
  let sel := s.ob (Ob.busRxRawSelect n)
  match s.bus[n].raw.find? (fun e => e.1 == sel) with
  | some e => .ok (entryBytes e.2)
  | none =>
    let older := !s.bus[n].raw.isEmpty && decide (2 ^ 31 ≤ (sel + 2 ^ 32 - rawOldest s n) % 2 ^ 32)
    .error (if older then 0x00050002 else 0x00050001)

/-! ### Emergency messages and master sync (R335, R345, R347) -/

/-- An emergency on one channel: a waiting sync makes way for it. -/
def emergencyOn (ev payload : Nat) (s : State) (n : Fin 4) : State :=
  if !(bit (s.ob Ob.worustEmergencyChannels) n.val && s.flag (Ob.busEnable n)) then s
  else
    let s := if bufOwned s n 0 && s.bus[n].bufs[(0 : Fin 3)].use = 1 then cancelBuf s n 0 else s
    let body := bytesLE 2 ev ++ bytesLE 4 payload ++ bytesLE 1 s.opState ++ bytesLE 1 (s.ob Ob.opSeasonRead)
    let b := s.bus[n]
    let k := (b.hotUse.takeWhile (fun u => u.1 == 3)).length
    feedBus (setBus s n { b with
      hot := b.hot.take k ++ [⟨1, 1, 127, 0, ownFd s n, body⟩] ++ b.hot.drop k
      hotUse := b.hotUse.take k ++ [(3, 0)] ++ b.hotUse.drop k }) n

/-- The emergency notification of an event: on every emergency channel and to every Ethernet subscription, and event 201. -/
def emergency (s : State) (ev payload : Nat) : State :=
  let s := (List.finRange 4).foldl (emergencyOn ev payload) s
  let body := bytesLE 2 ev ++ bytesLE 4 payload ++ bytesLE 1 s.opState ++ bytesLE 1 (s.ob Ob.opSeasonRead)
  let s := (List.range 16).foldl (fun s u =>
    if s.flag (Ob.subEnable u) && s.ob (Ob.subInterface u) = 0x20 then
      sendUdp s (s.ob (Ob.subAddress u)) (s.ob (Ob.subPort u)) (datagram 1 0 body)
    else s) s
  raise s 201 ev

/-- A sync frame into buffer 0 (R345); where the buffer is still owned none is loaded. -/
def syncMaster (s : State) (n : Fin 4) : State :=
  let b := s.bus[n]
  if bufOwned s n 0 || !b.hot.isEmpty then setBus s n { b with syncAt := s.osc }
  else
    let s := setBus s n { b with syncSeq := (b.syncSeq + 1) % 256, syncAt := s.osc }
    queueHot s n ⟨0, 0, 127, 0, ownFd s n, bytesLE 1 1 ++ bytesLE 1 b.syncSeq⟩ 1 b.syncSeq

end Sys2Proof.Machine
end

