-- ==== Sys2Proof/Machine/JournalStore.lean ====
section
/-! DEFINITION. The journal's way into NAND (R460–R465): records are chained, written in pages of 32 into a ring, verified at BOOT, and
read back; and the counters held in NAND (R493). -/
namespace Sys2Proof.Machine

/-! ### Chaining (R460, R461) -/

/-- Once a place is free the KIND 6 record of lost module actions takes it, ahead of every record formed since the first of them, with
event 214 (R461). -/
def formLoss (s : State) : State :=
  let g := s.staging
  if g.lostActions = 0 ∨ 768 ≤ placesUsed s then s
  else
    let r := actionRec s 6 0 0 g.lostActions [] []
    let s := { s with staging := { g with
      staged := g.staged.take g.lossAhead ++ r :: g.staged.drop g.lossAhead, lostActions := 0, lossAhead := 0 } }
    raise (s.inc Ob.journalLossRecords) 214 g.lostActions

/-- The KIND 5 record of this start has been formed, so that the records behind it can be chained (R464). -/
def kind5Formed (s : State) : Bool :=
  match s.phase with
  | .run => true
  | .boot k => decide (6 ≤ k)
  | _ => false

/-- Management firmware chains: it runs, and at BOOT the KIND 5 record has been formed (R462, R464). -/
def chains (s : State) : Bool := !s.mgmtDown && kind5Formed s

/-- The oldest staged record is chained; one formed after an action was lost waits until the KIND 6 record is there (R461). -/
def chainNext (s : State) : State :=
  let g := s.staging
  match g.staged with
  | [] => s
  | r :: rest =>
    if 0 < g.lostActions ∧ g.lossAhead = 0 then s
    else chainRec { s with staging := { g with staged := rest, lossAhead := g.lossAhead - 1 } } r

/-- At most `fuel` staged records are chained. -/
def chainAll : Nat → State → State
  | 0, s => s
  | fuel + 1, s => if s.staging.staged.isEmpty then s else chainAll fuel (chainNext s)

/-! ### Pages (R462, R463) -/

/-- Records to a page, and pages of the ring of 2,097,152 records. -/
def pageRecords : Nat := 32
def ringPages : Nat := 65536

/-- The HASH of a record's 128 bytes. -/
def hashOf (bytes : List Byte) : List Byte := bytes.drop 96

/-- A record added to its page: records of one page share (SEQ − 1) / 32. -/
def addToPages (pages : List (List (Nat × List Byte))) (seq : Nat) (bytes : List Byte) : List (List (Nat × List Byte)) :=
  match pages.reverse with
  | [] => [[(seq, bytes)]]
  | p :: rest =>
    if ((p.head?.map (fun (x : Nat × List Byte) => (x.1 - 1) / pageRecords)) == some ((seq - 1) / pageRecords)) then
      ((p ++ [(seq, bytes)]) :: rest).reverse
    else ([(seq, bytes)] :: p :: rest).reverse

/-- A record written to the ring; the oldest page of a full ring is overwritten once its newest HASH is kept (R463). -/
def writeRecord (n : Nand) (c : Chained) : Nand :=
  let pages := addToPages n.journal c.seq c.bytes
  if pages.length ≤ ringPages then n.keep { n.areas with journal := pages }
  else
    let anchor := ((pages.head?).bind (fun p => (p.getLast?).map (fun x => hashOf x.2))).getD n.anchor
    { n.keep { n.areas with journal := pages.drop 1 } with anchor }

/-- The newest and the oldest record in NAND. -/
def newestRec (n : Nand) : Option (Nat × List Byte) := (n.journal.getLast?).bind (fun p => p.getLast?)
def oldestRec (n : Nand) : Option (Nat × List Byte) := (n.journal.head?).bind (fun p => p.head?)

/-- How many chained records complete the page that is open in NAND. -/
def pageRoom (n : Nand) : Nat := pageRecords - ((newestRec n).map (fun x => x.1 % pageRecords)).getD 0

/-- Chained records go to NAND up to the end of a page. -/
def pageWrite (s : State) : State :=
  let k := pageRoom s.nand
  let out := s.staging.chained.take k
  formLoss { s with
    nand := out.foldl writeRecord s.nand
    staging := { s.staging with chained := s.staging.chained.drop k } }

/-- Everything staged is chained and written, as far as a KIND 6 record still to be formed lets it. -/
def writeOut (s : State) : State :=
  let s := chainAll (s.staging.staged.length + 8) s
  formLoss { s with nand := s.staging.chained.foldl writeRecord s.nand, staging := { s.staging with chained := [] } }

/-- Everything raised and staged so far is chained and written (R432, R438, R462). -/
def flushJournal (s : State) : State :=
  let s := flush s
  if s.mgmtDown then s else writeOut (flush (writeOut s))

/-! ### Verification and resumption at BOOT (R464) -/

/-- The first record whose HASH does not follow from the one before it. -/
def chainBreak (prev : List Byte) : List (Nat × List Byte) → Option Nat
  | [] => none
  | (seq, b) :: rest => if sha256 (prev ++ b.take 96) = hashOf b then chainBreak (hashOf b) rest else some seq

/-- The chain is recomputed over the newest 4,096 records in NAND, and goes on from the newest. -/
def resumeJournal (s : State) : State :=
  let all := s.nand.journal.flatten
  let old := all.take (all.length - 4096)
  let new := all.drop (all.length - 4096)
  let zero : List Byte := List.replicate 32 0
  let prev :=
    match old.getLast? with
    | some x => hashOf x.2
    | none => if ((new.head?).map (fun (x : Nat × List Byte) => x.1)) == some 1 then zero else s.nand.anchor
  let s := { s with staging := { s.staging with
    nextSeq := ((newestRec s.nand).map (fun x => x.1 + 1)).getD 1
    head := ((newestRec s.nand).map (fun x => hashOf x.2)).getD zero } }
  match chainBreak prev new with
  | none => s
  | some q => raise (s.putBit Ob.journalJournalStatus 0 true) 215 q

/-- The KIND 5 record of the BOOT: the first one chained after it. -/
def stageBoot (s : State) (sequence : Nat) : State :=
  let r := actionRec s 5 0 0 (s.ob Ob.resetLastResetCause) [] (bytesLE 4 sequence)
  { s with staging := { s.staging with staged := r :: s.staging.staged } }

/-! ### Reading the journal (R465) -/

def journalOldest (s : State) : Nat := ((oldestRec s.nand).map (fun x => x.1)).getD 0
def journalNewest (s : State) : Nat := ((newestRec s.nand).map (fun x => x.1)).getD 0

/-- A record by its number; zero bytes beyond the newest. -/
def journalAt (s : State) (seq : Nat) : List Byte :=
  slice (((s.nand.journal.flatten.find? (fun x => x.1 == seq)).map (fun x => x.2)).getD []) 0 128

/-- Record and Block: `n` records from Select on, or the abort. -/
def journalRead (s : State) (n : Nat) : Except Nat (List Byte) :=
  let q := s.ob Ob.journalSelect
  if q = 0 ∨ q < journalOldest s then .error 0x00050002
  else if journalNewest s < q then .error 0x00050001
  else .ok ((List.range n).flatMap (fun i => journalAt s (q + i)))

def headHash (s : State) : List Byte := ((newestRec s.nand).map (fun x => hashOf x.2)).getD (List.replicate 32 0)

def journalStatusRead (s : State) : Nat := setBit (s.ob Ob.journalJournalStatus) 1 (stagingFull s)

/-! ### Counters held in NAND (R428, R435, R445, R493) -/

/-- The objects held in NAND as counts. -/
def nandKeys : List Nat :=
  [Ob.faultLoopEngineFaults, Ob.faultParcelEngineFaults, Ob.faultAppLockstepRetries, Ob.faultMgmtLockstepRetries,
   Ob.faultAppPairRestarts, Ob.faultMgmtPairRestarts, Ob.faultSramCorrected, Ob.faultDramCorrected, Ob.faultNandCorrected,
   Ob.faultUncorrectable, Ob.faultDspFaults, Ob.faultLostParcels, Ob.faultLostDryMatter, Ob.faultLostWater,
   Ob.faultGuaranteeBreaks, Ob.supplySwitchoverCount, Ob.supplyPowerFailCount, Ob.seasonWinterCount,
   Ob.seasonEntryAbandonCount, Ob.resetResetCount, Ob.resetPowerOnCount]

/-- The counters are written to NAND. -/
def saveCounters (s : State) : State :=
  { s with nand := { s.nand with
      counters := nandKeys.filterMap (fun k => if s.ob k = 0 then none else some (k, s.ob k)) } }

end Sys2Proof.Machine
end

