-- ==== Sys2Proof/Machine/ConfigStore.lean ====
section
/-! DEFINITION. The configuration copies (R447–R454): their form and validity, the choice and load at BOOT, and the commit. -/
namespace Sys2Proof.Machine

/-! ### The form of a copy (R447, R448) -/

/-- Every block of the dictionary, rising. -/
def allBlocks : List Block := (List.range 16).flatMap dictBlocks

/-- The stored objects (R51), rising: index, subindex and row. -/
def storedRows : List (Nat × Nat × Row) :=
  allBlocks.flatMap (fun b =>
    let rows := b.rows.filter (fun r => r.stored)
    if rows.isEmpty then [] else
    (List.range b.count).flatMap (fun i => rows.flatMap (fun r =>
      (List.range (r.hi + 1 - r.lo)).map (fun j => (b.base + i, r.lo + j, r)))))

/-- Zero bytes up to a multiple of 4. -/
def padFour (l : List Byte) : List Byte := l ++ List.replicate ((4 - l.length % 4) % 4) 0

/-- An entry that a path owns: its objects are the module's, not the configuration's (R448). -/
def ownedEntry (s : State) (idx : Nat) : Bool :=
  decide (0x5000 ≤ idx ∧ idx < 0x5400) && (entryDyn s (idx - 0x5000)).owner != 0

/-- One record of the body. -/
def cfgRecord (s : State) (idx sub : Nat) (r : Row) : List Byte :=
  let v := if ownedEntry s idx then bytesLE (tySize r.ty) (dfltOf (key idx sub)) else carried s idx sub r.ty
  bytesLE 2 idx ++ bytesLE 1 sub ++ bytesLE 1 (tyCode r.ty) ++ bytesLE 4 v.length ++ padFour v

def cfgBody (s : State) : List Byte := storedRows.flatMap (fun x => cfgRecord s x.1 x.2.1 x.2.2)

/-- A whole copy: header bytes 0–31, DIGEST, body. -/
def cfgCopy (s : State) (slot sequence iface : Nat) : List Byte :=
  let body := cfgBody s
  let head := bytesLE 4 0x4E584346 ++ bytesLE 2 1 ++ bytesLE 2 (s.ob Ob.identDictionaryVersion) ++ bytesLE 4 sequence ++
    bytesLE 4 body.length ++ bytesLE 8 s.wc ++ bytesLE 1 slot ++ bytesLE 1 iface ++ bytesLE 6 0
  head ++ sha256 (head ++ body) ++ body

def cfgSequence (c : List Byte) : Nat := leAt c 8 4
def cfgTime (c : List Byte) : Nat := leAt c 16 8
def cfgBodyOf (c : List Byte) : List Byte := (c.drop 64).take (leAt c 12 4)

/-- A slot holds a valid copy. -/
def cfgValid (c : List Byte) : Bool :=
  decide (64 ≤ c.length) && leAt c 0 4 == 0x4E584346 && leAt c 4 2 == 1 && decide (leAt c 12 4 ≤ 8388544) &&
  (cfgBodyOf c).length == leAt c 12 4 && sha256 (c.take 32 ++ cfgBodyOf c) == (c.drop 32).take 32

def slotOf (s : State) (slot : Nat) : List Byte := if slot = 0 then s.nand.march else s.nand.september
def putSlot (s : State) (slot : Nat) (c : List Byte) : State :=
  { s with nand := s.nand.keep (if slot = 0 then { s.nand.areas with march := c } else { s.nand.areas with september := c }) }

/-- The sequence objects and the status bits follow the slots (R454). -/
def showSlots (s : State) : State :=
  let m := cfgValid s.nand.march
  let e := cfgValid s.nand.september
  let s := s.put Ob.configMarchSequence (if m then cfgSequence s.nand.march else 0)
  let s := s.put Ob.configSeptemberSequence (if e then cfgSequence s.nand.september else 0)
  ((s.putBit Ob.configConfigStatus 1 (!m)).putBit Ob.configConfigStatus 2 (!e)).putBit Ob.configConfigStatus 3 (m != e)

/-! ### The choice and the load (R449, R450) -/

/-- Sequence a is higher than b. -/
def seqHigher (a b : Nat) : Bool := decide (1 ≤ (a + 2 ^ 32 - b) % 2 ^ 32 ∧ (a + 2 ^ 32 - b) % 2 ^ 32 ≤ 2 ^ 31 - 1)

/-- DICTVER of a copy has the dictionary's major version. -/
def sameMajor (s : State) (c : List Byte) : Bool := leAt c 7 1 == s.ob Ob.identDictionaryVersion / 256

/-- The slot loaded at BOOT. -/
def chooseSlot (s : State) : Option Nat :=
  let ok (c : List Byte) : Bool := cfgValid c && sameMajor s c
  let m := ok s.nand.march
  let e := ok s.nand.september
  if m && e then (if seqHigher (cfgSequence s.nand.september) (cfgSequence s.nand.march) then some 1 else some 0)
  else if m then some 0
  else if e then some 1
  else none

/-- The records of a body: index, subindex, type code and value. `fuel` bounds their number. -/
def cfgRecords : Nat → List Byte → List (Nat × Nat × Nat × List Byte)
  | 0, _ => []
  | fuel + 1, bs =>
    if (bs.drop 7).isEmpty then []
    else
      let len := leAt bs 4 4
      let rest := bs.drop 8
      (leAt bs 0 2, leAt bs 2 1, leAt bs 3 1, rest.take len) :: cfgRecords fuel (rest.drop ((len + 3) / 4 * 4))

/-- A cell port that is not fitted (R3, R4). -/
def unfittedCell (s : State) (c : Nat) : Bool := decide (s.ob Ob.identFittedCellPorts ≤ c)

/-- Aborts of a SourceBinding against its chapter (R70, R427): instances not fitted, and values no chapter defines. -/
def bindCodes (s : State) (b : Nat) : List Nat :=
  (if bindClass b = 0x06 ∧ bindInst b < 4 ∧ unfittedCell s (bindInst b) = true then [0x00060001] else []) ++
  (if bindDefined b then [] else [0x00050005])

/-- Aborts that a value meets by itself, beside the check of its row: bindings, fitting, and what an entry's domain admits. -/
def valueCodes (s : State) (idx sub v : Nat) : List Nat :=
  if 0x2000 ≤ idx ∧ idx < 0x3000 ∧ sub = 0x05 then bindCodes s v
  else if 0x4310 ≤ idx ∧ idx < 0x4314 ∧ sub = 0x01 then (if v ≠ 0 ∧ unfittedCell s (idx - 0x4310) = true then [0x00060001] else [])
  else if 0x5000 ≤ idx ∧ idx < 0x5400 ∧ sub = 0x03 then targetCodes s (idx - 0x5000) v
  else if idx = 0x9010 ∧ sub = 0x03 then (if v = 0 then [0x00050006] else [])
  else []

/-- Whether a record is loaded. A record of LEN 0 is that of an empty CalData, its default (R204, R448). -/
def recordOk (s : State) (r : Row) (idx sub ty : Nat) (v : List Byte) : Bool :=
  ty == tyCode r.ty && ((sizeCodes r v).isEmpty || (r.ty == .domain && v.isEmpty)) &&
  (r.ty == .str || r.ty == .domain ||
    ((rangeCodes r.ty r.chk (ofBytesLE v)).isEmpty && (valueCodes s idx sub (ofBytesLE v)).isEmpty))

/-- An object takes a value as carried. -/
def putCarried (s : State) (idx sub : Nat) (ty : Ty) (v : List Byte) : State :=
  match ty with
  | .str => s.putBytes (key idx sub) (v.drop 2)
  | .domain => s.putBytes (key idx sub) v
  | _ => s.put (key idx sub) (ofBytesLE v)

/-- One record of the load: it is taken, skipped or rejected. -/
def loadRecord (s : State) (x : Nat × Nat × Nat × List Byte) : State :=
  match findRow x.1 x.2.1 with
  | none => s.inc Ob.configSkippedRecords
  | some r =>
    if !r.stored then s.inc Ob.configSkippedRecords
    else if recordOk s r x.1 x.2.1 x.2.2.1 x.2.2.2 then putCarried s x.1 x.2.1 r.ty x.2.2.2
    else s.inc Ob.configRejectedRecords

/-- Every stored object at its default. -/
def dropStored (s : State) : State :=
  let isStored (k : Nat) : Bool := ((findRow (k / 256) (k % 256)).map (fun r => r.stored)).getD false
  { s with objs := s.objs.filter (fun c => !isStored c.1), strs := s.strs.filter (fun c => !isStored c.1) }

/-- The stored objects take their values from a copy (R450). -/
def loadCopy (s : State) (c : List Byte) : State :=
  let s := (dropStored s).puts [(Ob.configSkippedRecords, 0), (Ob.configRejectedRecords, 0)]
  (cfgRecords c.length (cfgBodyOf c)).foldl loadRecord s

/-- The configuration step of BOOT (R440, R449, R450, R464): the choice, the KIND 5 record, the load, and its events. -/
def bootConfig (s : State) : State :=
  let s := showSlots s
  let mism (c : List Byte) : Bool := cfgValid c && !sameMajor s c
  let s := s.putBit Ob.configConfigStatus 4 (mism s.nand.march || mism s.nand.september)
  let pick := chooseSlot s
  let sequence := (pick.map (fun k => cfgSequence (slotOf s k))).getD 0
  let s := stageBoot s sequence
  let s := match pick with
    | none => s.putBit Ob.configConfigStatus 0 true
    | some k =>
      let c := slotOf s k
      (loadCopy s c).puts [(Ob.configActiveSlot, k), (Ob.configActiveSequence, sequence), (Ob.configLastCommitTime, cfgTime c)]
  let bad := ofBool (s.stBit Ob.configConfigStatus 1) + 2 * ofBool (s.stBit Ob.configConfigStatus 2)
  let s := if bad = 0 then s else raise s 211 bad
  let s := raise s 210 sequence
  let n := s.ob Ob.configRejectedRecords
  if n = 0 then s else raise s 213 n

/-! ### Commit (R451, R452) -/

def commitRuns (s : State) : Bool := s.sec.commit.isSome

/-- The slot a commit writes. -/
def commitTarget (s : State) : Nat :=
  match s.ob Ob.configActiveSlot with
  | 0 => 1
  | 1 => 0
  | _ =>
    let m := cfgValid s.nand.march
    let e := cfgValid s.nand.september
    if m && e then 1 else if m then 1 else 0

/-- A commit begins: the snapshot is taken and the target's header erased. -/
def commitEff (o : Origin) (s : State) : State :=
  let t := commitTarget s
  let q := if s.ob Ob.configActiveSlot = 0xFF then 1 else wrap 32 (s.ob Ob.configActiveSequence + 1)
  let c := cfgCopy s t q o.iface
  let s := showSlots (putSlot s t [])
  { (s.puts [(Ob.configCommitStatus, 1), (Ob.configCommitFailCause, 0)]) with
    sec := { s.sec with commit := some ⟨t, c, s.osc⟩ } }

/-- The KIND 4 record of a commit or a revert. -/
def configAction (s : State) (code sequence : Nat) : State := journalAction s 0 0 code [] (bytesLE 4 sequence)

/-- The copy is read back and becomes active. -/
def commitSwitch (s : State) (c : Commit) : State :=
  let q := cfgSequence c.copy
  let s := showSlots (putSlot s c.target c.copy)
  let s := s.puts [(Ob.configActiveSlot, c.target), (Ob.configActiveSequence, q), (Ob.configLastCommitTime, cfgTime c.copy),
    (Ob.configCommitStatus, 2)]
  let s := configAction { s with sec := { s.sec with commit := none } } 1 q
  raise s 208 q

/-- The commit ends without a switch. `complete`: what was written is the whole copy. -/
def commitEnds (s : State) (c : Commit) (complete : Bool) : State :=
  let s := { s with sec := { s.sec with commit := none } }
  if complete then showSlots (putSlot s c.target c.copy) else s

/-- The commit fails with its cause. -/
def commitFails (s : State) (c : Commit) (complete : Bool) (cause : Nat) : State :=
  let s := (commitEnds s c complete).puts [(Ob.configCommitStatus, 3), (Ob.configCommitFailCause, cause)]
  raise (configAction s 2 (cfgSequence c.copy)) 209 cause

/-- Whether the header of a commit in progress has been written by now, or by the restart of the management cores that stopped it. -/
def headerWritten (s : State) (c : Commit) : Bool := decide (c.began + 1210000 ≤ if s.mgmtDown then s.pairs.mgmtDownAt else s.osc)

/-- A commit in progress is abandoned with a cause (R452). -/
def abandonCommit (s : State) (cause : Nat) : State :=
  match s.sec.commit with
  | none => s
  | some c => commitFails s c (headerWritten s c) cause

/-- The power-fail warning meets a commit: one that the restart of the management cores has stopped stays that restart's (R452). -/
def warnCommit (s : State) : State := if s.mgmtDown then s else abandonCommit s 2

/-- COMMIT_DONE (R451, R452): the slot is checked, or has failed twice. -/
def commitDone (s : State) (nandOk : Bool) : State :=
  match s.sec.commit with
  | none => s
  | some c => if s.mgmtDown then s else if nandOk then commitSwitch s c else commitFails s c false 1

end Sys2Proof.Machine
end

