-- ==== Sys2Proof/Machine/Crypto.lean ====
section
/-! DEFINITION. ECDSA verification over the P-256 curve (R467, R469; FIPS 186-5): arithmetic modulo a prime, points in affine
coordinates, and the check of a signature over a digest. -/
namespace Sys2Proof.Machine

/-- The field prime, the coefficient b, the order of the base point and the base point of P-256. -/
def p256 : Nat := 0xffffffff00000001000000000000000000000000ffffffffffffffffffffffff
def p256b : Nat := 0x5ac635d8aa3a93e7b3ebbd55769886bc651d06b0cc53b0f63bce3c3e27d2604b
def p256n : Nat := 0xffffffff00000000ffffffffffffffffbce6faada7179e84f3b9cac2fc632551
def p256Gx : Nat := 0x6b17d1f2e12c4247f8bce6e563a440f277037d812deb33a0f4a13945d898c296
def p256Gy : Nat := 0x4fe342e2fe1a7f9b8ee7eb4a7c0f9e162bce33576b315ececbb6406837bf51f5

/-- b^e modulo m by squaring, over the low `fuel` bits of e. -/
def powMod (m : Nat) : Nat → Nat → Nat → Nat → Nat
  | 0, _, _, acc => acc
  | fuel + 1, b, e, acc => powMod m fuel (b * b % m) (e / 2) (if e % 2 = 1 then acc * b % m else acc)

/-- The inverse modulo a prime of 256 bits. -/
def invMod (m a : Nat) : Nat := powMod m 256 (a % m) (m - 2) 1

/-- A point of the curve; none is the point at infinity. -/
abbrev Pt := Option (Nat × Nat)

def subMod (m a b : Nat) : Nat := (a + m - b % m) % m

/-- The sum of two points from the slope between them. -/
def chord (slope x1 y1 x2 : Nat) : Pt :=
  let x3 := subMod p256 (subMod p256 (slope * slope % p256) x1) x2
  some (x3, subMod p256 (slope * subMod p256 x1 x3 % p256) y1)

def ptAdd (a b : Pt) : Pt :=
  match a, b with
  | none, q => q
  | q, none => q
  | some (x1, y1), some (x2, y2) =>
    if x1 = x2 then
      if (y1 + y2) % p256 = 0 then none
      else chord ((3 * (x1 * x1 % p256) + p256 - 3) * invMod p256 (2 * y1) % p256) x1 y1 x2
    else chord (subMod p256 y2 y1 * invMod p256 (subMod p256 x2 x1) % p256) x1 y1 x2

/-- k times a point, over the low `fuel` bits of k. -/
def ptMul : Nat → Nat → Pt → Pt → Pt
  | 0, _, _, acc => acc
  | fuel + 1, k, q, acc => ptMul fuel (k / 2) (ptAdd q q) (if k % 2 = 1 then ptAdd acc q else acc)

/-- A pair of coordinates names a point of the curve. -/
def onCurve (x y : Nat) : Bool :=
  decide (x < p256) && decide (y < p256) && y * y % p256 == (x * x % p256 * x + (p256 - 3) * x + p256b) % p256

/-- A number in bytes, most significant first. -/
def ofBytesBE (bs : List Byte) : Nat := bs.foldl (fun n b => n * 256 + b.toNat) 0

/-- The signature (r, s) over a digest verifies under the key (X, Y): 64 bytes each. -/
def ecdsaVerify (key digest sig : List Byte) : Bool :=
  let x := ofBytesBE (key.take 32)
  let y := ofBytesBE ((key.drop 32).take 32)
  let r := ofBytesBE (sig.take 32)
  let t := ofBytesBE ((sig.drop 32).take 32)
  let w := invMod p256n t
  let u1 := ofBytesBE digest * w % p256n
  let u2 := r * w % p256n
  onCurve x y && decide (1 ≤ r ∧ r < p256n) && decide (1 ≤ t ∧ t < p256n) &&
  (match ptAdd (ptMul 256 u1 (some (p256Gx, p256Gy)) none) (ptMul 256 u2 (some (x, y)) none) with
   | none => false
   | some (v, _) => v % p256n == r)

end Sys2Proof.Machine
end

