-- ==== Sys2Proof/Machine/Aes.lean ====
section
/-! DEFINITION. AES with a key of 256 bits (FIPS 197) and its XTS mode (IEEE 1619), which R474 names: written from those standards (PRESUMED,
log entry 69). Bytes are numbers below 256; a block is 16 of them. -/
namespace Sys2Proof.Machine

/-- The S-box of AES: the value of byte b in bits 8b+7 … 8b. -/
def aesBox : Nat :=
  0x75b227ebe28012079a059618c323c7041531d871f1e5a534ccf73f362693fdb7c072a49cafa2d4adf04759fa7dc982ca76abd7fe2b670130c56f6bf27b777c63 +
  0xd2f3ff1021dab6bcf5389d928f40a351a89f3c507f02f94585334d43fbaaefd0cf584c4a39becb6a5bb1fc20ed00d153842fe329b3d63b52a05a6e1b1a2c8309 * 2 ^ 512 +
  0x08ae7a65eaf4566ca94ed58d6d37c8e779e4959162acd3c25c2406490a3a32e0db0b5ede14b8ee4688902a22dc4f816073195d643d7ea7c41744975fec130ccd * 2 ^ 1024 +
  0x16bb54b00f2d99416842e6bf0d89a18cdf2855cee9871e9b948ed9691198f8e19e1dc186b95735610ef6034866b53e708a8bbd4b1f74dde8c6b4a61c2e2578ba * 2 ^ 1536

/-- Its inverse. -/
def aesBoxInv : Nat :=
  0x25d18b6d49a25b76b224d92866a12e084ec3fa420b954cee3d23c2a632947b54cbe9dec444438e3487ff2f9b8239e37cfbd7f3819ea340bf38a53630d56a0952 +
  0x6b8a130103bdafc1020f3fca8f1e2cd00645b3b80558e4f70ad3bc8c00abd890849d8da75746155edab9edfd5048706c92b6655dcc5ca4d41698688664f6f872 * 2 ^ 512 +
  0xf45acd78fec0db9a2079d2c64b3e56fc1bbe18aa0e62b76f89c5291d711af1476edf751ce837f9e28535ade72274ac9673e6b4f0cecff297eadc674f4111913a * 2 ^ 1024 +
  0x7d0c2155631469e126d677ba7e042b17619953833cbbebc8b0f52aae4d3be0a0ef9cc9939f7ae52d0d4ab519a97f51605fec8027591012b131c7078833a8dd1f * 2 ^ 1536

def subByte (box b : Nat) : Nat := box / 2 ^ (8 * b) % 256

def xorBytes (a b : List Nat) : List Nat := (a.zip b).map (fun x => x.1 ^^^ x.2)

/-- Twice a byte in GF(2⁸). -/
def gfDouble (b : Nat) : Nat := if b < 128 then 2 * b else (2 * b) ^^^ 0x11B

/-- A byte times a coefficient below 16 in GF(2⁸). -/
def gfTimes (c b : Nat) : Nat :=
  let d := gfDouble b
  let q := gfDouble d
  let o := gfDouble q
  (if c.testBit 0 then b else 0) ^^^ (if c.testBit 1 then d else 0) ^^^ (if c.testBit 2 then q else 0) ^^^ (if c.testBit 3 then o else 0)

/-- The rows rotated: byte i comes from `step` columns on for each row. 4 for ShiftRows, 12 for its inverse. -/
def shiftRows (step : Nat) (s : List Nat) : List Nat := (List.range 16).map (fun i => s.getD ((i + step * (i % 4)) % 16) 0)

/-- The columns multiplied by the circulant matrix of `coef`: 2 3 1 1 for MixColumns, 14 11 13 9 for its inverse. -/
def mixColumns (coef s : List Nat) : List Nat :=
  (List.range 16).map (fun i =>
    (List.range 4).foldl (fun v j => v ^^^ gfTimes (coef.getD ((j + 4 - i % 4) % 4) 0) (s.getD (i / 4 * 4 + j) 0)) 0)

/-- The words of the key schedule from word `i` on, the latest first in `acc`, each of 4 bytes. -/
def expandKey : Nat → Nat → List (List Nat) → List (List Nat)
  | 0, _, acc => acc
  | n + 1, i, acc =>
    let t := acc.headD []
    let sub (w : List Nat) : List Nat := w.map (subByte aesBox)
    let t := if i % 8 = 0 then xorBytes (sub (t.drop 1 ++ t.take 1)) [2 ^ (i / 8 - 1), 0, 0, 0]
      else if i % 8 = 4 then sub t else t
    expandKey n (i + 1) (xorBytes t (acc.getD 7 []) :: acc)

/-- The 15 round keys of a key of 32 bytes. -/
def roundKeys (key : List Nat) : List (List Nat) :=
  let w := (List.range 8).map (fun i => (key.drop (4 * i)).take 4)
  let ws := (expandKey 52 8 w.reverse).reverse
  (List.range 15).map (fun r => ((ws.drop (4 * r)).take 4).flatten)

/-- AES-256 over one block, by its round keys. -/
def aesEncipher (rk : List (List Nat)) (block : List Nat) : List Nat :=
  let sub (s : List Nat) : List Nat := shiftRows 4 (s.map (subByte aesBox))
  let s := ((rk.drop 1).take 13).foldl (fun s k => xorBytes (mixColumns [2, 3, 1, 1] (sub s)) k) (xorBytes block (rk.getD 0 []))
  xorBytes (sub s) (rk.getD 14 [])

/-- The inverse of `aesEncipher`. -/
def aesDecipher (rk : List (List Nat)) (block : List Nat) : List Nat :=
  let sub (s : List Nat) : List Nat := (shiftRows 12 s).map (subByte aesBoxInv)
  let s := ((rk.drop 1).take 13).reverse.foldl (fun s k => mixColumns [14, 11, 13, 9] (xorBytes (sub s) k)) (xorBytes block (rk.getD 14 []))
  xorBytes (sub s) (rk.getD 0 [])

def numBytes (n v : Nat) : List Nat := (List.range n).map (fun i => v / 2 ^ (8 * i) % 256)
def bytesNum (l : List Nat) : Nat := l.foldr (fun b v => b + 256 * v) 0

/-- The blocks of a data unit, each between two additions of its tweak; the next tweak is the last one times α in GF(2¹²⁸). -/
def xtsBlocks (f : List Nat → List Nat) : Nat → List (List Nat) → List (List Nat)
  | _, [] => []
  | t, b :: rest =>
    let w := numBytes 16 t
    xorBytes (f (xorBytes b w)) w :: xtsBlocks f (if t < 2 ^ 127 then 2 * t else (2 * t) % 2 ^ 128 ^^^ 0x87) rest

/-- A whole number of blocks. -/
def blocksOf (l : List Nat) : List (List Nat) := (List.range (l.length / 16)).map (fun i => (l.drop (16 * i)).take 16)

/-- XTS-AES-256 over one data unit of whole blocks, of the given number. The key is 64 bytes: the data key and then the tweak key. -/
def xtsUnit (decipher : Bool) (key : List Nat) (unit : Nat) (data : List Nat) : List Nat :=
  let rk := roundKeys (key.take 32)
  let tweak := bytesNum (aesEncipher (roundKeys (key.drop 32)) (numBytes 16 unit))
  (xtsBlocks (if decipher then aesDecipher rk else aesEncipher rk) tweak (blocksOf data)).flatten

end Sys2Proof.Machine
end

