-- ==== Sys2Proof/Machine/Media.lean ====
section
/-! DEFINITION. The encrypted areas as the NAND holds them (R474): the content of `Sealed` under XTS-AES-256 with the media key of its number.
The module reads and writes the content through `Nand.areas` and `Nand.keep`, which is what deciphering and enciphering under one key come to;
no command shows a byte of what stands here. -/
namespace Sys2Proof.Machine

/-- The bytes of each area: archive, checkpoint slots, March, September, journal. -/
def areaBytes (a : Areas) : List (List Byte) :=
  [a.archive.flatMap (fun p => p.flatMap (·.2)), a.ckpts.flatMap (fun c => bytesLE 4 c.seq ++ bytesLE 1 c.kind ++ ckptBytes c.body ++ c.digest), a.march, a.september,
   a.journal.flatMap (fun p => p.flatMap (·.2))]

/-- The data unit of the XTS mode, in bytes, and an area cut into them, the last filled up with 0xFF (DESIGN CHOICE, log entry 64). -/
def mediaUnit : Nat := 4096

def unitsOf (l : List Byte) : List (List Nat) :=
  (List.range ((l.length + mediaUnit - 1) / mediaUnit)).map (fun i =>
    let u := ((l.drop (mediaUnit * i)).take mediaUnit).map BitVec.toNat
    u ++ List.replicate (mediaUnit - u.length) 0xFF)

/-- A media key by its number: 64 bytes, the two keys of 256 bits. -/
def mediaKeyBytes (k : Nat) : List Nat := numBytes 64 (Config.mediaKey k).toNat

/-- An area as it stands in NAND: data unit `i` of area `n` is numbered 2³² × n + i. -/
def cipherArea (key : List Nat) (n : Nat) (l : List Byte) : List Byte :=
  (((unitsOf l).zipIdx).flatMap (fun u => xtsUnit false key (2 ^ 32 * n + u.2) u.1)).map (BitVec.ofNat 8)

/-- The five areas as they stand in NAND. -/
def Sealed.cipher (z : Sealed) : List (List Byte) :=
  ((areaBytes z.areas).zipIdx).map (fun a => cipherArea (mediaKeyBytes z.key) a.2 a.1)

end Sys2Proof.Machine
end

