-- ==== Sys2Proof/Machine/Security.lean ====
section
/-! DEFINITION. Firmware images and their update, recovery and secure erase (R467–R475). -/
namespace Sys2Proof.Machine

/-! ### Images (R468, R469) -/

/-- What a valid image says of itself. -/
structure ImgInfo where
  version : Nat
  secver : Nat
  keyslot : Nat
  revoke : Nat
  deriving DecidableEq, Repr

/-- A slot's byte: as the latest write left it, 0xFF where nothing was written since the erase. -/
def flashByte (chunks : List (Nat × List Byte)) (k : Nat) : Byte :=
  match chunks.find? (fun c => decide (c.1 ≤ k ∧ k < c.1 + c.2.length)) with
  | some c => (c.2[k - c.1]?).getD 0xFF
  | none => 0xFF

def flashBytes (chunks : List (Nat × List Byte)) (off n : Nat) : List Byte :=
  (List.range n).map (fun i => flashByte chunks (off + i))

/-- Bytes of an image slot. -/
def slotBytes : Nat := 33554432

/-- The key of a slot is provisioned and not revoked, the security version lies within 0–63 (R468) and not below the counter, and the image does not
revoke its own key. -/
def admitsImage (s : State) (i : ImgInfo) : Bool :=
  (((s.factory.keys[i.keyslot]?).getD none).isSome) && !bit s.nand.revoked i.keyslot && decide (s.nand.rollback ≤ i.secver) && decide (i.secver ≤ 63) &&
  !bit i.revoke i.keyslot

/-- The validity of R469 over a slot's bytes. -/
def flashInfo (s : State) (chunks : List (Nat × List Byte)) : Option ImgInfo :=
  let h := flashBytes chunks 0 512
  let i : ImgInfo := ⟨leAt h 8 4, leAt h 7 1, leAt h 6 1, leAt h 20 1 % 16⟩
  let appLen := leAt h 12 4
  let mgmtLen := leAt h 16 4
  let mgmtAt := 4096 + (appLen + 4095) / 4096 * 4096
  if leAt h 0 4 == 0x4E584657 && leAt h 4 2 == 1 && (slice h 21 11).all (fun b => b == 0) &&
      (slice h 160 288).all (fun b => b == 0) && admitsImage s i &&
      ((s.factory.keys[i.keyslot]?).getD none == some (sha256 (slice h 96 64))) &&
      decide (appLen ≤ 25165824) && decide (mgmtLen ≤ 8388608) && decide (mgmtAt + mgmtLen ≤ slotBytes) &&
      ecdsaVerify (slice h 96 64) (sha256 (slice h 0 448)) (slice h 448 64) &&
      sha256 (flashBytes chunks 4096 appLen) == slice h 32 32 &&
      sha256 (flashBytes chunks mgmtAt mgmtLen) == slice h 64 32
  then some i else none

/-- What a slot holds, where it is valid. -/
def imageInfo (s : State) (b : Bool) : Option ImgInfo :=
  match if b then s.nand.imageB else s.nand.imageA with
  | .delivered v sv ks rv => if admitsImage s ⟨v, sv, ks, rv⟩ then some ⟨v, sv, ks, rv⟩ else none
  | .flash chunks => flashInfo s chunks

def putImage (s : State) (b : Bool) (x : Image) : State :=
  if b then { s with nand := { s.nand with imageB := x } } else { s with nand := { s.nand with imageA := x } }

/-- ImageAVersion and ImageBVersion (R71): 0 for an image that is not valid. -/
def imageVersion (s : State) (b : Bool) : Nat := ((imageInfo s b).map (fun i => i.version)).getD 0

/-- The boot record as BootRecord (0xA000:03) shows it. -/
def BootRec.byte (b : BootRec) : Nat := ofBool b.preferB + 2 * ofBool b.trial + 4 * ofBool b.started

/-- The CRC-32 of a copy, over the record's one byte; R470 gives no layout of its own (DESIGN CHOICE, log entry 94). -/
def bootCrc (b : BootRec) : Nat := crc32 (bytesLE 1 b.byte)

/-- The boot record in force: the first copy whose CRC-32 stands; with neither, image A and no trial (DESIGN CHOICE, log entry 94). -/
def bootRec (s : State) : BootRec :=
  match s.nand.boot.toList.find? (fun c => c.crc == bootCrc c.record) with
  | some c => c.record
  | none => ⟨false, false, false⟩

/-- KeySlots and BootRecord (R476). -/
def keySlotsRead (s : State) : Nat :=
  (List.range 4).foldl (fun n k => if ((s.factory.keys[k]?).getD none).isSome then n + 2 ^ k else n) 0 + 16 * (s.nand.revoked % 16)

def bootRecordRead (s : State) : Nat :=
  (bootRec s).byte

/-- Both copies of the boot record are written. -/
def setBootRec (s : State) (b : BootRec) : State := { s with nand := { s.nand with boot := Vector.replicate 2 ⟨b, bootCrc b⟩ } }

/-! ### The choice at BOOT (R470) -/

def atEnd (s : State) (e : Nat × Nat) : State := { s with boot := { s.boot with atEnd := s.boot.atEnd ++ [e] } }

/-- The image that starts, or recovery. -/
def chooseImage (s : State) : State :=
  let b := bootRec s
  let s := if b.trial && b.started then atEnd (setBootRec s ⟨!b.preferB, false, false⟩) (217, 1) else s
  let b := bootRec s
  let start (s : State) : State := if b.trial then setBootRec s { bootRec s with started := true } else s
  if (imageInfo s b.preferB).isSome then
    start (s.put Ob.imageRunningImage (ofBool b.preferB))
  else if (imageInfo s (!b.preferB)).isSome then
    let s := atEnd (atEnd s (216, ofBool b.preferB)) (217, 2)
    start ((setBootRec s { b with preferB := !b.preferB }).put Ob.imageRunningImage (ofBool (!b.preferB)))
  else { s with boot := { s.boot with recovery := true } }

/-- Confirmation of a trial image at the end of BOOT (R471): the events it raises. -/
def confirmImage (s : State) : State × List (Nat × Nat) :=
  if !(bootRec s).trial then (s, [])
  else match imageInfo s (s.ob Ob.imageRunningImage == 1) with
    | none => (s, [])
    | some i =>
      let up := decide (s.nand.rollback < i.secver)
      let s := { s with nand := { s.nand with
        rollback := max s.nand.rollback i.secver, revoked := s.nand.revoked ||| i.revoke } }
      (setBootRec s { bootRec s with trial := false, started := false },
       (219, i.version) :: (if up then [(220, i.secver)] else []))

/-! ### Update (R472) -/

def updateState (s : State) : Nat := s.ob Ob.updateUpdateState
def updateTarget (s : State) : Bool := s.ob Ob.updateUpdateTarget == 1

def updateCodes (s : State) (v : Nat) : List Nat :=
  match v with
  | 1 => if commitRuns s || updateState s = 1 then [0x00030004] else []
  | 2 =>
    if updateState s ≠ 1 then [0x00030002]
    else if (imageInfo s (updateTarget s)).isNone then [0x00070003] else []
  | 3 => if s.inPreop && updateState s = 2 then [] else [0x00030002]
  | 4 => if updateState s = 0 then [0x00030002] else []
  | _ => []

/-- Begin: the target slot is erased, and UpdateFailCause reads 0 again (R472, R476; DEDUCED, log entry 26). -/
def updateBegin (s : State) : State :=
  let b := s.ob Ob.imageRunningImage != 1
  (putImage s b (.flash [])).puts [(Ob.updateUpdateTarget, ofBool b), (Ob.updateUpdateState, 1), (Ob.updateBytesWritten, 0),
    (Ob.updateUpdateFailCause, 0)]

def updateVerify (s : State) : State :=
  raise (s.put Ob.updateUpdateState 2) 218 (imageVersion s (updateTarget s))

/-- A Verify that fails reports it beside its abort (R53). -/
def updateFailed (s : State) : State := s.puts [(Ob.updateUpdateState, 3), (Ob.updateUpdateFailCause, 1)]

def updateActivate (s : State) : State :=
  let s := setBootRec s ⟨updateTarget s, true, false⟩
  { s with sec := { s.sec with resetDue := some (5, true) } }

def updateAbandon (s : State) : State :=
  (putImage s (updateTarget s) (.flash [])).puts [(Ob.updateUpdateState, 0), (Ob.updateUpdateTarget, 0xFF)]

def updateEff (v : Nat) (s : State) : State :=
  match v with
  | 1 => updateBegin s
  | 2 => updateVerify s
  | 3 => updateActivate s
  | _ => updateAbandon s

def updateBlockCodes (s : State) : List Nat := if updateState s = 1 then [] else [0x00030002]

/-- A block is programmed at UpdateOffset. -/
def updateBlockEff (data : List Byte) (s : State) : State :=
  let chunks := match if updateTarget s then s.nand.imageB else s.nand.imageA with
    | .flash c => c
    | .delivered .. => []
  (putImage s (updateTarget s) (.flash ((s.ob Ob.updateUpdateOffset, data) :: chunks))).put Ob.updateBytesWritten
    (wrap 32 (s.ob Ob.updateBytesWritten + data.length))

/-- The power-fail warning abandons a block being programmed (R472); a transfer that brought it is lost. -/
def updatePowerFail (s : State) (programming : Bool) : State :=
  if programming && updateState s = 1 then
    let s := s.puts [(Ob.updateUpdateState, 3), (Ob.updateUpdateFailCause, 2)]
    { s with net := { s.net with xfers := s.net.xfers.filter (fun x => !(x.write && x.idx == 0xA010 && x.sub == 3)) } }
  else s

/-! ### Recovery (R473) -/

/-- The reply to a recovery operation. -/
def recoveryReply (s : State) (op status addr port : Nat) : State :=
  { s with net := { s.net with ethOut := s.net.ethOut ++ [⟨48411, addr, port, bytesLE 1 op ++ bytesLE 3 0 ++ bytesLE 4 status⟩] } }

def recoveryRuns (s : State) : Bool := s.boot.recovery && (match s.phase with | .boot _ => true | _ => false)

def recoveryStart (s : State) (addr port : Nat) : State :=
  let s := putImage s false (.flash [])
  recoveryReply { s with boot := { s.boot with recovNext := some 0 } } 1 0 addr port

/-- DATA must go on where the last operation ended, within the slot. -/
def recoveryData (s : State) (off : Nat) (data : List Byte) (addr port : Nat) : State :=
  let data := data.take 1024
  if s.boot.recovNext ≠ some off then recoveryReply s 2 0x00020004 addr port
  else if slotBytes < off + data.length then recoveryReply s 2 0x00020002 addr port
  else
    let chunks := match s.nand.imageA with
      | .flash c => c
      | .delivered .. => []
    let s := putImage s false (.flash ((off, data) :: chunks))
    recoveryReply { s with boot := { s.boot with recovNext := some (off + data.length) } } 2 0 addr port

def recoveryEnd (s : State) (addr port : Nat) : State :=
  if (imageInfo s false).isSome then
    let s := setBootRec s ⟨false, true, false⟩
    recoveryReply { s with sec := { s.sec with resetDue := some (5, false) } } 3 0 addr port
  else
    let s := putImage s false (.flash [])
    recoveryReply { s with boot := { s.boot with recovNext := none } } 3 0x00070003 addr port

/-! ### Secure erase (R475) -/

def eraseArmCodes (s : State) : List Nat := if s.inPreop then [] else [0x00030002]
def eraseArmEff (s : State) : State := { s with sec := { s.sec with armAt := some s.osc } }

/-- The arm is current for 10 s. -/
def eraseArmed (s : State) : Bool :=
  match s.sec.armAt with
  | none => false
  | some t => decide (s.osc ≤ t + 10000000)

def eraseCodes (s : State) : List Nat := if s.inPreop && eraseArmed s then [] else [0x00030002]

/-- The erase: event 221, a new media key, and nothing left of what was encrypted; then a restart without checkpoint. -/
def eraseEff (s : State) : State :=
  let s := guaranteeLapse (raise s 221 0)
  let n := { s.nand with mediaKey := s.nand.mediaKey + 1, eraseCount := s.nand.eraseCount + 1, anchor := List.replicate 32 0, old := some s.nand.store }
  { s with
    nand := n.keep noAreas
    sec := { s.sec with armAt := none, commit := none, resetDue := some (2, false) } }

/-- The old blocks are erased and verified blank after BOOT: the erase is complete, and LastEraseTime shows it (R476, log entry 26). -/
def eraseBlank (s : State) : State :=
  if s.nand.old.isSome && s.phase == .run then raise ({ s with nand := { s.nand with old := none } }.put Ob.secLastEraseTime s.wc) 222 0 else s

end Sys2Proof.Machine
end

