-- ==== Sys2Proof/Machine/Dio.lean ====
section
/-! DEFINITION. The 24 V digital pins (R356–R376): inputs and their pulse rate, wire break, overload and open load, the field supplies of
the groups, and logic silence. -/
namespace Sys2Proof.Machine

def pinBit (s : State) (i : Fin 32) (b : Nat) : Bool := s.stBit (Ob.pinPinStatus i) b
def setPinBit (s : State) (i : Fin 32) (b : Nat) (v : Bool) : State := s.putBit (Ob.pinPinStatus i) b v
def setPin (s : State) (i : Fin 32) (p : PinSt) : State := { s with pins := s.pins.set i p }

/-- A pin's event with its cause and LEVEL (R376). -/
def pinPayload (s : State) (i : Fin 32) (cause : Nat) : Nat := ofBool (bit (pinStatus s i) 0) * 256 + cause
def pinRaise (s : State) (i : Fin 32) (cause : Nat) : State := raise s (64 + i.val) (pinPayload s i cause)

/-! ### Inputs (R360–R362) -/

/-- Rising edges kept for PulseRate, newest first: those within RateWindow of the newest, and one older (R361). -/
def keepEdges (s : State) (i : Fin 32) (l : List Nat) : List Nat :=
  match l with
  | [] => []
  | t :: _ =>
    let young := l.takeWhile (fun x => decide (t < x + s.micros (Ob.pinRateWindow i)))
    young ++ (l.drop young.length).take 1

/-- Whether a new level that held for `held` µs passes the pin's filter (R360). -/
def pinPasses (s : State) (i : Fin 32) (held : Nat) : Bool := decide (s.micros (Ob.pinFilterTime i) ≤ held)

/-- FilterTime is held rounded to 1 µs (R357). -/
def filterTimeEff (i w : Nat) (s : State) : State :=
  let us := (FX.mul (FX.ofBits32 w) (FX.ofNat 1000000)).roundAway.toNat
  s.putF (Ob.pinFilterTime i) (FX.to32 (FX.ratio us 1000000))

/-- The filtered level changes (R360): rising edges count, and the edges EdgeEvent selects are raised. -/
def pinEdge (s : State) (i : Fin 32) : State :=
  let p := s.pins[i]
  let up := !p.level
  let s := setPin s i { p with level := up, edges := if up && p.dir = 1 then keepEdges s i (s.osc :: p.edges) else p.edges }
  if p.dir ≠ 1 then s
  else
    let s := if up then s.inc (Ob.pinPulseCount i) else s
    let sel := s.ob (Ob.pinEdgeEvent i)
    if bit (pinStatus s i) 2 || !(sel == 3 || sel == (if up then 1 else 2)) then s
    else pinRaise s i (if up then 1 else 2)

/-- The rate between the newest edge and the earlier one R361 names. Two edges at one instant give no stated rate: an open value. -/
def pulseRate (s : State) (i : Fin 32) : FX :=
  match s.pins[i].edges with
  | [] => FX.zero
  | [_] => FX.zero
  | t :: rest =>
    if t + s.micros (Ob.pinRateTimeout i) ≤ s.osc then FX.zero
    else
      let w := s.micros (Ob.pinRateWindow i)
      let near := rest.takeWhile (fun x => decide (t < x + w))
      let n := if near.length = rest.length then rest.length else near.length + 1
      let tj := (rest[n - 1]?).getD t
      if t = tj then FX.ofBits32 (Config.freeValue s.fresh % 2 ^ 32)
      else
        let rate := FX.div (FX.ofNat n) (FX.ratio (t - tj) 1000000)
        if s.osc = t then rate else FX.fmin rate (FX.div FX.one (FX.ratio (s.osc - t) 1000000))

/-- The update of one pin every 10 ms: a pin that is no input holds no edges, and reads 0.0. -/
def pulseUpdate (s : State) (i : Fin 32) : State :=
  ((s.putF (Ob.pinPulseRate i) (pulseRate s i)).ran (.pulseRate i) 10000).tickFree

/-- Whether wire-break detection runs on a pin (R362). -/
def wireWatched (s : State) (i : Fin 32) : Bool :=
  s.pins[i].dir == 1 && s.flag (Ob.pinWireBreakEnable i) && !groupBit s (pinGroup i.val) 2

def wireBreak (s : State) (i : Fin 32) (v : Bool) : State := pinRaise (setPinBit s i 3 v) i (if v then 3 else 4)

/-- WIREBREAK ends where none is detected any more, with cause 4 where it stood (R376). -/
def clearBreak (s : State) (i : Fin 32) : State := if pinBit s i 3 then wireBreak s i false else s

/-! ### Outputs (R365, R366) -/

/-- The driver switches off by overload: a retry that fails counts, and the pin latches after OverloadRetries of them. -/
def overload (s : State) (i : Fin 32) : State :=
  let p := s.pins[i]
  let again := p.retrying && decide (s.osc < p.retryAt + 1000000)
  let fails := if again then p.fails + 1 else p.fails
  let n := s.ob (Ob.pinOverloadRetries i)
  let latch := n == 0 || (again && decide (n ≤ fails))
  let s := (setPinBit s i 5 true).inc (Ob.pinOverloadCount i)
  let s := setPin s i { p with overAt := s.osc, retrying := false, fails, offTicks := 0 }
  let s := pinRaise (excursion (pinApply s i) (.pin i)) i 5
  if latch then pinRaise (setPinBit s i 6 true) i 6 else s

/-- Whether a retry is due (R365). -/
def retryDue (s : State) (i : Fin 32) : Bool :=
  pinBit s i 5 && !pinBit s i 6 && pinAsked s i.val && decide (s.pins[i].overAt + 100000 ≤ s.osc)

def overloadRetry (s : State) (i : Fin 32) : State :=
  let s := setPinBit s i 5 false
  pinApply (setPin s i { s.pins[i] with retryAt := s.osc, retrying := true }) i

/-- LATCHED clears, and OVERLOAD with it, with cause 15 (R365); an overload between retries is not touched. -/
def clearLatch (s : State) (i : Fin 32) : State :=
  if !pinBit s i 6 then s
  else
    let s := setPinBit (setPinBit s i 6 false) i 5 false
    pinRaise (setPin s i { s.pins[i] with fails := 0, retrying := false, offTicks := 0 }) i 15

/-- Whether the driver has been on for 10 s without overload (R365). -/
def longOn (s : State) (i : Fin 32) : Bool :=
  match s.pins[i].onSince with
  | some t => decide (t + 10000000 ≤ s.osc)
  | none => false

/-- What a tick does to a pin's overload state: a tick of an off command clears LATCHED, 10 s on without overload the retry count. -/
def pinTick (s : State) (i : Fin 32) : State :=
  let p := s.pins[i]
  if p.dir ≠ 2 then s
  else
    let asked := pinAsked s i.val
    let long := longOn s i
    let s := setPin s i { p with
      offTicks := if asked then 0 else p.offTicks + 1
      fails := if long then 0 else p.fails
      retrying := p.retrying && !long }
    if pinBit s i 6 && decide (1 ≤ p.offTicks) then clearLatch s i else s

/-- OPENLOAD set (R366). -/
def openLoad (s : State) (i : Fin 32) : State := pinRaise (setPinBit s i 7 true) i 7

/-- A pin's measured current (R357): OPENLOAD clears at 10 mA. -/
def pinCurrent (s : State) (i : Fin 32) (amps : Word) : State :=
  let s := s.put (Ob.pinOutputCurrent i) amps.toNat
  if pinBit s i 7 && FX.ge (FX.ofBits32 amps.toNat) (FX.to32 (FX.ratio 1 100)) then setPinBit s i 7 false else s

/-- GroupCurrent: the sum of the group's outputs (R370). -/
def groupCurrent (s : State) (g : Nat) : Nat :=
  ((List.finRange 32).foldl (fun (x : FX) (i : Fin 32) =>
    if pinGroup i.val = g && s.pins[i].dir = 2 then FX.add x (s.f (Ob.pinOutputCurrent i)) else x) FX.zero).toBits32

/-- Directions written in PREOP take effect (R375): an output that is one no longer loses its latches; no broken wire is detected on a pin
that is no input (R358, R362), and one that was is cleared with its cause (R376). -/
def takeDirections (s : State) : State :=
  (List.finRange 32).foldl (fun s (i : Fin 32) =>
    let d := s.ob (Ob.pinDirection i)
    let p := s.pins[i]
    if p.dir = d then s
    else
      let s := setPin s i { p with dir := d, edges := [], fails := 0, retrying := false, offTicks := 0, onSince := none }
      if p.dir = 1 then clearBreak s i
      else if p.dir = 2 then setPinBit (setPinBit (setPinBit s i 6 false) i 5 false) i 7 false else s) s

/-! ### Field supplies (R369) -/

/-- The pins of a field supply. -/
def supplyPins (k : Fin 2) : List (Fin 32) := (List.finRange 32).filter (fun (i : Fin 32) => i.val / 16 == k.val)

/-- Group causes, on every input and output of the supply's groups (R376). -/
def groupRaise (s : State) (k : Fin 2) (causes : List Nat) : State :=
  raiseAll s ((supplyPins k).flatMap (fun (i : Fin 32) =>
    if s.pins[i].dir = 0 then [] else causes.map (fun (c : Nat) => (64 + i.val, pinPayload s i c))))

def supplyGroups (k : Fin 2) : List Nat := [2 * k.val, 2 * k.val + 1]

def groupBits (s : State) (k : Fin 2) (bs : List Nat) (v : Bool) : State :=
  (supplyGroups k).foldl (fun s g => bs.foldl (fun s b => s.putBit (Ob.groupGroupStatus g) b v) s) s

def supplyWarning (s : State) (k : Fin 2) : State := fieldPairE (groupRaise (groupBits s k [0] true) k [8]) k true

def supplyTrip (s : State) (k : Fin 2) : State :=
  let s := groupBits s k [1, 2, 3] true
  let s := (supplyGroups k).foldl (fun s g => s.inc (Ob.groupTripCount g)) s
  let s := (supplyPins k).foldl pinApply s
  fieldPairE (groupRaise s k [10]) k true

def supplyRestore (s : State) (k : Fin 2) : State :=
  let warned := groupBit s (2 * k.val) 0
  let tripped := groupBit s (2 * k.val) 1
  let s := groupBits s k [0, 1, 2] false
  let s := if (supplyGroups k).any (fun g => FX.gt (s.f (Ob.groupSupplyVoltage g)) (FX.ofNat 32)) then s else fieldPairE s k false
  let s := (supplyGroups k).foldl (fun s g =>
    let x := s.groups[Fin.ofNat 4 g]
    let s := if x.bootLatch || s.flag (Ob.groupAutoRestore g) then s.putBit (Ob.groupGroupStatus g) 3 false else s
    { s with groups := s.groups.set (Fin.ofNat 4 g) { x with bootLatch := false } }) s
  groupRaise s k ((if warned then [9] else []) ++ (if tripped then [11] else []))

def groupResetCodes (s : State) (g : Nat) : List Nat := if groupBit s g 1 then [0x00030002] else []

/-- GroupReset (R369): cause 15 on the group's outputs. -/
def groupResetEff (g : Nat) (s : State) : State :=
  if !groupBit s g 3 then s
  else
    let s := s.putBit (Ob.groupGroupStatus g) 3 false
    raiseAll s ((List.finRange 32).flatMap (fun (i : Fin 32) =>
      if pinGroup i.val = g && s.pins[i].dir = 2 then [(64 + i.val, pinPayload s i 15)] else []))

/-! ### Logic silence (R371–R374) -/

/-- What a supply back at 19.0 V has to clear (R369): a bit of its groups, a latch that AutoRestore releases, or the latch of BOOT. -/
def restorable (s : State) (k : Fin 2) : Bool :=
  (supplyGroups k).any (fun g => groupBit s g 0 || groupBit s g 1 || groupBit s g 2 || s.groups[Fin.ofNat 4 g].bootLatch ||
    (groupBit s g 3 && s.flag (Ob.groupAutoRestore g)))

/-- Whether the local copy passes its CRC (R372). -/
def copyOk (s : State) : Bool := !s.safeCopy.isEmpty && crc16 s.safeCopy == s.safeCrc

def checkCopy (s : State) : State := s.putFlag Ob.silenceSafeConfigValid (copyOk s)

/-- A silence state is entered: outputs are decided at once, and the core die learns of it with the next upstream frame. -/
def toSilence (s : State) (st cause : Nat) : State :=
  fieldDecide { (s.put Ob.silenceSilenceState st) with silenceEv := s.silenceEv ++ [cause], silenceAt := s.osc }

/-- A valid frame has come since SilenceState 1, and not the 100 that end silence. -/
def frameSince (s : State) : Bool := decide (s.silenceAt < s.link.downAt)

/-- No valid frame for SilenceTime (R371): silence is declared, and declared anew where single frames have come since (log entry 72). -/
def silenceDue (s : State) : Bool :=
  (silenceState s == 0 || silenceState s == 1 && frameSince s) && decide (s.link.downAt + s.micros Ob.silenceSilenceTime ≤ s.osc)

/-- Silence is declared; declared anew, the outputs stay in their SafeState, and AllOffTime counts from now (DEDUCED, log entry 72). -/
def silenceDeclared (s : State) : State :=
  let anew := silenceState s == 1
  let s := checkCopy (if anew then s else capturePre s)
  if !copyOk s then toSilence s 2 13 else if anew then { s with silenceAt := s.osc } else toSilence s 1 12

/-- AllOffTime, counted from SilenceState 1 (R373), has passed and no valid frame has come in it (R371). -/
def allOffDue (s : State) : Bool :=
  silenceState s == 1 && !frameSince s && decide (s.silenceAt + s.micros Ob.silenceAllOffTime ≤ s.osc)

def silenceEndDue (s : State) : Bool := silenceState s != 0 && decide (100 ≤ s.link.downRun)

def silenceEnd (s : State) : State := toSilence (s.inc Ob.silenceSilenceCount) 0 14

/-- Silence causes, raised on every output once an upstream frame brings them (R376). -/
def raiseSilence (s : State) : State :=
  let evs := s.silenceEv.flatMap (fun (c : Nat) => (List.finRange 32).flatMap (fun (i : Fin 32) =>
    if s.pins[i].dir = 2 then [(64 + i.val, pinPayload s i c)] else []))
  raiseAll { s with silenceEv := [] } evs

end Sys2Proof.Machine
end

