-- ==== Sys2Proof/Machine/Analog.lean ====
section
/-! DEFINITION. The current loops and RTD inputs (R377–R393): conversion results and their signal conditions, shortfall and thermal
protection of the outputs, the two-point trim, and the temperature of a resistance. -/
namespace Sys2Proof.Machine

/-- Payload of the analogue events (R393). -/
def analogPayload (inst cause : Nat) : Nat := inst * 256 + cause

/-! ### Conversion windows (R377, R378) -/

/-- The length of a window in µs, where it does not lie on the mains phase. -/
def winLength (mode : Nat) : Nat := [100, 1000, 10000].getD mode 20000

/-- µs from `t` to the mains phase 0 at it or after it. -/
def phaseWait (s : State) (t : Nat) : Nat :=
  let ph := (s.mp.refPos + (t - s.mp.refAt) * 1024 / s.mp.period) % 1024
  ((1024 - ph) % 1024 * s.mp.period + 1023) / 1024

/-- The window after `w`, which ends at `t`: on the mains phase it starts at phase 0, the nearest one where `w` lay on the phase too. -/
def nextWindow (s : State) (mode : Nat) (w : WinSt) (t : Nat) : WinSt :=
  if winPhased s mode then
    let p := s.mp.period
    let wait := phaseWait s t
    { w with endAt := if w.phased && decide (p < 2 * wait) then t + wait else t + wait + p, phased := true }
  else { w with endAt := t + winLength mode, phased := false }

/-- A converter's windows begin now. -/
def firstWindow (s : State) (mode : Nat) : WinSt := nextWindow s mode ⟨s.osc, false, false⟩ s.osc

/-- The window in progress once every window that has ended by now is past. -/
def windowNow (s : State) (mode : Nat) (w : WinSt) : WinSt :=
  let len := if winPhased s mode then s.mp.period else winLength mode
  nextWindow s mode { w with seen := true } (w.endAt + (s.osc - w.endAt) / len * len)

/-- Whether a window has ended that no result was taken of. -/
def windowEnded (s : State) (w : WinSt) : Bool := decide (w.endAt ≤ s.osc)

/-! ### Current-loop inputs (R380) -/

def aiBit (s : State) (a : Fin 16) (b : Nat) : Bool := s.stBit (Ob.aiInputStatus a) b

/-- A milliampere or volt figure of R380 as binary32, in 1/10000 of its unit. -/
def aiFig (n : Int) : FX := FX.to32 (FX.div (FX.ofInt n) (FX.ofNat 10000))

/-- The bit of a signal condition, and its place among the timers. -/
def condBit : AiCond → Nat
  | .neLow => 2 | .neHigh => 3 | .wireBreak => 1 | .overRange => 4
def condPlace : AiCond → Nat
  | .neLow => 0 | .neHigh => 1 | .wireBreak => 2 | .overRange => 3
/-- The cause with which a condition's setting is raised (R393). -/
def condCause (c : AiCond) : Nat := condPlace c + 1

def allConds : List AiCond := [.neLow, .neHigh, .wireBreak, .overRange]

/-- The set test of a condition in a range (R380). -/
def condSet (range : Nat) (x : FX) : AiCond → Bool
  | .neLow => range == 0 && FX.le x (aiFig 36)
  | .neHigh => range == 0 && FX.ge x (aiFig 210)
  | .wireBreak => range == 0 && FX.lt x (aiFig 10)
  | .overRange =>
    if range = 3 then FX.gt x (aiFig 105000) || FX.lt x (aiFig (-5000))
    else (range == 1 || range == 2) && FX.gt x (aiFig 245)

/-- The clear test of a condition in a range; one that the range does not have is clear. -/
def condClear (range : Nat) (x : FX) : AiCond → Bool
  | .neLow => range != 0 || (FX.ge x (aiFig 38) && FX.le x (aiFig 205))
  | .neHigh => range != 0 || (FX.ge x (aiFig 38) && FX.le x (aiFig 205))
  | .wireBreak => range != 0 || FX.ge x (aiFig 10)
  | .overRange =>
    if range = 3 then FX.ge x FX.zero && FX.le x (aiFig 100000)
    else range == 0 || FX.le x (aiFig 240)

/-- A signal bit changes, with its event: the setting's cause, or cause 6 when the last of bits [5:1] clears. -/
def aiPutBit (s : State) (a : Fin 16) (b cause : Nat) (v : Bool) : State :=
  if aiBit s a b == v then s
  else
    let s := s.putBit (Ob.aiInputStatus a) b v
    if v then raise s 96 (analogPayload a.val cause)
    else if bits (s.ob (Ob.aiInputStatus a)) 5 1 = 0 then raise s 96 (analogPayload a.val 6) else s

/-- Since when a test has held. -/
def sinceOf (l : List Nat) (k : Nat) : Nat := (l[k]?).getD 0

/-- The timers of one input follow a latched reading. -/
def aiTimers (s : State) (a : Fin 16) (x : FX) : State :=
  let r := s.ob (Ob.aiRange a)
  let st := s.ai[a]
  let upd (l : List Nat) (test : AiCond → Bool) : List Nat :=
    allConds.map (fun (c : AiCond) => if test c then (if sinceOf l (condPlace c) = 0 then s.osc else sinceOf l (condPlace c)) else 0)
  { s with ai := s.ai.set a { st with setSince := upd st.setSince (condSet r x), clrSince := upd st.clrSince (condClear r x) } }

/-- Whether a condition's bit is due to change: set, or cleared, after FaultConfirm. -/
def condDue (s : State) (a : Fin 16) (c : AiCond) : Option Bool :=
  let held (l : List Nat) : Bool :=
    sinceOf l (condPlace c) != 0 && decide (sinceOf l (condPlace c) + s.micros (Ob.aiFaultConfirm a) ≤ s.osc)
  if aiBit s a (condBit c) then (if held s.ai[a].clrSince then some false else none)
  else if held s.ai[a].setSince then some true else none

def condApply (s : State) (a : Fin 16) (c : AiCond) : State :=
  match condDue s a c with
  | some v => aiPutBit s a (condBit c) (condCause c) v
  | none => s

/-- An input's window completes: Reading, and with FaultConfirm 0.0 its bits at once. -/
def aiConverted (s : State) (a : Fin 16) (reading : Nat) : State :=
  let s := { s with ai := s.ai.set a { s.ai[a] with win := windowNow s (s.ob (Ob.aiIntegrationMode a)) s.ai[a].win } }
  let s := aiTimers (s.put (Ob.aiReading a) reading) a (FX.ofBits32 reading)
  if (s.f (Ob.aiFaultConfirm a)).isZero then allConds.foldl (fun s c => condApply s a c) s else s

/-- An input disabled, or set to another range, starts with no condition; the last of them to clear reports it (R393). -/
def aiClear (s : State) (a : Fin 16) : State :=
  let had := bits (s.ob (Ob.aiInputStatus a)) 4 1 != 0
  let s := { (s.put (Ob.aiInputStatus a) (setField (s.ob (Ob.aiInputStatus a)) 4 1 0)) with
    ai := s.ai.set a { State.restAi with win := s.ai[a].win } }
  if had && !aiBit s a 5 then raise s 96 (analogPayload a.val 6) else s

/-- An input's windows begin. -/
def aiBegin (s : State) (a : Fin 16) : State :=
  { s with ai := s.ai.set a { s.ai[a] with win := firstWindow s (s.ob (Ob.aiIntegrationMode a)) } }

/-- Whether the transmitter supply of an input is powered (R379): off in Winter and till the end of BOOT (R432, R442). -/
def txPowered (s : State) (a : Fin 16) : Bool := s.phase == .run && s.flag (Ob.aiTxSupplyEnable a) && s.ob (Ob.aiRange a) != 3

/-- TXLIMIT follows the supply (R382). -/
def txLimit (s : State) (a : Fin 16) (limit : Bool) : State := aiPutBit s a 5 5 (limit && txPowered s a)

/-- Enable, Range and TxSupplyEnable of an input are written (R379). -/
def aiSetupEff (a : Fin 16) (sub : Nat) (s : State) : State :=
  let s := if sub ≤ 2 then aiClear s a else s
  let s := if sub = 1 then aiBegin s a else s
  if txPowered s a then s else txLimit s a false

/-! ### RTD inputs (R390, R391) -/

def rtBit (s : State) (t : Fin 8) (b : Nat) : Bool := s.stBit (Ob.rtRtdStatus t) b

def rtA : FX := FX.ratio 39083 10000000
def rtB : FX := FX.neg (FX.ratio 5775 10000000000)
def rtC : FX := FX.neg (FX.ratio 4183 1000000000000000)

/-- One Newton step of R391. -/
def rtStep (w t : FX) : FX :=
  let m := FX.mul
  let f := FX.sub (FX.add (FX.add (FX.add FX.one (m rtA t)) (m (m rtB t) t)) (m (m (m (m rtC (FX.sub t (FX.ofNat 100))) t) t) t)) w
  let df := FX.add (FX.add rtA (m (m (FX.ofNat 2) rtB) t))
    (m rtC (FX.sub (m (m (m (FX.ofNat 4) t) t) t) (m (m (FX.ofNat 300) t) t)))
  FX.sub t (FX.div f df)

/-- The temperature of a resistance ratio (R391). -/
def rtTemperature (w : FX) : FX :=
  let m := FX.mul
  let d := FX.sub (m rtA rtA) (m (m (FX.ofNat 4) rtB) (FX.sub FX.one w))
  let t := FX.div (FX.add (FX.neg rtA) (FX.sqrt d)) (m (FX.ofNat 2) rtB)
  if FX.lt w FX.one then rtStep w (rtStep w (rtStep w t)) else t

/-- R0 of the element. -/
def rtZero (s : State) (t : Fin 8) : FX := FX.ofNat (if s.ob (Ob.rtElement t) = 1 then 1000 else 100)

/-- One of bits 1–4 after a conversion: it sets after three that show its condition and clears after three that do not. -/
def rtCount (s : State) (t : Fin 8) (b : Nat) (shows : Bool) : State :=
  let x := s.rt[t]
  let up := if shows then sinceOf x.setRun (b - 1) + 1 else 0
  let down := if shows then 0 else sinceOf x.clrRun (b - 1) + 1
  let s := { s with rt := s.rt.set t { x with setRun := x.setRun.set (b - 1) (min 3 up), clrRun := x.clrRun.set (b - 1) (min 3 down) } }
  let has := rtBit s t b
  let cause := if b = 2 then 1 else if b = 3 then 2 else if b = 4 then 3 else 4
  if !has && decide (3 ≤ up) then raise (s.putBit (Ob.rtRtdStatus t) b true) 98 (analogPayload t.val cause)
  else if has && decide (3 ≤ down) then
    let s := s.putBit (Ob.rtRtdStatus t) b false
    if bits (s.ob (Ob.rtRtdStatus t)) 4 1 = 0 then raise s 98 (analogPayload t.val 5) else s
  else s

/-- The excitation of an RTD input, in µA (R390, R392): off while the input is disabled, in Winter and till the end of BOOT (R432, R442). -/
def rtExcitation (s : State) (t : Fin 8) : Nat :=
  if s.phase == .run && s.flag (Ob.rtEnable t) then (if s.ob (Ob.rtElement t) = 1 then 100 else 1000) else 0

/-- An RTD conversion completes. In 3-wire wiring the sense line of end A is not monitored (R503). A temperature that no equation of R391
yields is an open value. -/
def rtConverted (s : State) (t : Fin 8) (ohms lead : Nat) (openA openB : Bool) : State :=
  let s := { s with rt := s.rt.set t { s.rt[t] with win := windowNow s (s.ob (Ob.rtIntegrationMode t)) s.rt[t].win } }
  let three := s.ob (Ob.rtWiring t) == 1
  let l := if three then FX.ofBits32 lead else FX.zero
  let s := s.putF (Ob.rtLeadResistance t) l
  let s := s.putF (Ob.rtResistance t) (FX.sub (FX.sub (FX.ofBits32 ohms) l) (s.f (Ob.rtLeadOffset t)))
  let r := s.f (Ob.rtResistance t)
  let r0 := rtZero s t
  let s := rtCount s t 2 (FX.gt r (FX.mul (FX.ofNat 4) r0) || openB || (openA && !three))
  let s := rtCount s t 3 (FX.lt r (FX.mul (FX.ratio 17 100) r0))
  let s := rtCount s t 4 (three && FX.gt l (FX.ofNat 50))
  let clear := !rtBit s t 2 && !rtBit s t 3
  let temp := FX.to32 (rtTemperature (FX.div r r0))
  let word := if temp.isFinite then temp.toBits32 else Config.freeValue s.fresh % 2 ^ 32
  let s := if clear then (s.put (Ob.rtTemperature t) word).tickFree else s
  let v := FX.ofBits32 word
  rtCount s t 1 (clear && (FX.lt v (FX.ofInt (-200)) || FX.gt v (FX.ofNat 850)))

/-- An RTD input disabled or set up anew starts with no condition; the last of them to clear reports it (R393). -/
def rtClear (s : State) (t : Fin 8) : State :=
  let had := bits (s.ob (Ob.rtRtdStatus t)) 4 1 != 0
  let s := { (s.put (Ob.rtRtdStatus t) 0) with rt := s.rt.set t { State.restRt with win := s.rt[t].win } }
  if had then raise s 98 (analogPayload t.val 5) else s

/-- An RTD input's windows begin. -/
def rtBegin (s : State) (t : Fin 8) : State :=
  { s with rt := s.rt.set t { s.rt[t] with win := firstWindow s (s.ob (Ob.rtIntegrationMode t)) } }

/-- Every converter's windows begin, as the configuration loaded at BOOT has them. -/
def beginWindows (s : State) : State :=
  (List.finRange 8).foldl rtBegin ((List.finRange 16).foldl aiBegin s)

/-! ### Current-loop outputs (R386) -/

def aoBit (s : State) (o : Fin 8) (b : Nat) : Bool := s.stBit (Ob.aoOutputStatus o) b
def setAoBit (s : State) (o : Fin 8) (b : Nat) (v : Bool) : State := s.putBit (Ob.aoOutputStatus o) b v
def aoRaise (s : State) (o : Fin 8) (cause : Nat) : State := raise s 97 (analogPayload o.val cause)

/-- A readback: Delivered, Headroom, COMPLIANCE (R386). -/
def aoReadback (s : State) (o : Fin 8) (amps headroom : Nat) (saturated : Bool) : State :=
  let s := (s.put (Ob.aoDelivered o) amps).put (Ob.aoHeadroom o) headroom
  let s := setAoBit s o 4 (saturated && FX.lt (FX.ofBits32 headroom) FX.one)
  { s with ao := s.ao.set o { s.ao[o] with saturated := saturated } }

/-- CLIPHIGH, COMPLIANCE or OVERTEMP. -/
def aoShort (s : State) (o : Fin 8) : Bool := aoBit s o 2 || aoBit s o 4 || aoBit s o 6

/-- The row that would decide without the thermal protection. -/
def aoRow (s : State) (o : Fin 8) : Nat := (aoDecide (setAoBit s o 6 false) o).1

/-- A tick of an output's supervision: shortfall ticks, the time without current, and OPENLOOP cleared at 1.0 mA. -/
def aoTick (s : State) (o : Fin 8) : State :=
  let a := s.ao[o]
  let short := aoShort s o
  let d := s.f (Ob.aoDelivered o)
  let low := FX.lt d (aiFig 2) && FX.ge (FX.ofBits32 a.applied) (aiFig 10)
  let s := { s with ao := s.ao.set o { a with
    shortTicks := if short && decide (4 ≤ aoRow s o) then min 3 (a.shortTicks + 1) else 0
    clearTicks := if short then 0 else min 3 (a.clearTicks + 1)
    lowSince := if low then (if a.lowSince = 0 then s.osc else a.lowSince) else 0 } }
  if aoBit s o 5 && FX.ge d (aiFig 10) then aoRaise (setAoBit s o 5 false) o 4 else s

/-- Whether NOTACH is due to change, and to what. -/
def notachDue (s : State) (o : Fin 8) : Option Bool :=
  if aoBit s o 1 then (if 3 ≤ s.ao[o].clearTicks then some false else none)
  else if 3 ≤ s.ao[o].shortTicks then some true else none

def notachChange (s : State) (o : Fin 8) (v : Bool) : State :=
  let s := setAoBit s o 1 v
  if v then aoRaise (s.inc (Ob.aoNotAchCount o)) o 1 else aoRaise s o 2

def openLoopDue (s : State) (o : Fin 8) : Bool :=
  !aoBit s o 5 && s.ao[o].lowSince != 0 && decide (s.ao[o].lowSince + 100000 ≤ s.osc)

def overTemp (s : State) (o : Fin 8) : State :=
  let s := setAoBit s o 6 true
  aoRaise (aoApply { s with ao := s.ao.set o { s.ao[o] with overAt := s.osc } } o) o 5

def overTempRetryDue (s : State) (o : Fin 8) : Bool := aoBit s o 6 && decide (s.ao[o].overAt + 1000000 ≤ s.osc)

def overTempRetry (s : State) (o : Fin 8) : State := aoRaise (aoApply (setAoBit s o 6 false) o) o 6

/-! ### Trim (R389) -/

/-- Gain and offset of the two measured points. -/
def trimGain (s : State) (o : Fin 8) : FX :=
  FX.div (FX.sub (FX.ofBits32 s.ao[o].m2) (FX.ofBits32 s.ao[o].m1)) (FX.ratio 16 1000)
def trimOffset (s : State) (o : Fin 8) : FX :=
  FX.sub (FX.ofBits32 s.ao[o].m1) (FX.mul (FX.ratio 4 1000) (trimGain s o))

def trimStatus (s : State) (o : Nat) : Nat := s.ob (Ob.aoTrimStatus o)

/-- Aborts of TrimCommand `c`. -/
def trimCodes (s : State) (o : Fin 8) (c : Nat) : List Nat :=
  (if !s.inPreop || (c == 2 && trimStatus s o != 2) || (c == 3 && trimStatus s o != 4) then [0x00030002] else []) ++
  (if c = 3 then
    let g := FX.to32 (trimGain s o)
    let f := FX.to32 (trimOffset s o)
    if FX.ge g (FX.to32 (FX.ratio 98 100)) && FX.le g (FX.to32 (FX.ratio 102 100)) &&
       FX.ge f (FX.neg (aiFig 2)) && FX.le f (aiFig 2) then [] else [0x00050006]
   else [])

/-- TrimCommand `c` acts. -/
def trimEff (o : Fin 8) (c : Nat) (s : State) : State :=
  match c with
  | 1 => setAoBit (s.put (Ob.aoTrimStatus o) 1) o 7 true
  | 2 => s.put (Ob.aoTrimStatus o) 3
  | 3 => setAoBit (((s.putF (Ob.aoTrimGain o) (trimGain s o)).putF (Ob.aoTrimOffset o) (trimOffset s o)).put (Ob.aoTrimStatus o) 0)
      o 7 false
  | _ => setAoBit (s.put (Ob.aoTrimStatus o) 0) o 7 false

def trimMeasuredCodes (s : State) (o : Nat) : List Nat :=
  if trimStatus s o = 1 ∨ trimStatus s o = 3 then [] else [0x00030002]

def trimMeasuredEff (o : Fin 8) (w : Nat) (s : State) : State :=
  let low := trimStatus s o == 1
  let s := (s.put (Ob.aoTrimMeasured o) w).put (Ob.aoTrimStatus o) (if low then 2 else 4)
  { s with ao := s.ao.set o (if low then { s.ao[o] with m1 := w } else { s.ao[o] with m2 := w }) }

end Sys2Proof.Machine
end

