-- ==== Sys2Proof/Machine/Fans.lean ====
section
/-! DEFINITION. The fan channels (R394–R406): speed from the tachometer, speed regulation, start and stall, overload, tachometer loss, and
what a tick does to them. -/
namespace Sys2Proof.Machine

def setFan (s : State) (f : Fin 8) (x : FanSt) : State := { s with fans := s.fans.set f x }
def setFanBit (s : State) (f : Fin 8) (b : Nat) (v : Bool) : State := s.putBit (Ob.fanFanStatus f) b v
def fanRaise (s : State) (f : Fin 8) (cause : Nat) : State := raise s (112 + f.val) cause

/-- Whether the channel has a tachometer (R395). -/
def hasTach (s : State) (f : Nat) : Bool := s.ob (Ob.fanTachPulses f) != 0

/-! ### Speed (R398) -/

/-- The period Speed is reckoned from, in µs × edges and edges: the mean over the last 200 ms, or the last single period. -/
def tachPeriod (now : Nat) (edges : List Nat) : Option (Nat × Nat) :=
  match edges with
  | t :: u :: _ =>
    let near := edges.takeWhile (fun x => decide (now < x + 200000))
    if 2 ≤ near.length then some (t - (near.getLast?).getD t, near.length - 1) else some (t - u, 1)
  | _ => none

/-- Speed in rpm; two edges at one instant give no stated speed: an open value. -/
def fanSpeed (s : State) (f : Fin 8) : Nat :=
  if !hasTach s f || decide (s.fans[f].lastEdge + 1000000 ≤ s.osc) then 0
  else match tachPeriod s.osc s.fans[f].edges with
    | none => 0
    | some (span, n) =>
      if span = 0 then Config.freeValue s.fresh % 2 ^ 32
      else (FX.div (FX.ofNat (60000000 * n)) (FX.ofNat (s.ob (Ob.fanTachPulses f) * span))).toBits32

/-! ### Start (R401) -/

/-- Seconds after the start at which kick `k` begins. -/
def kickTime (k : Nat) : Nat := [0, 7000000, 14000000, 21000000].getD k 21000000

/-- A kick begins. -/
def beginKick (s : State) (f : Fin 8) (k : Nat) : State :=
  let s := (setFanBit s f 9 true).inc (Ob.fanStartAttempts f)
  setFan s f { s.fans[f] with start := .kick k }

/-- A start begins at step 1. -/
def beginStart (s : State) (f : Fin 8) : State :=
  let s := setFanBit s f 1 false
  beginKick (setFan s f { s.fans[f] with startAt := s.osc, regOn := false, lowSince := 0, lagSince := 0, learnAt := 0 }) f 0

/-- A start ends. -/
def endStart (s : State) (f : Fin 8) : State :=
  setFan (setFanBit s f 9 false) f { s.fans[f] with start := .none }

/-- The fan proves (R401): regulation starts from MinVoltage (R399); e_prev is what the last step left (log entry 17). -/
def fanProves (s : State) (f : Fin 8) : State :=
  let s := setFanBit (endStart s f) f 1 true
  fanApply (setFan s f { s.fans[f] with regOn := true, u := s.ob (Ob.fanMinVoltage f) }) f

/-- The speed supervision of a channel ends: no start and no judgement of its tachometer. -/
def endSupervision (s : State) (f : Fin 8) : State := endStart (setFanBit s f 8 false) f

def isKick : FanStart → Bool
  | .kick _ => true
  | _ => false

/-- Speed is measured; a kick that reaches ProveSpeed proves the fan (R398, R401). -/
def measureSpeed (s : State) (f : Fin 8) : State :=
  let s := (s.put (Ob.fanSpeed f) (fanSpeed s f)).tickFree
  if hasTach s f && isKick s.fans[f].start && FX.ge (s.f (Ob.fanSpeed f)) (s.f (Ob.fanProveSpeed f)) then fanProves s f else s

/-- A filtered rising edge of the tachometer (R398, R401). -/
def tachEdge (s : State) (f : Fin 8) : State :=
  let x := s.fans[f]
  let near := x.edges.takeWhile (fun t => decide (s.osc < t + 200000))
  measureSpeed (setFan s f { x with edges := s.osc :: (near ++ (x.edges.drop near.length).take 1), lastEdge := s.osc }) f

/-- Rows of R400 that suspend the timers of a start. -/
def suspends (row : Nat) : Bool := [1, 2, 3, 5, 6].contains row

/-- Whether a kick has run its 2 s unproved: its number. Without a tachometer no start runs on (R398), here and below. -/
def kickExpired (s : State) (f : Fin 8) : Option Nat :=
  match s.fans[f].start with
  | .kick k =>
    if hasTach s f && !suspends (fanDecide s f).1 && decide (s.fans[f].startAt + kickTime k + 2000000 ≤ s.osc) then some k else none
  | _ => none

/-- A kick failed to prove: off until the next, or FAULT after the third retry. -/
def kickFailed (s : State) (f : Fin 8) (k : Nat) : State :=
  let s := fanRaise (setFanBit s f 9 false) f 1
  if 3 ≤ k then
    let s := (setFanBit (setFan s f { s.fans[f] with start := .none }) f 3 true).put (Ob.fanFaultCause f) 1
    fanRaise (fanApply s f) f 2
  else fanApply (setFan s f { s.fans[f] with start := .wait (k + 1) }) f

/-- Whether the next kick of a start is due: its number. -/
def retryKick (s : State) (f : Fin 8) : Option Nat :=
  match s.fans[f].start with
  | .wait k =>
    if hasTach s f && !suspends (fanDecide s f).1 && decide (s.fans[f].startAt + kickTime k ≤ s.osc) then some k else none
  | _ => none

/-! ### Supervision (R402–R405) -/

/-- A proven fan that runs without a start, with a tachometer that is neither judged nor faulted. -/
def runsProven (s : State) (f : Fin 8) : Bool :=
  hasTach s f && fanBit s f 1 && fanBit s f 0 && s.fans[f].start == .none && !fanBit s f 8 && !fanBit s f 5

def stallDue (s : State) (f : Fin 8) : Bool :=
  runsProven s f && s.fans[f].lowSince != 0 && decide (s.fans[f].lowSince + 2000000 ≤ s.osc) &&
  decide (s.osc < s.fans[f].lastEdge + 1000000)

/-- A stall runs the steps of R401 from step 1. -/
def fanStalls (s : State) (f : Fin 8) : State := fanApply (beginStart s f) f

/-- The current limit has acted for 100 ms (R402). -/
def fanOverload (s : State) (f : Fin 8) : State :=
  let x := s.fans[f]
  let runs := if x.retryAt != 0 && decide (s.osc < x.retryAt + 1000000) then x.overRuns + 1 else 0
  let s := setFanBit (setFan s f { x with overAt := s.osc, overRuns := runs }) f 4 true
  let s := if 3 ≤ runs then fanRaise ((setFanBit s f 3 true).put (Ob.fanFaultCause f) 2) f 3 else s
  excursion (fanApply s f) (.fan f)

def overloadRetryDue (s : State) (f : Fin 8) : Bool :=
  fanBit s f 4 && !fanBit s f 3 && decide (s.fans[f].overAt + 1000000 ≤ s.osc)

def fanOverloadRetry (s : State) (f : Fin 8) : State :=
  fanApply (setFanBit (setFan s f { s.fans[f] with retryAt := s.osc }) f 4 false) f

/-- FanReset (R402): the latches and the learned pair go; a start follows at the next on value. -/
def fanResetEff (f : Fin 8) (s : State) : State :=
  let latched := fanBit s f 3 || fanBit s f 4 || fanBit s f 5
  let s := [3, 4, 5, 6].foldl (fun s b => setFanBit s f b false) s
  let s := s.puts [(Ob.fanFaultCause f, 0), (Ob.fanLearnedVoltage f, 0), (Ob.fanLearnedCurrent f, 0)]
  let s := setFan s f { s.fans[f] with learnAt := 0, overRuns := 0, retryAt := 0 }
  if latched then fanRaise (setFan s f { s.fans[f] with wasOn := false }) f 7 else s

/-- A figure in 2⁻³² of its unit, for the sums of R403 and R404. -/
def fixed32 (w : Nat) : Nat := (FX.scale (FX.ofBits32 w) 32).roundAway.toNat
def meanOf (sum n : Nat) : FX := FX.scale (FX.div (FX.ofNat sum) (FX.ofNat n)) (-32)

def learnDue (s : State) (f : Fin 8) : Bool :=
  runsProven s f && s.fans[f].learnAt != 0 && s.fans[f].learnCount != 0 && decide (s.fans[f].learnAt + 10000000 ≤ s.osc)

/-- Ten seconds of running end (R403): the pair is learned if AppliedVoltage stayed within 0.5 V. -/
def learnEnd (s : State) (f : Fin 8) : State :=
  let x := s.fans[f]
  let s := setFan s f { x with learnAt := 0 }
  if FX.le (FX.sub (FX.ofBits32 x.learnMax) (FX.ofBits32 x.learnMin)) (FX.ratio 1 2) then
    setFanBit ((s.putF (Ob.fanLearnedVoltage f) (meanOf x.learnSumV x.learnCount)).putF (Ob.fanLearnedCurrent f)
      (meanOf x.learnSumI x.learnCount)) f 6 true
  else s

def tachLossDue (s : State) (f : Fin 8) : Bool :=
  runsProven s f && s.fans[f].runSince != 0 && decide (max s.fans[f].lastEdge s.fans[f].runSince + 1000000 ≤ s.osc)

/-- A tachometer loss is to be judged (R404): V_L is applied at once. -/
def tachLost (s : State) (f : Fin 8) : State :=
  let s := setFanBit (s.put (Ob.fanSpeed f) 0) f 8 true
  fanApply (setFan s f { s.fans[f] with lossAt := s.osc, curSum := 0, curCount := 0, learnAt := 0 }) f

def judgeDue (s : State) (f : Fin 8) : Bool := hasTach s f && fanBit s f 8 && decide (s.fans[f].lossAt + 500000 ≤ s.osc)

/-- NOTACH takes a new value, with its event (R405, R406). -/
def fanNotach (s : State) (f : Fin 8) (v : Bool) : State :=
  if fanBit s f 2 == v then s else fanRaise (setFanBit s f 2 v) f (if v then 5 else 6)

/-- A tachometer fault (R404): in ControlMode 2 it is NOTACH at once (R405). -/
def tachFails (s : State) (f : Fin 8) : State :=
  let s := fanRaise (fanApply (setFanBit s f 5 true) f) f 4
  if s.ob (Ob.fanControlMode f) = 2 then fanNotach s f true else s

/-- The decision of R404: a tachometer fault within the learned band, a stall outside it. -/
def tachJudge (s : State) (f : Fin 8) : State :=
  let x := s.fans[f]
  let mean := if x.curCount = 0 then s.f (Ob.fanFanCurrent f) else meanOf x.curSum x.curCount
  let il := s.f (Ob.fanLearnedCurrent f)
  let w := s.f (Ob.fanBandWidth f)
  let inBand := fanBit s f 6 && FX.ge mean (FX.mul il (FX.sub FX.one w)) && FX.le mean (FX.mul il (FX.add FX.one w))
  let s := setFanBit s f 8 false
  if inBand then tachFails s f else fanStalls s f

/-- The commanded value in force: SafeValue or the held value in row 6, else the frame's (R400). -/
def fanTarget (s : State) (f : Fin 8) : Nat :=
  if (fanDecide s f).1 = 6 then (if s.ob (Ob.fanSafeMode f) = 1 then s.fans[f].preSilence else s.ob (Ob.fanSafeValue f))
  else s.fans[f].value

/-- One step of the speed regulation, in binary32 (R399). -/
def regulate (s : State) (f : Fin 8) : State :=
  let x := s.fans[f]
  let r := FX.to32
  let e := r (FX.sub (FX.ofBits32 (fanTarget s f)) (s.f (Ob.fanSpeed f)))
  let i := r (FX.mul (r (FX.mul (s.f (Ob.fanSpeedKi f)) e)) (r (FX.ratio 1 100)))
  let p := r (FX.mul (s.f (Ob.fanSpeedKp f)) (r (FX.sub e (FX.ofBits32 x.ePrev))))
  let u := r (FX.add (r (FX.add (FX.ofBits32 x.u) i)) p)
  setFan s f { x with u := (FX.clamp u (s.f (Ob.fanMinVoltage f)) (fanTop s f)).toBits32, ePrev := e.toBits32 }

def regulates (s : State) (f : Fin 8) : Bool :=
  s.ob (Ob.fanControlMode f) == 2 && s.fans[f].regOn && isOn (fanTarget s f) && [6, 8].contains (fanDecide s f).1

/-- The lag of R405: speed below 0.9 of the target with the voltage at its upper limit. It supervises the speed, so it needs a tachometer
(R398; log entry 111). -/
def lagging (s : State) (f : Fin 8) : Bool :=
  hasTach s f && regulates s f && FX.ge (s.f (Ob.fanAppliedVoltage f)) (fanTop s f) &&
  FX.lt (s.f (Ob.fanSpeed f)) (FX.mul (FX.ratio 9 10) (FX.ofBits32 (fanTarget s f)))

def lagDue (s : State) (f : Fin 8) : Bool :=
  hasTach s f && s.fans[f].lagSince != 0 && decide (s.fans[f].lagSince + 3000000 ≤ s.osc)

/-! ### A tick (R400, R401, R405) -/

/-- The row 8 value follows the latest valid frame; a change to on starts the fan, a change to off ends its start. With TachPulses 0 no
speed supervision runs, so a start or a judgement still on ends (R398). -/
def fanValueTick (s : State) (f : Fin 8) (d : Nat) : State :=
  let v := (s.link.rx.fn[f.val]?).getD 0
  let x := s.fans[f]
  let on := isOn v
  let held := suspends x.row
  let ready := s.flag (Ob.fanEnable f) && !fanBit s f 3
  let s := setFan s f { x with
    value := v
    startAt := if x.start != .none && held then x.startAt + d else x.startAt
    wasOn := on && (x.wasOn || ready) }
  let s := if hasTach s f then s else endSupervision s f
  if !on then (if x.start = .none then setFan s f { s.fans[f] with regOn := false } else endStart s f)
  else if !x.wasOn && ready && hasTach s f then beginStart s f
  else s

/-- Sums and timers of a running fan (R398, R402–R405), after its voltage is applied. -/
def fanRunTick (s : State) (f : Fin 8) (d : Nat) : State :=
  let s := measureSpeed s f
  let x := s.fans[f]
  let on := fanBit s f 0
  let run := runsProven s f
  let low := run && FX.lt (s.f (Ob.fanSpeed f)) (s.f (Ob.fanProveSpeed f))
  let cur := fixed32 (s.ob (Ob.fanFanCurrent f))
  let fresh := x.learnAt = 0
  let secs := (x.onMicros + (if on then d else 0)) / 1000000
  let s := if secs = 0 then s else s.put (Ob.fanRunTime f) (wrap 32 (s.ob (Ob.fanRunTime f) + secs))
  setFan s f { x with
    onMicros := (x.onMicros + (if on then d else 0)) % 1000000
    lowSince := if low then (if x.lowSince = 0 then s.osc else x.lowSince) else 0
    lagSince := if lagging s f then (if x.lagSince = 0 then s.osc else x.lagSince) else 0
    runSince := if run then (if x.runSince = 0 then s.osc else x.runSince) else 0
    curSum := if fanBit s f 8 then x.curSum + cur else x.curSum
    curCount := if fanBit s f 8 then x.curCount + 1 else x.curCount
    learnAt := if run then (if fresh then s.osc else x.learnAt) else 0
    learnMin := if fresh || FX.lt (FX.ofBits32 x.applied) (FX.ofBits32 x.learnMin) then x.applied else x.learnMin
    learnMax := if fresh || FX.gt (FX.ofBits32 x.applied) (FX.ofBits32 x.learnMax) then x.applied else x.learnMax
    learnSumV := (if fresh then 0 else x.learnSumV) + fixed32 x.applied
    learnSumI := (if fresh then 0 else x.learnSumI) + cur
    learnCount := (if fresh then 0 else x.learnCount) + 1 }

/-- Causes (a) and (b) of NOTACH at once, (c) once its 3 s have been declared. -/
def fanNotachTick (s : State) (f : Fin 8) : State :=
  let on := isOn s.fans[f].value
  let a := on && s.fans[f].row == 2
  let b := s.ob (Ob.fanControlMode f) == 2 && fanBit s f 5
  fanNotach s f (a || b || (fanBit s f 2 && lagDue s f))

/-- A channel whose Enable is written begins anew: no start, no judgement. -/
def fanClear (s : State) (f : Fin 8) : State :=
  let s := endSupervision s f
  setFan s f { s.fans[f] with wasOn := false }

end Sys2Proof.Machine
end

