-- ==== Sys2Proof/Machine/Thermal.lean ====
section
/-! DEFINITION. The thermal policy block (R407–R419) and the seasons that follow the throttle level (R429). -/
namespace Sys2Proof.Machine

/-! ### Season (R429) -/

/-- The season changes, with its event (R446). -/
def setSeason (s : State) (v : Nat) : State :=
  let old := s.ob Ob.opSeasonRead
  if old = v then s
  else raise ((s.put Ob.opSeasonRead v).put Ob.seasonSeasonEntryTime s.wc) 138 (v * 256 + old)

/-- Once BOOT has ended (R430): Summer at level 0, Autumn above, and the clock of level 4 (R412). -/
def seasonFollows (s : State) : State :=
  if s.phase = .run then
    let s := s.put Ob.thermAppCoreClock (if 4 ≤ s.ob Ob.thermThrottleLevel then 0x4E0F0D18 else 0x4E8F0D18)
    setSeason s (if s.ob Ob.thermThrottleLevel = 0 then 1 else 2)
  else s

/-! ### Throttle level (R412, R413) -/

def thermBit (s : State) (b : Nat) : Bool := s.stBit Ob.thermThermalStatus b
def setThermBit (s : State) (b : Nat) (v : Bool) : State := s.putBit Ob.thermThermalStatus b v

/-- The level changes: event 130, episodes, and the season. -/
def throttleTo (s : State) (v : Nat) : State :=
  let old := s.ob Ob.thermThrottleLevel
  if old = v then s
  else
    let s := { s.put Ob.thermThrottleLevel v with therm := { s.therm with levelAt := s.osc } }
    let s := if old = 0 ∧ v = 1 then s.inc Ob.thermThrottleEpisodes else s
    seasonFollows (raise s 130 v)

/-- One level up, to MaxLevel at most. -/
def levelUp (s : State) : State := throttleTo s (max (s.ob Ob.thermThrottleLevel) (min (s.ob Ob.thermThrottleLevel + 1) (s.ob Ob.thermMaxLevel)))

/-- REQUEST is withdrawn (R413). -/
def withdraw (s : State) : State :=
  if thermBit s 2 then raise (setThermBit (setThermBit s 2 false) 3 false) 129 2 else s

def thermState (s : State) : Nat := s.ob Ob.thermThermalState

/-- TMax in units of 0.1 °C as a 16-bit two's complement (R419). -/
def tenths (s : State) : Nat := ofSigned 16 (FX.mul (s.f Ob.thermTMax) (FX.ofNat 10)).roundAway

/-- A housekeeping round runs at this instant: the throttle timers are evaluated in it, after its thresholds (R407). -/
def inRound (s : State) : Bool := s.therm.roundAt == some s.osc

def graceDue (s : State) : Bool := inRound s && thermBit s 3 && decide (2 ≤ thermState s) && decide (s.therm.graceAt ≤ s.osc)

def graceEnd (s : State) : State := throttleTo (setThermBit s 3 false) 1

def levelDue (s : State) : Bool :=
  inRound s && s.ob Ob.thermThrottleLevel != 0 && !thermBit s 5 && decide (s.therm.levelAt + s.micros Ob.thermLevelInterval ≤ s.osc)

/-- A LevelInterval has passed since the last change (R413). -/
def levelMoves (s : State) : State :=
  if 2 ≤ thermState s then levelUp s
  else
    let s := throttleTo s (s.ob Ob.thermThrottleLevel - 1)
    if s.ob Ob.thermThrottleLevel = 0 then withdraw s else s

def holdDue (s : State) : Bool := inRound s && thermBit s 5 && decide (s.therm.holdAt + 60000000 ≤ s.osc)

/-- The sensor is still failed 60 s after the hold (R414). -/
def holdEnd (s : State) : State := levelUp (setThermBit s 5 false)

/-! ### Sensors (R409) -/

def sensorFailed (s : State) (i : Nat) : Bool := s.ob (Ob.tsStateSensorState i) == 1

/-- The sensors of a die: 0 the core die, 1 the field die (R407). -/
def dieOf (i : Nat) : Nat := if i < 12 then 0 else 1
def sensorsOn (d : Nat) : List Nat := (List.range 16).filter (fun i => dieOf i == d)

/-- The median of figures; of an even count the mean of the two in the middle. -/
def median (l : List FX) : Option FX :=
  let l := sortBy FX.le l
  let n := l.length
  if n = 0 then none
  else if n % 2 = 1 then l[n / 2]?
  else match l[n / 2 - 1]?, l[n / 2]? with
    | some a, some b => some (FX.div (FX.add a b) (FX.ofNat 2))
    | _, _ => none

def readOf (reads : List TsRead) (i : Nat) : TsRead := (reads[i]?).getD ⟨0, false⟩

/-- Whether a reading is implausible. -/
def implausible (s : State) (reads : List TsRead) (i : Nat) : Bool :=
  let r := readOf reads i
  let x := FX.ofBits32 r.celsius.toNat
  let others := ((sensorsOn (dieOf i)).filter (fun j => j != i && !sensorFailed s j)).map
    (fun j => FX.ofBits32 (readOf reads j).celsius.toNat)
  r.stuck || !x.isFinite || FX.lt x (FX.ofInt (-55)) || FX.gt x (FX.ofNat 150) ||
  (match median others with
   | some m => FX.gt (FX.abs (FX.sub x m)) (FX.ofNat 20)
   | none => false)

def tsOf (s : State) (i : Nat) : TsSt := (s.therm.ts[i]?).getD ⟨0, 0⟩

/-- One sensor's counts after a reading: it fails after two implausible readings, recovers after ten plausible ones. -/
def validate (bads : List Bool) (s : State) (i : Nat) : State :=
  let t := tsOf s i
  let bad := (bads[i]?).getD false
  let t' : TsSt := if bad then ⟨min 2 (t.bad + 1), 0⟩ else ⟨0, min 10 (t.good + 1)⟩
  let s := { s with therm := { s.therm with ts := s.therm.ts.set i t' } }
  if !sensorFailed s i && decide (2 ≤ t'.bad) then
    let s := raise ((s.put (Ob.tsStateSensorState i) 1).inc Ob.thermSensorFaultCount) 131 i
    if s.ob Ob.thermThrottleLevel != 0 then
      { (setThermBit s 5 true) with therm := { s.therm with holdAt := s.osc, holdSensor := i } }
    else s
  else if sensorFailed s i && decide (10 ≤ t'.good) then
    let s := raise (s.put (Ob.tsStateSensorState i) 0) 132 i
    if thermBit s 5 && s.therm.holdSensor = i then setThermBit s 5 false else s
  else s

def hottest (l : List FX) : Option FX :=
  match l with
  | [] => none
  | x :: rest => some (rest.foldl FX.fmax x)

/-- Substitution on one die: readings of failed sensors replaced by the hottest valid sensor's, or by the die's last valid maximum, to which
no implausible reading counts (log entry 18). -/
def substitute (bads : List Bool) (reads : List TsRead) (s : State) (d : Nat) : State :=
  let raw (i : Nat) : FX := FX.ofBits32 (readOf reads i).celsius.toNat
  let top := hottest (((sensorsOn d).filter (fun i => !sensorFailed s i && !((bads[i]?).getD false))).map raw)
  let s := match top with
    | some x => { s with therm := if d = 0 then { s.therm with lastMaxA := x.toBits32 } else { s.therm with lastMaxB := x.toBits32 } }
    | none => s
  let last := FX.ofBits32 (if d = 0 then s.therm.lastMaxA else s.therm.lastMaxB)
  let sub := FX.add ((hottest (((sensorsOn d).filter (fun i => !sensorFailed s i)).map raw)).getD last) (FX.ofNat 8)
  (sensorsOn d).foldl (fun s i =>
    if sensorFailed s i then s.putF (Ob.tsReadSensorReading i) sub
    else s.put (Ob.tsReadSensorReading i) (readOf reads i).celsius.toNat) s

def dieDead (s : State) (d : Nat) : Bool := (sensorsOn d).all (fun i => sensorFailed s i)

/-- T_max and the sensor that shows it, the lowest among equals. -/
def takeMax (s : State) : State :=
  let best := (List.range 16).foldl (fun b i =>
    if FX.gt (s.f (Ob.tsReadSensorReading i)) (s.f (Ob.tsReadSensorReading b)) then i else b) 0
  (s.put Ob.thermTMax (s.ob (Ob.tsReadSensorReading best))).put Ob.thermTMaxSensor best

/-- A reading of all sensors: validated, substituted, T_max formed (R407, R409). -/
def takeReadings (s : State) (reads : List TsRead) : State :=
  let s := (List.range 16).foldl (fun s i => s.put (Ob.tsRawSensorRaw i) (readOf reads i).celsius.toNat) s
  let bads := (List.range 16).map (implausible s reads)
  let s := (List.range 16).foldl (validate bads) s
  let s := substitute bads reads (substitute bads reads s 0) 1
  let dead := dieDead s 0 || dieDead s 1
  let was := thermBit s 1
  let s := setThermBit (setThermBit s 0 ((List.range 16).any (sensorFailed s))) 1 dead
  let s := if dead && !was then { s with therm := { s.therm with dieFailAt := s.osc } } else s
  takeMax s

/-! ### Thresholds (R410, R411) -/

def thresholds : List Nat := [95, 105, 118]

/-- The thresholds follow a reading of T_max. -/
def judgeThresholds (s : State) : State :=
  let x := s.f Ob.thermTMax
  let t := s.therm
  let ks := [0, 1, 2]
  let th (k : Nat) : FX := FX.ofNat ((thresholds[k]?).getD 0)
  let get (l : List Nat) (k : Nat) : Nat := (l[k]?).getD 0
  let above := ks.map (fun k => if FX.gt x (th k) then min 3 (get t.above k + 1) else 0)
  let below := ks.map (fun k => if FX.le x (FX.sub (th k) (FX.ofNat 4)) then min 3 (get t.below k + 1) else 0)
  let asserted := ks.map (fun k =>
    if (t.asserted[k]?).getD false then !decide (3 ≤ get below k) else decide (3 ≤ get above k))
  { s with therm := { t with above, below, asserted } }

/-- The highest asserted threshold's state. -/
def target (s : State) : Nat :=
  let a (k : Nat) : Bool := (s.therm.asserted[k]?).getD false
  if a 2 then 3 else if a 1 then 2 else if a 0 then 1 else 0

/-- Entry to ThermalState 2 from below (R413). -/
def enterThrottle (s : State) : State :=
  if s.ob Ob.thermThrottleLevel != 0 then s
  else
    let s := setThermBit (setThermBit s 2 true) 3 true
    let s := { s with therm := { s.therm with graceAt := s.osc + s.micros Ob.thermGraceTime } }
    emergency (raise s 129 1) 129 1

/-- Entry to ThermalState 3 (R411). -/
def enterShutdown (s : State) : State :=
  let s := throttleTo (setThermBit s 3 false) (s.ob Ob.thermMaxLevel)
  let s := emergency (raise s 133 (tenths s)) 133 (tenths s)
  tripCause { s with therm := { s.therm with hot := true } } 5 2

/-- ThermalState moves one step toward the highest asserted threshold, once a round. -/
def moveState (s : State) : State :=
  let st := thermState s
  let goal := target s
  if s.therm.movedRound || goal = st then s
  else
    let new := if st < goal then st + 1 else st - 1
    let s := { (s.put Ob.thermThermalState new) with therm := { s.therm with movedRound := true, hot := s.therm.hot && decide (1 < new) } }
    let s := raise s 128 (new * 2 ^ 16 + tenths s)
    if st < new then (if new = 2 then enterThrottle s else if new = 3 then enterShutdown s else s)
    else if new = 1 && thermBit s 3 then withdraw s else s

/-- FASTSAMPLE (R408): H5Mode is 1 and T_max lies within 6 °C of a threshold. -/
def fastRuns (s : State) : Bool :=
  s.flag Ob.thermH5Mode && thresholds.any (fun t => FX.le (FX.abs (FX.sub (s.f Ob.thermTMax) (FX.ofNat t))) (FX.ofNat 6))

/-- ThermalStatus as a read shows it (R417). -/
def thermalStatusRead (s : State) : Nat := setBit (s.ob Ob.thermThermalStatus) 4 (fastRuns s)

/-! ### The round (R407) -/

/-- Channels of type 9 bound with CLASS 0x09 (R418). -/
def thermChannels (s : State) : State :=
  ((chansOfType s 9).filter (fun n => bindClass (chanBind s n) == 9)).foldl (fun s n =>
    let i := bindInst (chanBind s n)
    if i < 16 then produce s n (s.f (Ob.tsReadSensorReading i)) (1 + 64 * ofBool (sensorFailed s i)) s.wc
    else produce s n (s.f Ob.thermTMax) (1 + 64 * ofBool (thermBit s 0)) s.wc) s

/-- The base plate leaves the range of its grade (R520): condition E lapses (R489). -/
def basePlate (s : State) (celsius : Nat) : State :=
  let x := FX.ofBits32 celsius
  let e := s.factory.grade = 1
  rangeE s .basePlate (outside x (FX.ofInt (if e then -40 else -25)) (FX.ofNat (if e then 70 else 60)))

/-- The base plate beyond its absolute maximum (R519). -/
def baseBeyond (celsius : Nat) : Bool := outside (FX.ofBits32 celsius) (FX.ofInt (-45)) (FX.ofNat 85)

/-- The throttle timers of a round that no command of their own reports: MaxLevel acts, and a dead die raises the level every 60 s (R414, R417). -/
def roundTimers (s : State) : State :=
  let m := s.ob Ob.thermMaxLevel
  let s := if m < s.ob Ob.thermThrottleLevel then throttleTo s m else s
  if thermBit s 1 && decide (s.therm.dieFailAt + 60000000 ≤ s.osc) then
    levelUp { s with therm := { s.therm with dieFailAt := s.osc } }
  else s

/-- A housekeeping round. -/
def housekeeping (s : State) (reads : List TsRead) (base : Nat) : State :=
  let s := { s with therm := { s.therm with movedRound := false, roundAt := some s.osc } }
  let s := basePlate (takeReadings s reads) base
  let s := moveState (judgeThresholds s)
  let die := ([12, 13, 14, 15].filter (fun i => !sensorFailed s i)).map (fun i => s.ob (Ob.tsReadSensorReading i))
  thermChannels (roundTimers { s with therm := { s.therm with roundDie := die } })

/-- A fast reading (R408): it counts for validation and thresholds. -/
def fastSample (s : State) (reads : List TsRead) : State :=
  moveState (judgeThresholds (takeReadings s reads))

/-- The threshold of the shutdown comparator by strap, °C (R415, R513). -/
def strapCelsius (s : State) : FX := FX.ofNat (115 + 5 * s.straps.tsel)

/-- StrapThreshold (R417). -/
def strapThreshold (s : State) : Nat := (strapCelsius s).toBits32

end Sys2Proof.Machine
end

