-- ==== Sys2Proof/Machine/Reset.lean ====
section
/-! DEFINITION. Resets (R436–R438, R442): what each leaves, what is written before it, and the power that goes and returns
(R416, R423, R439). -/
namespace Sys2Proof.Machine

/-- Identity, straps and field-die status that every reset finds (R71, R442, R445, R454, R511), with the counts held in NAND. A reset on the
hold-up store leaves Source and the power-fail warning as they are, until a supply is selected again (R421, R424; DEDUCED, log entry 27). -/
def resetObjs (s : State) (straps : Straps) (cause : Nat) : List (Nat × Nat) :=
  s.factory.trims ++ s.nand.counters ++
  [(Ob.identFittedCellPorts, s.factory.ports), (Ob.identTemperatureGrade, s.factory.grade),
   (Ob.groupGroupStatus 0, 8), (Ob.groupGroupStatus 1, 8), (Ob.groupGroupStatus 2, 8), (Ob.groupGroupStatus 3, 8),
   (Ob.thermStrapThreshold, strapThreshold { s with straps := straps }), (Ob.enableKeyStrap, ofBool straps.key),
   (Ob.resetStrapStatus, straps.indet), (Ob.resetLastResetCause, cause), (Ob.supplySource, s.ob Ob.supplySource),
   (Ob.supplySupplyStatus, setBit (setBit (s.ob Ob.supplySupplyStatus) 3 (s.ob Ob.supplySource == 2)) 6 false)]

def resetStrs (s : State) : List (Nat × List Byte) :=
  [(Ob.identVendorName, [80, 108, 97, 110, 107, 111, 98, 114, 121]), (Ob.identOrderingCode, s.factory.orderingCode),
   (Ob.identSerialNumber, s.factory.serial), (Ob.identHardwareRevision, s.factory.revision)]

/-- The output lines of a module that ran stand until the next tick boundary (R423, R437). -/
def keepLines (s b : State) : State :=
  if s.phase = .run then
    { b with
      linesHeld := true
      pins := s.pins.map (fun p => { State.restPin with drive := p.drive })
      ao := s.ao.map (fun a => { State.restAo with applied := a.applied })
      fans := s.fans.map (fun x => { State.restFan with applied := x.applied }) }
  else b

/-- A pulse of VM or VB goes on through a reset, which starts the oscillator's time anew (R519). -/
def pulseShift (osc : Nat) (p : PulseSt) : PulseSt := ⟨p.since.map (fun t => t - osc), p.last.map (fun t => t - osc)⟩

/-- A reset: a commit in progress leaves what it wrote (R452); everything else but NAND, factory area, straps and supplies begins
anew. `evs` are the events the next end of BOOT raises, behind the change to Spring where the module knows the season it left (R429). What
was handed to the network has left. -/
def resetNow (s : State) (cause : Nat) (straps : Straps) (evs : List (Nat × Nat)) : State :=
  let s := match s.sec.commit with
    | some c => if headerWritten s c then putSlot s c.target c.copy else s
    | none => s
  let b := State.blank s.nand s.factory straps
  let b := (resetObjs s straps cause).foldl (fun t (p : Nat × Nat) => t.put p.1 p.2) b
  let b := b.inc (if cause = 0 then Ob.resetPowerOnCount else Ob.resetResetCount)
  let old := s.ob Ob.opSeasonRead
  { keepLines s b with
    strs := resetStrs s
    supply := { s.supply with upCause := 0, testAt := 0, outE := [], maskTo := none, pulses := s.supply.pulses.map (pulseShift s.osc) }
    boot := { State.restBoot with atEnd := (if 2 ≤ cause ∧ old ≠ 0 then [(138, old)] else []) ++ evs }
    net := { State.restNet with ethOut := s.net.ethOut }
    fresh := s.fresh, pending := s.pending }

/-- A checkpoint by the procedure of R153, whole. -/
def ckptWhole (s : State) : State := ckptFinish (ckptStart s 2)

/-- A reset of causes 2, 4 and 5 (R438, R488): checkpoint and journal are written where `writes`; the counts are saved. -/
def restartNow (s : State) (cause : Nat) (writes : Bool) (evs : List (Nat × Nat)) : State :=
  let s := if writes then flushJournal (ckptWhole s) else s
  resetNow (saveCounters s) cause s.straps evs

/-- The reset that an answered command asked for follows. A recovery that ends well reports its image (R473). -/
def resetIfDue (s : State) : State :=
  match s.sec.resetDue with
  | none => s
  | some (cause, writes) =>
    restartNow s cause writes (if recoveryRuns s then [(223, imageVersion s false)] else [])

/-- At the power-fail warning, the journal and then the counters follow the checkpoint (R462, R493). -/
def powerFailWrite (s : State) : State := saveCounters (flushJournal s)

/-- The module stands without power; `upCause` is the reset cause its next start reports. The outputs of a module that ran go off at the
next tick boundary (R423). -/
def powerOff (s : State) (upCause : Nat) : State :=
  { s with phase := .off, supply := { s.supply with upCause }, linesHeld := s.phase == .run }

end Sys2Proof.Machine
end

