-- ==== Sys2Proof/Machine/Flags.lean ====
section
/-! DEFINITION. The lines and flags that follow the phase: outside the running module every output line stands off (R26, R375, R416,
R423, R442). Status words that follow other state stand beside what they follow (FieldDie, Bus, Supply). -/
namespace Sys2Proof.Machine

/-- Every output line off: pins undriven, no current, no fan voltage. -/
def outputsOff (s : State) : State :=
  { s with
    pins := s.pins.map (fun p => { p with drive := false })
    ao := s.ao.map (fun a => { a with applied := 0 })
    fans := s.fans.map (fun x => { x with applied := 0 }) }

/-- The output lines still stand as a reset, or the end of hold-up, found them: the tick boundary that switches them off is to come
(R423, R437). -/
def linesStand (s : State) : Bool :=
  match s.phase with
  | .boot _ | .off => s.linesHeld
  | _ => false

/-- What a phase imposes on the output lines. -/
def settle (s : State) : State := if s.phase = .run ∨ linesStand s = true then s else outputsOff s

/-- Whether the module runs. -/
def running (s : State) : Bool := s.phase == .run

/-- Whether the thermal policy runs: while the module runs, and in Spring once management firmware does (R407, R430, R440). -/
def policyRuns (s : State) : Bool :=
  match s.phase with
  | .run => true
  | .boot k => decide (4 ≤ k)
  | _ => false

/-- Whether module firmware runs on the application cores. -/
def firmwareRuns (s : State) : Bool := running s && !s.appDown

/-- Whether a periodic checkpoint begins now (R152): it is a tick boundary, its time has come, none is being written, and no power fails. -/
def checkpointDue (s : State) : Bool :=
  running s && decide (s.wc = s.tickWc) && decide (s.plant.ckptDue ≤ s.osc) && s.plant.ckptRun.isNone && !s.stBit Ob.supplySupplyStatus 3

/-- Whether a second has passed since the last quadrature error (R91). -/
def qerrOver (s : State) (k : Fin 8) : Bool :=
  s.stBit (Ob.gcStatus k) 2 && decide (s.gc[k].qerrAt + 1000000 ≤ s.osc)

/-- Whether RecoveryMode 1 asks for recovery now (R323). -/
def recoveryWanted (s : State) (n : Fin 4) : Bool :=
  s.stBit (Ob.busStatus n) 11 && s.ob (Ob.busRecoveryMode n) == 1 && !s.bus[n].recovReq &&
  decide (s.bus[n].busOffAt + s.micros (Ob.busRecoveryDelay n) ≤ s.osc)

end Sys2Proof.Machine
end

