-- ==== Sys2Proof/Machine/Dielectric.lean ====
section
/-! DEFINITION. Dielectric moisture measurement (R185–R205): cycles and slots, the calibration of a cell, the reading with its
faults, and the tagging of parcels. -/
namespace Sys2Proof.Machine

def setDiel (s : State) (g : DielSt → DielSt) : State := { s with diel := g s.diel }

def updCell (s : State) (c : Fin 4) (g : CellSt → CellSt) : State :=
  { s with diel := { s.diel with cells := s.diel.cells.set c (g s.diel.cells[c]) } }

/-- A cell port is fitted (R3). -/
def cellFitted (s : State) (c : Nat) : Bool := decide (c < s.ob Ob.identFittedCellPorts)

/-! ### Trim (R190, R191) -/

/-- A trim table at a die temperature, between its points at −40 + 11 j °C. -/
def trimAt (s : State) (table : Nat → Nat) (td : FX) : FX :=
  let x := FX.div (FX.add td (FX.ofNat 40)) (FX.ofNat 11)
  if FX.le x FX.zero then s.f (table 0)
  else if FX.ge x (FX.ofNat 15) then s.f (table 15)
  else
    let j := x.floor.toNat
    let a := s.f (table j)
    FX.add a (FX.mul (FX.sub (s.f (table (j + 1))) a) (FX.sub x (FX.ofNat j)))

/-- The sweep duty is halved: throttle level 3 and above (R189, R412). -/
def sweepHalved (s : State) : Bool := decide (3 ≤ s.ob Ob.thermThrottleLevel)

/-- WC µs between cycle starts. -/
def cyclePeriod (s : State) : Nat := if sweepHalved s then 400000 else 200000

/-- What the synthesiser is programmed for in a cycle (R186, R191): each frequency of the plan, set to the nearest 1 kHz, over
1 + e(Td) × 10⁻⁶ (log entry 80). -/
def synthPlan (s : State) (e : FX) : List FX :=
  (List.range (s.ob Ob.feFrequencyCount)).map (fun i =>
    let khz := (FX.div (s.f (Ob.freqFrequency i)) (FX.ofNat 1000)).roundAway
    FX.div (FX.mul (FX.ofInt khz) (FX.ofNat 1000)) (FX.add FX.one (FX.mul e (dec 1 6))))

/-- WC µs since the cycle began, without the steps of WC since: a step takes effect at the next cycle start (R189). -/
def cycleTime (s : State) : Nat := ((s.wc : Int) - s.diel.stepped - s.diel.cycleAt).toNat

/-- A cycle starts (R187, R189, R191): Td is the mean of what the field-die sensors that were valid in the last round read in it (log entry
102). -/
def cycleStart (s : State) : State :=
  let ts := s.therm.roundDie
  let stale := ts.isEmpty
  let td := if stale then s.f Ob.feDieTemp
    else FX.div (ts.foldl (fun t w => FX.add t (FX.ofBits32 w)) FX.zero) (FX.ofNat ts.length)
  let e := trimAt s Ob.freqTrimFreqTrim td
  let s := (s.putF Ob.feDieTemp td).putF Ob.feFreqCorrection e
  let s := (s.putBit Ob.feStatus 2 stale).putBit Ob.feStatus 1 (sweepHalved s)
  let s := s.put Ob.feCyclePeriod (if sweepHalved s then 0x3ECCCCCD else 0x3E4CCCCD)
  setDiel s (fun d => { d with
    cycleOn := true, cycleAt := s.wc, stepped := 0, cycleLen := cyclePeriod s, served := [], synth := synthPlan s e, gain := FX.add FX.one (trimAt s Ob.gainTrimGainTrim td) })

/-! ### Calibration data (R192) -/

/-- PLANCRC of the working plan: FrequencyCount and the 16 frequency words. -/
def planCrc (s : State) : Nat :=
  crc32 (bytesLE 1 (s.ob Ob.feFrequencyCount) ++ (List.range 16).flatMap (fun i => bytesLE 4 (s.ob (Ob.freqFrequency i))))

/-- CHECK of a CalData is right. -/
def calCheckOk (d : List Byte) : Bool := d.length == 268 && crc32 (d.take 264) == leAt d 264 4

/-- A cell's CalData is valid. -/
def calValid (s : State) (c : Nat) : Bool :=
  let d := s.bytesOf (Ob.calDataCalData c)
  calCheckOk d && leAt d 260 4 == planCrc s

/-- A word of CalData as a value. -/
def calF (s : State) (c k : Nat) : FX := FX.ofBits32 (leAt (s.bytesOf (Ob.calDataCalData c)) (4 * k) 4)

/-- CalStatus as it stands with no pending record. -/
def calRest (s : State) (c : Nat) : Nat := if calValid s c then 3 else 0

/-- CalStatus (R204): none and valid follow CalData, whatever loads it or changes the plan. -/
def calStatus (s : State) (c : Nat) : Nat :=
  let st := s.ob (Ob.cellCalStatus c)
  if st = 0 ∨ st = 3 then calRest s c else st

/-! ### Tagging (R188, R200) -/

/-- The kind-3 station of a cell, on whatever path: path and station. -/
def cellStation (s : State) (c : Nat) : Option (Nat × Nat) :=
  ((kind3Stations s (List.range 16)).find? (fun t =>
    let n := stationChan (s.ob (Ob.stnSrcStationSource t.1 t.2.1))
    t.2.2 == c && chanType s n == 6 && chanBind s n == 0x06 * 2 ^ 24 + c * 2 ^ 16)).map (fun t => (t.1, t.2.1))

/-- The parcel that passes the cell now, if one meets R200, with its TEMP and PROFILE of this instant for R195; GrainTempChannel is read as the
reading is published (DESIGN CHOICE, log entry 107). -/
def tagNow (s : State) (c : Nat) : Option (Nat × Int × Nat) :=
  match cellStation s c with
  | none => none
  | some (p, i) =>
    let off := s.ob (Ob.stnOffStationOffset p i)
    let dist (r : Parcel) : Nat := ((r.pos : Int) - off).natAbs
    match (onPath s p).foldl (fun (b : Option Parcel) x =>
        match b with
        | none => some x.2
        | some y => if dist x.2 < dist y then some x.2 else b) none with
    | none => none
    | some r =>
      if FX.le (FX.ofNat (dist r)) (FX.div (FX.ratio r.volume 100) (FX.mul (FX.ofNat 2) (pathLpc s p))) then
        some (r.pid, r.temp, r.profile) else none

/-- WC of a reading, on the cycle's WC: the sweep midpoint, rounded down to a tick boundary. -/
def readingTime (r : SlotRun) : Nat := (r.wc + r.n * 1250) / 10 * 10

/-- At a tick boundary, the cells whose sweep midpoint has come take their parcel. -/
def dielTag (s : State) : State :=
  (List.finRange 4).foldl (fun s (c : Fin 4) =>
    match s.diel.cells[c].slot with
    | some r =>
      if !r.tagged && decide ((readingTime r : Int) ≤ s.tickWc - s.diel.stepped) then
        updCell s c (fun x => { x with slot := some { r with tagged := true, tag := tagNow s c.val } })
      else s
    | none => s) s

/-! ### The DSP engine (R196, R197) -/

/-- c = 299,792,458 m/s. -/
def lightSpeed : FX := FX.ofNat 299792458

/-- 20 / ln 10. -/
def nepers : FX := FX.div (FX.ofNat 20) FX.ln10

def cAbs (re im : FX) : FX := FX.sqrt (FX.add (FX.mul re re) (FX.mul im im))

/-- The quotient of two complex figures. -/
def cDiv (ar ai br bi : FX) : FX × FX :=
  let d := FX.add (FX.mul br br) (FX.mul bi bi)
  (FX.div (FX.add (FX.mul ar br) (FX.mul ai bi)) d, FX.div (FX.sub (FX.mul ai br) (FX.mul ar bi)) d)

/-- −20 × log10 of a magnitude in dB, as the loss line of R196 forms it. -/
def lossDb (a : FX) : FX := FX.fmax FX.zero (FX.mul (FX.mul (FX.neg nepers) (FX.log10 a)) FX.ln10)

/-- One frequency after the transmission quotient: unwrapped phase, loss in dB, and whether the check of R196 failed. -/
structure Phase1 where
  dphi : FX
  da : FX
  bad : Bool
  deriving DecidableEq, Repr

/-- Unwraps the phases of a sweep, first frequency on. `prev` is the last frequency and its phase. -/
def unwrap : Option (FX × FX) → List (FX × FX × FX) → List Phase1
  | _, [] => []
  | prev, (f, tr, ti) :: rest =>
    let zero := tr.isZero && ti.isZero
    let phi0 := if zero then Config.argOfZero rest.length else FX.neg (FX.atan2 ti tr)
    let r : FX × Bool :=
      match prev with
      | none => (phi0, false)
      | some (f0, p0) =>
        let pred := FX.div (FX.mul p0 f) f0
        let turn := FX.mul (FX.ofNat 2) FX.pi
        let phi := FX.add phi0 (FX.mul turn (FX.ofInt (FX.div (FX.sub pred phi0) turn).roundAway))
        (phi, FX.gt (FX.abs (FX.sub phi pred)) (FX.div FX.pi (FX.ofNat 2)))
    ⟨r.1, lossDb (cAbs tr ti), r.2⟩ :: unwrap (some (f, r.1)) rest

/-- The corrected S21 and S11 of a sweep at its first `n` frequencies. -/
def corrected (s : State) (n : Nat) (sweep : List SweepPoint) : List (FX × FX × FX × FX) :=
  (List.range n).map (fun i =>
    let x := sweep.getD i ⟨0, 0, 0, 0⟩
    let g (w : Word) : FX := FX.div (FX.ofBits32 w.toNat) s.diel.gain
    (g x.s21re, g x.s21im, g x.s11re, g x.s11im))

/-- The quotients t of a sweep against empty-cell figures, with their frequencies. -/
def quotients (s : State) (n : Nat) (emp : Nat → FX) (m : List (FX × FX × FX × FX)) : List (FX × FX × FX) :=
  (List.range n).map (fun i =>
    let x := m.getD i (FX.zero, FX.zero, FX.zero, FX.zero)
    let q := cDiv x.1 x.2.1 (emp (4 * i)) (emp (4 * i + 1))
    (s.f (Ob.freqFrequency i), q.1, q.2))

/-- ε′ and ε″ of one frequency. -/
def permittivity (f l : FX) (p : Phase1) : FX × FX :=
  let b := FX.add FX.one (FX.div (FX.mul lightSpeed p.dphi) (FX.mul (FX.mul (FX.mul (FX.ofNat 2) FX.pi) f) l))
  let er := FX.mul b b
  (er, FX.div (FX.mul (FX.mul lightSpeed p.da) (FX.sqrt er)) (FX.mul (FX.mul (FX.mul nepers FX.pi) f) l))

def meanFX (l : List FX) : FX := FX.div (l.foldl FX.add FX.zero) (FX.ofNat l.length)

/-! ### A reading (R195–R202) -/

/-- What the DSP engine found with a valid calibration. -/
structure DspOut where
  phases : List Phase1
  eps : List (FX × FX)
  sel : List Nat
  compute : Bool
  epsR : FX
  epsI : FX
  psi : FX
  m : FX
  deriving DecidableEq, Repr

/-- The reading of a sweep under a coefficient set and a grain temperature. -/
def dsp (s : State) (c set n : Nat) (tg : FX) (meas : List (FX × FX × FX × FX)) : DspOut :=
  let ph := unwrap none (quotients s n (calF s c) meas)
  let l := calF s c 64
  let eps := (List.range n).map (fun i => permittivity (s.f (Ob.freqFrequency i)) l (ph.getD i ⟨FX.zero, FX.zero, true⟩))
  let sel := (List.range n).filter (fun i => bit (s.ob (Ob.coefFreqMask set)) i)
  let a := s.f (Ob.coefPsiA set)
  let at_ (i : Nat) : FX × FX := eps.getD i (FX.zero, FX.zero)
  let bad := sel.isEmpty || sel.any (fun i => !FX.gt (FX.mul a (at_ i).1) (at_ i).2) ||
    (List.range (sel.getLastD 0 + 1)).any (fun i => ((ph[i]?).map (·.bad)).getD false)
  let psi := meanFX (sel.map (fun i =>
    let e := at_ i
    FX.sqrt (FX.div e.2 (FX.mul e.1 (FX.sub (FX.mul a e.1) e.2)))))
  let dt := FX.sub tg (s.f (Ob.coefTref set))
  let m := FX.add (FX.add (FX.add (s.f (Ob.coefC0 set)) (FX.mul (s.f (Ob.coefC1 set)) psi)) (FX.mul (s.f (Ob.coefC2 set)) dt))
    (FX.mul (FX.mul (s.f (Ob.coefC3 set)) psi) dt)
  { phases := ph, eps, sel, compute := bad, epsR := meanFX (sel.map (fun i => (at_ i).1)),
    epsI := meanFX (sel.map (fun i => (at_ i).2)), psi, m }

/-- |S11| in dB. -/
def reflDb (x : FX × FX × FX × FX) : FX := FX.mul (FX.ofNat 20) (FX.log10 (cAbs x.2.2.1 x.2.2.2))

/-- The Status bit of each persistent condition, with its cause code. -/
def persistent : List (Nat × Nat) := [(1, 1), (2, 2), (5, 3), (3, 5)]

/-- One persistent condition at a reading (R202): its runs and its bit. Answers the cause of the event it raises: 6 of a bit that clears. -/
def persistOne (c : Fin 4) (shown : List Bool) (acc : State × List Nat) (k : Nat) : State × List Nat :=
  let s := acc.1
  let x := s.diel.cells[c]
  let on := shown.getD k false
  let (b, cause) := persistent.getD k (0, 0)
  let up := if on then x.setRun.getD k 0 + 1 else 0
  let dn := if on then 0 else x.clrRun.getD k 0 + 1
  let s := updCell s c (fun x => { x with setRun := x.setRun.set k up, clrRun := x.clrRun.set k dn })
  let st := s.ob (Ob.cellStatus c.val)
  if on && !bit st b && decide (3 ≤ up) then (s.putBit (Ob.cellStatus c.val) b true, acc.2 ++ [cause])
  else if !on && bit st b && decide (3 ≤ dn) then (s.putBit (Ob.cellStatus c.val) b false, acc.2 ++ [6])
  else (s, acc.2)

/-- The persistent conditions of a reading (R202), and its events (R205): one for each bit that sets, and cause 6 once the last is
clear, all with the Status of the reading. -/
def persist (s : State) (c : Fin 4) (shown : List Bool) : State :=
  let r := (List.range 4).foldl (persistOne c shown) (s, [])
  let st := r.1.ob (Ob.cellStatus c.val)
  let none_ := !bit st 1 && !bit st 2 && !bit st 3 && !bit st 5
  let causes := r.2.filter (fun x => x != 6) ++ (if none_ && r.2.contains 6 then [6] else [])
  causes.foldl (fun s x => raise s (108 + c.val) (x + st % 256 * 256)) r.1

/-- The status of an invalid reading, at its time, on the cell's channels (R201): they keep their Value. -/
def cellChansInvalid (s : State) (c : Nat) (ts : Nat) : State :=
  let st := s.ob (Ob.cellStatus c)
  let v := 2 * ofBool (bit st 1 || bit st 2 || bit st 5) + 4 * ofBool (bit st 1)
  (List.range 5).foldl (fun s pt => (boundChans s 6 0x06 c pt).foldl (fun s n => feedStatus s n v ts) s) s

/-- Writes a valid reading to the parcel it was tagged to (R134, R200), or counts the tag as lost; so too while the parcel engines accept no
updates (R153, log entry 89). -/
def writeTag (s : State) (c : Fin 4) (r : SlotRun) (m : FX) : State :=
  match r.tag, cellStation s c.val with
  | some t, some (p, i) =>
    match (if ledgerStill s then none else s.plant.parcels.find? (fun e => e.2.pid == t.1)) with
    | some e =>
      let rec' := { e.2 with measmoist := dbField s m, meastime := wrap 48 (readingTime r / 1000), flags := setBit e.2.flags 12 true }
      publishStation ((putParcel s e.1 rec').tickFree.put (Ob.cellTaggedParcel c.val) t.1) p i m e.2.moist
    | none => s.inc (Ob.cellTagLostCount c.val)
  | some _, none => s.inc (Ob.cellTagLostCount c.val)
  | none, _ => s

/-- The figures of a reading on the objects of its cell: with a compute fault there is no ψ, and with an empty S no ε either. -/
def putFigures (s : State) (c n : Nat) (d : DspOut) : State :=
  let s := (List.range n).foldl (fun s i =>
    let e := d.eps.getD i (FX.zero, FX.zero)
    let p := d.phases.getD i ⟨FX.zero, FX.zero, false⟩
    ((s.putF (Ob.epsREpsRealF c i) e.1).putF (Ob.epsIEpsImagF c i) e.2).putF (Ob.lossFLossF c i) p.da) s
  let s := if d.sel.isEmpty then s else (s.putF (Ob.cellEpsReal c) d.epsR).putF (Ob.cellEpsImag c) d.epsI
  if d.compute then s else s.putF (Ob.cellPsi c) d.psi

/-- A reading is computed, checked and published. After a fault of the DSP engine (R480) nothing that the engine computed is used: the
reading has a compute fault, its figures stay as they were, and the conditions tested on them count as not shown. Without a valid CalData
there are no figures to test LOWSIGNAL and EMPTY on, and they count as not shown too (DESIGN CHOICE, log entry 80). A reading beside a
capture (kind not 0) is never valid (R193). Three more choices stand here (log entry 107): the conditions that R198 asks for are those of R202,
so NOTAG does not make a reading invalid; a cell that no kind-3 station names sets no NOTAG and counts no NoParcelCount; and a valid reading
leaves neither SIGFAULT nor WIREBREAK on the channels, though a bit of R202 may still stand. -/
def publishReading (s : State) (c : Fin 4) (r : SlotRun) (meas : List (FX × FX × FX × FX)) (front engine : Bool) : State :=
  let k := c.val
  let r := if r.tagged then r else { r with tagged := true, tag := tagNow s k }
  let cal := calValid s k
  let tg : FX := match chanVal s (Ob.cellGrainTempChannel k), r.tag with
    | some v, _ => v
    | none, some t => FX.div (FX.ofInt t.2.1) (FX.ofNat 128)
    | none, none => s.f (Ob.cellFallbackGrainTemp k)
  let set := if s.ob (Ob.cellCoeffSelect k) < 32 then s.ob (Ob.cellCoeffSelect k)
    else (r.tag.map (fun t => t.2.2)).getD (s.ob (Ob.cellDefaultProfile k))
  let d := dsp s k set r.n tg meas
  let refl := meas.map reflDb
  let cable := !engine && decide (r.n ≤ 2 * (refl.filter (fun x => FX.ge x minusOne)).length)
  let low := cal && !engine && d.sel.any (fun i => FX.gt ((d.phases.getD i ⟨FX.zero, FX.zero, false⟩).da) (FX.ofNat 50))
  let empty := cal && !engine && !d.sel.isEmpty && FX.lt (FX.to32 d.epsR) (s.f (Ob.cellEmptyThreshold k))
  let comp := engine || d.sel.isEmpty || (cal && d.compute)
  let s := if engine then s
    else (List.range r.n).foldl (fun s i => s.putF (Ob.reflFReflectionF k i) (refl.getD i FX.zero)) s
  let s := if cal && !engine then putFigures s k r.n d else s
  let s := (s.putF (Ob.cellGrainTempUsed k) tg).put (Ob.cellLastReadingTime k) (readingTime r)
  let st := s.ob (Ob.cellStatus k)
  let tagged := (cellStation s k).isSome
  let notag := tagged && r.tag.isNone
  let valid := cal && !comp && !cable && !low && !front && !empty && r.kind == 0
  let st := setBit (setBit (setBit (setBit st 4 comp) 8 (!cal)) 6 notag) 0 valid
  let out := FX.lt d.m (FX.ofNat 8) || FX.gt d.m (FX.ofNat 35)
  let st := if valid then setBit st 7 out else st
  let s := s.put (Ob.cellStatus k) st
  let s := if notag then s.inc (Ob.cellNoParcelCount k) else s
  let s := updCell s c (fun x => { x with slot := none })
  let s := persist s c [cable, low, front, empty]
  if valid then
    let s := s.putF (Ob.cellMoisture k) d.m
    let vals : List FX := [d.m, d.epsR, d.epsI, d.psi, tg]
    let s := (List.range 5).foldl (fun s pt =>
      (boundChans s 6 0x06 k pt).foldl (fun s n => produce s n (vals.getD pt FX.zero) 1 (readingTime r)) s) s
    writeTag s c r d.m
  else cellChansInvalid s k (readingTime r)

/-- A sweep of a capture: its figures are summed, and the conditions of R202 are evaluated as at every reading, but the reading is not
valid (R193). -/
def captureSweep (s : State) (c : Fin 4) (r : SlotRun) (meas : List (FX × FX × FX × FX)) (front engine : Bool) : State :=
  let s := updCell s c (fun x =>
    if x.capture = r.kind ∧ x.sweeps < 16 then
      { x with
        sweeps := x.sweeps + 1
        sums := (List.range (4 * r.n)).map (fun i =>
          let m := meas.getD (i / 4) (FX.zero, FX.zero, FX.zero, FX.zero)
          FX.add (x.sums.getD i FX.zero)
            (match i % 4 with | 0 => m.1 | 1 => m.2.1 | 2 => m.2.2.1 | _ => m.2.2.2)) }
    else x)
  publishReading s c r meas front engine

/-! ### Captures (R193, R194) -/

/-- The solution of R194 from the averaged sweep: L_eff, or none where the capture fails. -/
def solveLength (s : State) (c n : Nat) (emp : List Nat) (avg : List FX) : Option FX :=
  let nominal := s.f (Ob.cellCellLength c)
  let m := (List.range n).map (fun i => (avg.getD (4 * i) FX.zero, avg.getD (4 * i + 1) FX.zero, FX.zero, FX.zero))
  let ph := unwrap none (quotients s n (fun k => FX.ofBits32 (emp.getD k 0)) m)
  let root := FX.sub (FX.sqrt (s.f (Ob.cellRefPermittivity c))) FX.one
  let ls := (List.range n).map (fun i =>
    FX.div (FX.mul lightSpeed ((ph.getD i ⟨FX.zero, FX.zero, true⟩).dphi))
      (FX.mul (FX.mul (FX.mul (FX.ofNat 2) FX.pi) (s.f (Ob.freqFrequency i))) root))
  let l := meanFX ls
  let ok := FX.ge l (FX.mul (dec 8 1) nominal) && FX.le l (FX.mul (dec 12 1) nominal) &&
    ls.all (fun x => FX.le (FX.abs (FX.sub x l)) (FX.mul (dec 2 2) l)) && !ph.any (·.bad)
  if ok then some l else none

/-- A capture of 16 sweeps completes. The words of frequencies at or above FrequencyCount are 0 (DESIGN CHOICE, log entry 80). -/
def captureDone (s : State) (c : Fin 4) : State :=
  let x := s.diel.cells[c]
  let k := c.val
  let n := x.sums.length / 4
  let avg := x.sums.map (fun v => FX.div v (FX.ofNat 16))
  if x.capture = 1 then
    let words := (List.range 64).map (fun i => if i < 4 * n then (avg.getD i FX.zero).toBits32 else 0)
    let s := updCell s c (fun x => { x with
      capture := 0, sweeps := 0, sums := [], pend := some (words, planCrc s), leff := none })
    s.put (Ob.cellCalStatus k) 1
  else
    match x.pend.bind (fun p => solveLength s k n p.1 avg) with
    | some l =>
      (updCell s c (fun x => { x with capture := 0, sweeps := 0, sums := [], leff := some l.toBits32 })).put
        (Ob.cellCalStatus k) 2
    | none =>
      (updCell s c (fun x => { x with capture := 0, sweeps := 0, sums := [], leff := none })).put (Ob.cellCalStatus k) 4

/-- The bytes of a pending record (R192). -/
def calBytes (words : List Nat) (leff plan : Nat) : List Byte :=
  let b := words.flatMap (bytesLE 4) ++ bytesLE 4 leff ++ bytesLE 4 plan
  b ++ bytesLE 4 (crc32 b)

/-- CalCommand 1–4: the aborts of its own and the effect (R193). -/
def calCodes (s : State) (c v : Nat) : List Nat :=
  (if s.inPreop then [] else [0x00030002]) ++
  (if v = 2 ∧ s.ob (Ob.cellCalStatus c) ≠ 1 ∧ s.ob (Ob.cellCalStatus c) ≠ 2 then [0x00030002] else []) ++
  (if v = 3 ∧ s.ob (Ob.cellCalStatus c) ≠ 2 then [0x00030002] else [])

/-- A slot in progress when a CalCommand is written completes as an ordinary reading (R193). -/
def ordinarySlot (x : CellSt) : CellSt := { x with slot := x.slot.map (fun r => { r with kind := 0 }) }

/-- A capture begins with the next slot, anew where one runs (DESIGN CHOICE, log entry 80). -/
def calStart (kind : Nat) (c : Fin 4) (s : State) : State :=
  updCell s c (fun x => { ordinarySlot x with capture := kind, sweeps := 0, sums := [] })

def calAccept (c : Fin 4) (s : State) : State :=
  let x := s.diel.cells[c]
  match x.pend, x.leff with
  | some p, some l =>
    let s := s.putBytes (Ob.calDataCalData c.val) (calBytes p.1 l p.2)
    (updCell s c (fun x => { x with pend := none, leff := none })).put (Ob.cellCalStatus c.val) 3
  | _, _ => s

/-- Discard: the pending record goes, and a capture that runs with it (DESIGN CHOICE, log entry 80). -/
def calDiscard (c : Fin 4) (s : State) : State :=
  (updCell s c (fun x => { ordinarySlot x with capture := 0, sweeps := 0, sums := [], pend := none, leff := none })).put
    (Ob.cellCalStatus c.val) (calRest s c.val)

/-- A write of CalData: CHECK alone decides; the calibration is replaced (R192). -/
def calDataCodes (d : List Byte) : List Nat := if d.length = 268 ∧ !calCheckOk d then [0x00070001] else []

/-- CalData takes a value, and CalStatus tells its validity at once; a pending record and a capture that runs are kept (DESIGN CHOICE, log entry
80). -/
def calDataEff (c : Fin 4) (d : List Byte) (s : State) : State :=
  let s := s.putBytes (Ob.calDataCalData c.val) d
  s.put (Ob.cellCalStatus c.val) (calRest s c.val)

/-! ### Commands -/

/-- DIELECTRIC_CYCLE (R187, R189): at a WC multiple of the cycle period, once the cycle in progress is complete, on a module with ports
fitted. -/
def dielectricCycle (s : State) : State :=
  if s.phase = .run ∧ 0 < s.ob Ob.identFittedCellPorts ∧ s.wc % cyclePeriod s = 0 ∧
      (!s.diel.cycleOn || decide (s.diel.cycleLen ≤ cycleTime s)) then cycleStart s else s

/-- DIELECTRIC_SLOT (R187): a cell's slot has started, 50 ms times its number after the cycle. -/
def dielectricSlot (s : State) (c : Fin 4) : State :=
  let at_ := c.val * 50000
  if s.phase = .run ∧ s.diel.cycleOn ∧ cellFitted s c.val ∧ s.flag (Ob.cellEnable c.val) ∧
      !s.diel.served.contains c.val ∧ at_ ≤ cycleTime s ∧ cycleTime s < at_ + 50000 then
    let s := setDiel s (fun d => { d with served := d.served ++ [c.val] })
    updCell s c (fun x => { x with
      slot := some ⟨s.diel.cycleAt + at_, s.ob Ob.feFrequencyCount, if x.sweeps < 16 then x.capture else 3, false, none⟩ })
  else s

/-- µs to the end of a slot. -/
def slotLeft (s : State) (r : SlotRun) : Nat := ((r.wc : Int) + 50000 - (s.wc - s.diel.stepped)).toNat

/-- DIELECTRIC_READING (R187, R197): the sweep has ended. A fault of the DSP engine in the slot is counted (R480); a sweep that a capture
takes is averaged before that engine and stands. LOCKED of R203 says whether the synthesiser stayed in lock in the last slot, and reads 0 before
the first (DESIGN CHOICE, log entry 80). -/
def dielectricReading (s : State) (c : Fin 4) (sweep : List SweepPoint) (faults : SlotFaults) (engine : Bool) : State :=
  match s.diel.cells[c].slot with
  | none => s
  | some r =>
    if s.phase = .run ∧ (r.wc : Int) + r.n * 2500 ≤ s.wc - s.diel.stepped then
      let meas := corrected s r.n sweep
      let front := faults.unlocked || faults.overload
      let s := s.putBit Ob.feStatus 0 (!faults.unlocked)
      let s := if front then s.inc Ob.feFrontEndFaults else s
      let s := if engine then maskedFault (s.inc Ob.faultDspFaults) 0 (slotLeft s r) else s
      if r.kind = 0 then publishReading s c r meas front engine else captureSweep s c r meas front engine
    else s

/-! ### Derived reads (R203, R204) -/

/-- Cell Status: TRIMSTALE and CALIBRATING follow. While the slot that a CalCommand met completes as an ordinary reading no capture runs yet
(R193, R198; DESIGN CHOICE, log entry 80). -/
def cellStatusRead (s : State) (c : Fin 4) : Nat :=
  let st := setBit (s.ob (Ob.cellStatus c.val)) 10 (s.stBit Ob.feStatus 2)
  let x := s.diel.cells[c]
  setBit st 9 (decide (x.capture ≠ 0) && !x.slot.any (fun r => r.kind == 0))

def effectiveLength (s : State) (c : Nat) : Nat :=
  if calValid s c then leAt (s.bytesOf (Ob.calDataCalData c)) 256 4 else 0

end Sys2Proof.Machine
end

