-- ==== Sys2Proof/Machine/Eth.lean ====
section
/-! DEFINITION. Ethernet ports, the IP host and the time exchanges (R344–R350). -/
namespace Sys2Proof.Machine

/-! ### Ports and address (R348–R350) -/

def ipBit (s : State) (b : Nat) : Bool := s.stBit Ob.ipIpStatus b

/-- The address in use changes: a gratuitous ARP follows, and a conflict belongs to the address it was seen on (R349). -/
def putAddress (s : State) (addr mask : Nat) : State :=
  if s.ob Ob.ipAddress = addr then s.put Ob.ipMask mask
  else
    let s := s.puts [(Ob.ipAddress, addr), (Ob.ipMask, mask)]
    let s := s.putBit Ob.ipIpStatus 2 false
    if addr = 0 then s else sendAll s

/-- UP: a port is linked, and the address is static or bound. A change raises event 194 with Address (R350). -/
def ipFollow (s : State) : State :=
  let up := (linked s 0 || linked s 1) && (s.ob Ob.ipAddressMode == 0 || ipBit s 1)
  if up == ipBit s 0 then s else raise (s.putBit Ob.ipIpStatus 0 up) 194 (s.ob Ob.ipAddress)

/-- The host takes its settings: at the end of BOOT, and when they are written. In AddressMode 1 without a lease the client begins with its
first frame (R349). -/
def ipSettings (s : State) : State :=
  if s.ob Ob.ipAddressMode = 0 then
    ipFollow (putAddress (s.putBit Ob.ipIpStatus 1 false) (s.ob Ob.ipStaticAddress) (s.ob Ob.ipStaticMask))
  else if ipBit s 1 then ipFollow s
  else
    let s := ipFollow (putAddress s 0 0)
    sendAll { s with net := { s.net with retryAt := s.osc } }

/-- A write of the static address or mask: it counts with AddressMode 0. -/
def ipStatic (s : State) : State := if s.ob Ob.ipAddressMode = 0 then ipSettings s else s

/-- What a LinkMode admits (R350). -/
def linkAdmits (mode status : Nat) : Bool := status == 0 || mode == 0 || mode + status == 6

/-- A port's link takes a new status. -/
def linkTakes (s : State) (e status : Nat) : State :=
  if s.ob (Ob.ethLinkStatus e) = status then s
  else
    let s := s.put (Ob.ethLinkStatus e) status
    ipFollow (raise s (192 + e) status)

/-- LINK_CHANGE: only an enabled port links, in a mode that its setting admits. -/
def linkChange (s : State) (e status : Nat) : State :=
  let ok := status = 0 ∨ (s.flag (Ob.ethEnable e) = true ∧ status ≤ 5 ∧ linkAdmits (s.ob (Ob.ethLinkMode e)) status = true ∧
    s.winter.stage ≤ 1)
  if s.phase = .run ∧ ok then linkTakes s e status else s

/-- A lease is bound or renewed (R349): the acknowledgement of the client's request, which went out by every linked port (log entry 69). -/
def dhcpBound (s : State) (addr mask seconds : Nat) : State :=
  if s.phase = .run ∧ s.ob Ob.ipAddressMode = 1 ∧ (linked s 0 || linked s 1) = true then
    let s := putAddress (sendAll s) addr mask
    let s := s.putBit Ob.ipIpStatus 1 true
    ipFollow { s with net := { s.net with leaseEnd := s.osc + seconds * 1000000 } }
  else s

/-- Whether the lease has lapsed. -/
def leaseLapsed (s : State) : Bool := ipBit s 1 && decide (s.net.leaseEnd ≤ s.osc)

def dhcpLapse (s : State) : State :=
  let s := putAddress (s.putBit Ob.ipIpStatus 1 false) 0 0
  raise (ipFollow { s with net := { s.net with retryAt := s.osc } }) 195 0

def dhcpRetryDue (s : State) : Bool :=
  s.ob Ob.ipAddressMode == 1 && !ipBit s 1 && decide (s.net.retryAt + 10000000 ≤ s.osc)

def dhcpRetry (s : State) : State := sendAll { s with net := { s.net with retryAt := s.osc } }

/-- Seconds left of the lease. -/
def leaseRemaining (s : State) : Nat :=
  if ipBit s 1 then min ((s.net.leaseEnd - s.osc) / 1000000) (2 ^ 32 - 1) else 0

/-- Another host claims the module's address. -/
def addressConflict (s : State) (sender : Nat) : State :=
  if s.phase = .run ∧ s.ob Ob.ipAddress ≠ 0 then raise (s.putBit Ob.ipIpStatus 2 true) 196 sender else s

/-- Broadcast frames beyond the limit are dropped on a port: event 203, at most once a second, carries all that were dropped in the last
second (R348, R355). -/
def broadcastStorm (s : State) (e dropped : Nat) : State :=
  if s.phase ≠ .run ∨ dropped = 0 then s
  else
    let s := s.incBy (Ob.ethStormDrops e) dropped
    let last := (s.osc, dropped) :: s.net.drops.filter (fun x => decide (s.osc < x.1 + 1000000))
    let s := { s with net := { s.net with drops := last } }
    if s.net.stormSeen && decide (s.osc < s.net.stormAt + 1000000) then s
    else raise { s with net := { s.net with stormSeen := true, stormAt := s.osc } } 203 (sumBy last (·.2))

/-- The switch learns the port at which a MAC address is heard, 1,024 at most (R348). -/
def learnAddress (s : State) (mac e : Nat) : State :=
  { s with net := { s.net with macs := ((mac, e, s.osc) :: s.net.macs.filter (fun a => a.1 != mac)).take 1024 } }

/-- What a datagram shows of its sender's MAC address: that of the hop it came by (R349). -/
def arpHeard (s : State) (addr mac : Nat) : State :=
  match nextHop s addr with
  | some hop => arpHold s hop (some mac)
  | none => s

/-! ### Time over the bus (R345) -/

/-- The module follows the time of this channel. -/
def followsBus (s : State) (n : Fin 4) : Bool := s.ob Ob.wcSyncSource == 2 && s.ob Ob.tsyncBusSyncChannel == n.val

/-- A sync is held for pairing, with its TIME and the oscillator time `at_` of its arrival. -/
def timeSync (s : State) (n : Fin 4) (seq time at_ : Nat) : State :=
  if followsBus s n then
    let kept := s.bus[n].held.filter (fun h => h.1 != seq && decide (at_ ≤ h.2.2 + 1000000))
    setBus s n { s.bus[n] with held := kept ++ [(seq, time, at_)] }
  else s

/-- A follow-up that arrived at `at_` pairs with the sync of its number, at most 1 s after it. -/
def timeFollowUp (s : State) (n : Fin 4) (seq master at_ : Nat) : State :=
  if !followsBus s n then s
  else match s.bus[n].held.find? (fun h => h.1 == seq && decide (at_ ≤ h.2.2 + 1000000)) with
    | none => s
    | some (_, time, _) =>
      let left := s.bus[n].held.filter (fun h => h.1 != seq)
      timeMeasured (setBus s n { s.bus[n] with held := left }) ((master : Int) - (time : Int)) false

/-- SYNC_INTERVAL: the module is time master on the channel and its period has passed. -/
def masterDue (s : State) (n : Fin 4) : Bool :=
  bit (s.ob Ob.tsyncMasterChannels) n.val && feeds s n && decide (s.bus[n].syncAt + s.micros Ob.tsyncSyncInterval ≤ s.osc)

/-! ### Time over Ethernet (R346) -/

def pollDue (s : State) : Bool :=
  s.ob Ob.wcSyncSource == 1 && !s.appDown && (!s.net.pollOpen || decide (s.net.pollAt + s.micros Ob.tsyncPollInterval ≤ s.osc))

/-- A request goes to the time server; its transmit time is noted. -/
def timePoll (s : State) : State :=
  let tid := (s.net.pollTid + 1) % 65536
  let s := { s with net := { s.net with pollTid := tid, pollT1 := s.wc, pollOpen := true, pollAt := s.osc } }
  sendUdp s (s.ob Ob.tsyncServerAddress) (s.ob Ob.tsyncServerPort) (datagram 0 tid (bytesLE 1 3 ++ bytesLE 1 tid))

/-- A reply received now (R346). -/
def timeReply (s : State) (tid t2 t3 : Nat) : State :=
  if s.phase ≠ .run ∨ s.ob Ob.wcSyncSource ≠ 1 ∨ s.net.pollOpen = false ∨ tid ≠ s.net.pollTid then s
  else
    let t1 : Int := s.net.pollT1
    let t4 : Int := s.wc
    let delay : Int := (t4 - t1) - ((t3 : Int) - (t2 : Int))
    if 10000 < delay then s
    else
      let offset : Int := (((t2 : Int) - t1) + ((t3 : Int) - t4)) / 2
      let s := s.putF Ob.tsyncLastDelay (FX.to32 (FX.div (FX.ofInt delay) (FX.ofNat 1000000)))
      timeMeasured s offset true

end Sys2Proof.Machine
end

