-- ==== Sys2Proof/Machine/Supply.lean ====
section
/-! DEFINITION. The supplies (R420–R425), the shutdown comparator (R415, R416), Winter and its wake (R351, R352, R429–R434). -/
namespace Sys2Proof.Machine

/-! ### Sources (R420–R424) -/

def supplyBit (s : State) (b : Nat) : Bool := s.stBit Ob.supplySupplyStatus b
def setSupplyBit (s : State) (b : Nat) (v : Bool) : State := s.putBit Ob.supplySupplyStatus b v
def sourceOf (s : State) : Nat := s.ob Ob.supplySource

/-- The module has power: neither off nor in HALT. -/
def powered (s : State) : Bool := s.phase != .off && s.phase != .halt

/-- The module converters run: powered, and not in Winter (R432, R434). -/
def railsUp (s : State) : Bool := powered s && s.phase != .winter

/-- Events of the core die, which runs in BOOT and while the module runs. -/
def coreRaises (s : State) (evs : List (Nat × Nat)) : State :=
  match s.phase with
  | .run | .boot _ => raiseAll s evs
  | _ => s

/-- Source takes a new value. -/
def takeSource (s : State) (new : Nat) : State :=
  setSupplyBit ((s.put Ob.supplySource new).put Ob.supplyLastSwitchTime s.wc) 0 (new == 1)

/-- A change between VM and VB (R422): counted, and its event 134 beside others of the instant. -/
def switchSource (s : State) (new : Nat) (evs : List (Nat × Nat)) : State :=
  let old := sourceOf s
  coreRaises ((takeSource s new).inc Ob.supplySwitchoverCount) ((134, new * 256 + old) :: evs)

/-- Resumption after an abandoned Winter entry (R433): controllers, PHYs, server and actions; event 139 with its cause. -/
def abandonWinter (s : State) (cause : Nat) (evs : List (Nat × Nat)) : State :=
  let s := setPlant { s with winter := ⟨0, 0, false⟩ } (fun d => { d with modelStop := false })
  let s := (List.finRange 4).foldl (fun s (n : Fin 4) =>
    if s.flag (Ob.busEnable n) && !s.bus[n].started then tryStartBus s n else feedBus s n) s
  raiseAll s ((139, cause) :: evs)

/-- Entry to the hold-up store (R423): in BOOT a reset of cause 1 without a checkpoint (R441), behind the journal, once the KIND 5 record is
formed, and the counters (R493) if the store is charged; in Winter the end of all power; while the module runs, the warning. With
HOLDUPFAULT set condition H lapses (R489). A Winter entry is abandoned by it (stage 3 until the supplies return), and so is a commit, but
for one that the restart of the management cores has stopped before (R452).
`programming`: an update block was being programmed. -/
def enterHoldup (s : State) (programming : Bool) (evs : List (Nat × Nat)) : State :=
  let s := if supplyBit s 6 then guaranteeLapse s else s
  match s.phase with
  | .boot k =>
    let old := sourceOf s
    let s := takeSource (s.inc Ob.supplyPowerFailCount) 2
    if supplyBit s 5 then
      let s := raiseAll (setSupplyBit s 3 true) ((136, old) :: evs)
      powerOff (saveCounters (if 6 ≤ k then flushJournal s else s)) 1
    else powerOff s 1
  | .winter => powerOff s 0
  | .run =>
    let old := sourceOf s
    let s := setSupplyBit ((takeSource s 2).inc Ob.supplyPowerFailCount) 3 true
    let s := if s.winter.stage = 0 then s
      else { s with winter := { s.winter with stage := 3 } }.inc Ob.seasonEntryAbandonCount
    let s := ckptStart (updatePowerFail s programming) 2
    warnCommit (raiseAll s ((136, old) :: evs))
  | _ => s

/-- VM has failed: below 19.0 V for 100 µs. -/
def vmFail (s : State) (programming : Bool) : State :=
  if !powered s then s
  else
    let s := setSupplyBit s 1 false
    if sourceOf s ≠ 0 then s
    else if supplyBit s 2 then switchSource (maskedFault s 100 0) 1 []
    else enterHoldup s programming []

/-- VM at or above 20.5 V for 500 ms. -/
def vmGood (s : State) : State :=
  if !powered s then s
  else
    let s := setSupplyBit s 1 true
    if sourceOf s = 1 then switchSource s 0 [] else s

/-- VB below 17.0 V for 100 µs, which is outside R520; `vmAbove`: VM stands at or above 19.0 V. -/
def vbLost (s : State) (vmAbove programming : Bool) : State :=
  if !powered s then s
  else
    let evs := if supplyBit s 2 then [(135, 0)] else []
    let s := rangeE (setSupplyBit s 2 false) (.supply 1) true
    if sourceOf s ≠ 1 then coreRaises s evs
    else if vmAbove then switchSource (maskedFault s 100 0) 0 evs
    else enterHoldup s programming evs

/-- A supply is no longer too low; it stays outside R520 while its last figure lies above 32.0 V. -/
def lowEnds (s : State) (p : Range) (volts : Nat) : State := if FX.gt (FX.ofBits32 volts) (FX.ofNat 32) then s else rangeE s p false

/-- VB at or above 18.0 V for 100 ms. -/
def vbAvailable (s : State) : State :=
  if !powered s || supplyBit s 2 then s else coreRaises (lowEnds (setSupplyBit s 2 true) (.supply 1) (s.ob Ob.supplyVbVoltage)) [(135, 1)]

/-- VM or VB outside the 18.0–32.0 V of R520. -/
def supplyOut (volts : Nat) : Bool := outside (FX.ofBits32 volts) (FX.ofNat 18) (FX.ofNat 32)

/-- VM or VB above 36 V, which R519 allows as a pulse alone. -/
def overContinuous (volts : Nat) : Bool := FX.gt (FX.ofBits32 volts) (FX.ofNat 36)

/-- VM or VB beyond its absolute maximum: −36 V to 36 V, and up to 40 V in a pulse of at most 100 ms, once per 10 s (R519, log entry 95). -/
def supplyBeyond (s : State) (k : Fin 2) (volts : Nat) : Bool :=
  let p := s.supply.pulses[k]
  outside (FX.ofBits32 volts) (FX.ofInt (-36)) (FX.ofNat 40) ||
  (overContinuous volts &&
    match p.since with
    | some t => decide (t + 100000 < (s.osc : Int))
    | none => p.last.any (fun t => decide ((s.osc : Int) < t + 10000000)))

/-- A voltage of VM or VB as it bears on the pulses of R519. -/
def notePulse (s : State) (k : Fin 2) (volts : Nat) : State :=
  let p := s.supply.pulses[k]
  let q : PulseSt :=
    if !overContinuous volts then { p with since := none }
    else if p.since.isSome then p
    else ⟨some (s.osc : Int), some (s.osc : Int)⟩
  { s with supply := { s.supply with pulses := s.supply.pulses.set k q } }

/-- OVERVOLT of supply `k` (0 VM, 1 VB) by its voltage; condition E lapses as the voltage leaves its range (R489, R520). -/
def overVolt (s : State) (k : Fin 2) (volts : Nat) : State :=
  let s := notePulse s k volts
  if !powered s then s
  else
    let x := FX.ofBits32 volts
    let was := if k.val = 0 then s.supply.overVm else s.supply.overVb
    let put (v : Bool) : State :=
      let s := rangeE s (.supply k) (supplyOut volts)
      let p := if k.val = 0 then { s.supply with overVm := v } else { s.supply with overVb := v }
      let s := setSupplyBit { s with supply := p } 4 (p.overVm || p.overVb)
      coreRaises s [(140, 256 * ofBool v + k.val)]
    if FX.gt x (FX.ofNat 32) && !was then put true
    else if FX.le x (FX.ratio 315 10) && was then put false
    else s

/-- A power-fail checkpoint still being written completes, and the journal and the counters, written once at each warning, follow it
(R462, R493). -/
def powerFailEnds (s : State) : State :=
  if (s.plant.ckptRun.map (fun r => r.kind)) = some 2 then powerFailWrite (ckptFinish s) else s

/-- A supply qualifies during hold-up (R421, R424): a power-fail checkpoint being written completes first, and what follows it. In the BOOT
of a reset on the store there is none. -/
def holdupReturn (s : State) (vm : Bool) : State :=
  if railsUp s = true ∧ sourceOf s = 2 then
    let entering := s.winter.stage != 0
    let s := powerFailEnds s
    let new := if vm then 0 else 1
    let s := setSupplyBit (takeSource s new) 3 false
    let s := raise s 137 new
    if entering then abandonWinter s 2 [] else s
  else s

/-- Records staged since the warning are in NAND as hold-up ends; in BOOT once they can be chained (R440, R462). -/
def lastRecords (s : State) : State := if chains s then flushJournal s else s

/-- The store falls to 20.0 V (R423): checkpoint and journal are complete unless the store was at fault (R425). A count made since the
counters were written at the warning is lost (R493). The BOOT of a reset on the store ends so too. -/
def holdupEnd (s : State) : State :=
  if railsUp s = true ∧ sourceOf s = 2 then
    let s := if supplyBit s 6 then s else lastRecords (powerFailEnds s)
    powerOff s 1
  else s

/-- HOLDUPFAULT follows a measurement (R425). -/
def judgeHoldup (s : State) (cap : Nat) (charged : Bool) : State :=
  let fault := FX.lt (FX.ofBits32 cap) (FX.to32 (FX.ratio 23 10000)) || !charged
  let was := supplyBit s 6
  let s := setSupplyBit (s.put Ob.supplyHoldupCapacitance cap) 6 fault
  let s := { s with supply := { s.supply with testAt := s.osc } }
  if fault == was then s else raise s 142 (ofBool fault)

/-- HOLDUP_TEST: every 24 h of uptime. -/
def holdupTest (s : State) (cap : Nat) : State :=
  if s.phase = .run ∧ sourceOf s ≠ 2 ∧ s.supply.testAt + 86400000000 ≤ s.osc then judgeHoldup s cap true else s

/-! ### Shutdown comparator (R416) -/

/-- A junction has stayed above the strapped threshold for 1 ms, as last measured (R415, R416, R513). -/
def comparatorTrips (s : State) : Bool :=
  s.supply.junctions.toList.any (fun j => decide (1000 ≤ j.held) && FX.gt (FX.ofBits32 j.celsius.toNat) (strapCelsius s))

/-- The comparator trips: THSD# asserted, outputs off, and the module is in HALT. The power-fail warning it sends abandons a commit (R452),
and what it writes is written (R153, R462, R493): in BOOT no checkpoint (R441), and in Winter, where NAND is off, nothing (R434). -/
def thermalShutdown (s : State) : State :=
  if !(powered s && comparatorTrips s) then s
  else
    let s := match s.phase with
      | .run => powerFailWrite (ckptWhole (warnCommit s))
      | .boot k => saveCounters (if 6 ≤ k then flushJournal s else s)
      | _ => s
    { s with phase := .halt, supply := { s.supply with latch := true } }

/-- Both supplies have been below 3.0 V for 1 s. -/
def haltClear (s : State) : State :=
  if s.phase = .halt then { powerOff s 0 with supply := { s.supply with latch := false, upCause := 0 } } else s

/-! ### Winter entry (R351, R431–R433) -/

/-- Aborts of WinterCommand (R432, R433). While a check of R77 runs the module is about to leave PREOP, in which Winter is entered (R16): the
command aborts as a further state command does (DEDUCED, log entry 75). -/
def winterCodes (s : State) : List Nat :=
  (if s.inPreop && !supplyBit s 3 then [] else [0x00030002]) ++ (if s.check.isSome then [0x00030005] else []) ++
  (if commitRuns s then [0x00030004] else []) ++
  (if (List.range 4).any (fun n => s.flag (Ob.busEnable n) && s.flag (Ob.wakeWakeEnable n)) then [] else [0x00050006])

def winterEff (s : State) : State := { s with winter := ⟨1, s.osc, false⟩ }

/-- The buffer wait of step 1 is over: 100 ms have passed, or no buffer is owned. -/
def bufferWaitOver (s : State) : Bool :=
  decide (s.winter.at_ + 100000 ≤ s.osc) ||
  (List.range 4).all (fun n => (List.range 3).all (fun b => !bufOwned s n b))

/-- A controller with nothing of its own on the bus: no frame under way, no cancel that waits for its retry point. -/
def busQuiet (s : State) (n : Fin 4) : Bool :=
  s.bus[n].chosen.isNone && (List.finRange 3).all (fun b => !s.bus[n].bufs[b].retryCancel)

/-- Step 2 of Winter entry (R351): each controller stops as its own frame on the bus has its outcome (log entry 82). Once all have
stopped the server and the PHYs are off, and a checkpoint begins. -/
def winterOn (s : State) : State :=
  if s.winter.stage = 1 ∧ s.winter.cancelled = true then
    let s := (List.finRange 4).foldl (fun s (n : Fin 4) => if s.bus[n].started && busQuiet s n then stopBus s n else s) s
    if (List.finRange 4).any (fun n => s.bus[n].started) then s
    else
      let s := (List.range 2).foldl (fun s e => linkTakes s e 0) s
      let s := setPlant s (fun d => { d with modelStop := true })
      ckptStart { s with winter := { s.winter with stage := 2 } } 2
  else s

/-- Step 1 ends: what remains is cancelled, and the controllers stop at the next bus idle. -/
def winterWaitEnd (s : State) : State :=
  if s.phase = .run ∧ s.winter.stage = 1 ∧ s.winter.cancelled = false ∧ bufferWaitOver s = true then
    let s := (List.finRange 4).foldl (fun s (n : Fin 4) =>
      if s.bus[n].started then
        let s := cancelAll s n
        setBus s n { s.bus[n] with stopping := true }
      else s) s
    winterOn { s with winter := { s.winter with cancelled := true } }
  else s

/-- The messages that firmware still holds for a channel as Winter is reached are withdrawn, each counted as a cancellation (R18, R347). -/
def withdrawWaiting (s : State) (n : Fin 4) : State :=
  let s := cancelHot s n
  setBus (s.bus[n].txq.foldl (fun s _ => countCancel s n) s) n { s.bus[n] with txq := [] }

/-- Winter is reached: checkpoint and journal are in NAND, the transceivers sleep. -/
def winterReached (s : State) : State :=
  if s.phase = .run ∧ s.winter.stage = 2 then
    let s := flushJournal (ckptFinish s)
    let s := (List.finRange 4).foldl withdrawWaiting s
    let s := saveCounters (s.inc Ob.seasonWinterCount)
    let s := setSeason s 3
    { s with
      phase := .winter, winter := ⟨0, 0, false⟩
      bus := s.bus.map (fun b => { b with asleep := true, errCount := 0 }) }
  else s

/-! ### Wake (R352, R433, R434) -/

/-- A wake-up frame of R352 on channel n. -/
def wakeMatches (s : State) (n : Nat) (f : CanFrame) : Bool :=
  let id := s.ob (Ob.wakeWakeId n)
  let m := s.ob (Ob.wakeWakeIdMask n) % 2 ^ 29
  let width := if f.ide then m else m % 2 ^ 11
  let mask := s.ob (Ob.wakeWakeDataMask n)
  let dlc := s.ob (Ob.wakeWakeDlc n)
  !f.fdf && !f.rtr && (bit id 31 == f.ide) && ((f.id ^^^ id) &&& width) == 0 && f.dlc == dlc &&
  (dlc == 0 || (leAt f.data 0 8 &&& mask) != 0)

/-- The detector of a sleeping transceiver is armed. -/
def armed (s : State) (n : Fin 4) (mode : Nat) : Bool :=
  s.phase == .winter && s.bus[n].asleep && s.flag (Ob.wakeWakeEnable n) && s.ob (Ob.wakeWakeMode n) == mode

/-- A wake (R434): a reset of cause 3, reported at the end of its BOOT; what was counted in Winter is not lost (R422, R493). -/
def wakeUp (s : State) (n : Fin 4) (cause : Nat) : State :=
  let t := resetNow (saveCounters s) 3 s.straps [(144 + 12 * n.val + 11, cause)]
  ((t.put Ob.seasonLastWakeChannel n.val).put (Ob.wakeLastWakeCause n) cause).inc (Ob.wakeWakeCount n)

/-- A frame that wakes under WakeMode 1 during steps 1 and 2 abandons the entry, with the wake event (R351, R433). -/
def wakeDuringEntry (s : State) (n : Fin 4) (f : CanFrame) : State :=
  if s.phase = .run ∧ s.winter.stage = 1 ∧ s.flag (Ob.wakeWakeEnable n) = true ∧
      s.ob (Ob.wakeWakeMode n) = 1 ∧ wakeMatches s n f = true then
    abandonWinter (s.inc Ob.seasonEntryAbandonCount) 1 [(144 + 12 * n.val + 11, 2)]
  else s

def wakePattern (s : State) (n : Fin 4) : State := if armed s n 0 then wakeUp s n 1 else s

/-- The decoder's error count: up with a decoding error, down to 0 with a correct frame; 32 is where it wakes. -/
def wakeDecoded (s : State) (n : Fin 4) (good : Bool) : State :=
  if armed s n 1 then
    let c := s.bus[n].errCount
    setBus s n { s.bus[n] with errCount := if good then c - 1 else min 32 (c + 1) }
  else s

def wakeFrame (s : State) (n : Fin 4) (f : CanFrame) : State :=
  if armed s n 1 then (if wakeMatches s n f then wakeUp s n 2 else if f.fdf then s else wakeDecoded s n true)
  else wakeDuringEntry s n f

def wakeErrors (s : State) (n : Fin 4) : State :=
  if armed s n 1 && decide (32 ≤ s.bus[n].errCount) then wakeUp s n 3 else s

end Sys2Proof.Machine
end

