-- ==== Sys2Proof/Machine/Boot.lean ====
section
/-! DEFINITION. Power-on and BOOT (R439–R443, R511, R512): the straps, the eight steps, and the end of BOOT. -/
namespace Sys2Proof.Machine

/-! ### Straps (R511, R512) -/

/-- The class of a strap by its seven reads: 0 set, 1 open, 2 indeterminate; it is held by at least four. -/
def strapClass (ohms : List Nat) : Nat :=
  let r := ohms.take 7
  let set_ := (r.filter (fun x => decide (x ≤ 100))).length
  let open_ := (r.filter (fun x => decide (100000 ≤ x))).length
  if 4 ≤ set_ then 0 else if 4 ≤ open_ then 1 else 2

/-- The straps from the reads, in ohms, of TSEL0, TSEL1 and CFGKEY. -/
def sampleStraps (t0 t1 key : List Nat) : Straps :=
  let c0 := strapClass t0
  let c1 := strapClass t1
  let ck := strapClass key
  { tsel := ofBool (c0 == 0) + 2 * ofBool (c1 == 0), key := ck != 1
    indet := ofBool (c0 == 2) + 2 * ofBool (c1 == 2) + 4 * ofBool (ck == 2) }

/-- A supply qualifies (R439): VM where it has met its condition, else VB. The straps are sampled at that instant, after a power loss too
(R423, R512). -/
def powerOn (s : State) (vm vb : Bool) (t0 t1 key : List Nat) : State :=
  if s.phase = .off ∧ (vm || vb) = true then
    let straps := sampleStraps t0 t1 key
    let cause := s.supply.upCause
    let evs := if straps.indet ≠ 0 then [(143, straps.indet)] else []
    let s := { s with supply := { State.restSupply with pulses := s.supply.pulses } }
    let s := (s.put Ob.supplySource (if vm then 0 else 1)).put Ob.supplySupplyStatus (if vm then 0 else 1)
    resetNow s cause straps evs
  else s

/-! ### The steps of BOOT (R440) -/

/-- The latest time of each step, µs from the start of the reset. -/
def bootLimits : List Nat := [15000, 400000, 1400000, 1800000, 2000000, 2600000, 3300000, 3800000]

/-- The gain-region bank of every loop loaded from its shadow sets, regions 0 to 7, as BOOT loads it (R240, R440). -/
def bootBanks (s : State) : State :=
  { s with loops := s.loops.map (fun l =>
      { l with ctx := { l.ctx with bank := (List.range 8).foldl (loadRegion s l.loop) l.ctx.bank } }) }

/-- Loops that the configuration holds active take a context, its bank loaded (R207, R240, R440), and enabled traces start. -/
def bootLoops (s : State) : State :=
  let s := bootBanks ((activeLoops s).foldl (fun s n => loopActivateEff n (s.put (Ob.loopActive n) 0)) s)
  (List.finRange 8).foldl (fun s (t : Fin 8) => if s.flag (Ob.traceEnable t) then traceRestart t s else s) s

/-- What step `k` (from 0) does as it completes. `cap` is the capacitance measured, `volts` what the store has reached: charged at 45.0 V
(R425), with HOLDUPCHARGED from 44.0 V on (R428). -/
def bootDo (s : State) (k cap volts : Nat) : State :=
  match k with
  | 0 => { s with wc := 0, tickWc := 0 }
  | 2 => chooseImage s
  | 3 => resumeJournal s
  | 4 => setSupplyBit (judgeHoldup s cap (FX.ge (FX.ofBits32 volts) (FX.ofNat 45))) 5 (FX.ge (FX.ofBits32 volts) (FX.ofNat 44))
  | 5 =>
    let s := bootConfig s
    (enabledPaths s).foldl (fun s p => allocPath s p false) s
  | 6 => ledgerRestore s
  | 7 =>
    let s := armAll (bootLoops (writeSafeCopy s))
    { s with tickWc := s.wc / 10 * 10, gc := s.gc.map (fun g => { g with lastEdge := s.osc }) }
  | _ => s

/-- How long step `k` (from 0) lasts: `micros`, up to the step's time. A store below 45.0 V charges on until its 2.0 s have passed (R425). -/
def bootTime (s : State) (k micros volts : Nat) : Nat :=
  let left := (bootLimits[k]?).getD 0 - s.osc
  if k = 4 && FX.lt (FX.ofBits32 volts) (FX.ofNat 45) then left else min micros left

/-- A step of BOOT completes, `micros` after the one before it and no later than its time (R440). In recovery none does. -/
def bootStep (s : State) (micros cap volts : Nat) : State :=
  match s.phase with
  | .boot k =>
    if s.boot.recovery || decide (8 ≤ k) then s
    else
      let s := bootDo ({ s with linesHeld := false }.elapse (bootTime s k micros volts)) k cap volts
      if s.boot.recovery then s else { s with phase := .boot (k + 1) }
  | _ => s

/-! ### The end of BOOT (R443) -/

/-- Starts the check of R77 for a command, or for AutoOperate. -/
def startCheck (s : State) (asker : Option WReq) : State :=
  { s with check := some ⟨asker, false, firstFault (violations s)⟩ }

/-- The SafeTripEvent list is latched (R73). -/
def latchTrips (s : State) : State :=
  { s with trips := (List.range 16).map (fun i => s.ob (Ob.safeTripSafeTripEvent i)) }

/-- Directions, outputs and frames of PREOP: power-up values from the first tick on (R375, R442). -/
def startField (s : State) : State :=
  let s := beginWindows (takeDirections s)
  let fr := holdFrame s false
  let s := { s with link := { s.link with sent := fr, rx := fr, downAt := s.osc, downRun := 0 } }
  chansFromFrame (fieldDecide s) fr

/-- BOOT ends: PREOP, the season, the controllers and the IP host, the events, and AutoOperate. -/
def endOfBoot (s : State) (micros : Nat) : State :=
  match s.phase with
  | .boot 8 =>
    let s := pass s (min micros (4500000 - s.osc))
    let s := { s with tickWc := s.wc / 10 * 10 }
    let s := s.putF Ob.resetBootDuration (FX.to32 (FX.div (FX.ofNat s.osc) (FX.ofNat 1000000)))
    let s := { s with phase := .run, sec := { s.sec with bootEnd := s.osc }, silenceAt := s.osc
                      seq := { s.seq with lastWc := s.wc } }
    let s := startField (latchTrips (setOpState s 1 0))
    let s := (List.finRange 8).foldl (fun s (k : Fin 8) => { s with gc := s.gc.set k { s.gc[k] with lastEdge := s.osc } }) s
    let s := (List.range 16).foldl syncStepClock s
    let s := (List.finRange 4).foldl (fun s (n : Fin 4) => if s.flag (Ob.busEnable n) then tryStartBus s n else s) s
    let late (e : Nat × Nat) : Bool := e.1 == 138
    let s := seasonFollows (raiseAll s (s.boot.atEnd.filter late))
    let s := ipSettings s
    let c := confirmImage s
    let s := raiseAll c.1 ((141, min 65535 (s.osc / 1000) * 65536 + s.ob Ob.resetLastResetCause) :: (c.2 ++ s.boot.atEnd.filter (fun e => !late e)))
    let s := { s with boot := { s.boot with atEnd := [] } }
    let s := setPlant s (fun d => { d with ckptDue := s.osc + s.micros Ob.ckptPeriod })
    if s.flag Ob.opAutoOperate then startCheck s none else s
  | _ => s

end Sys2Proof.Machine
end

