-- ==== Sys2Proof/Machine/Operating.lean ====
section
/-! DEFINITION. Answers of the Worust server (R335–R337), and the state commands with the check of R77 (R73–R81, R444). -/
namespace Sys2Proof.Machine

/-! ### Answers (R335–R337) -/

/-- The same interface, source and TID (R337). -/
def sameAsker (a b : Asker) : Bool := a.o == b.o && a.tid == b.tid

/-- An answer goes to the asker's bus queue or UDP port. -/
def sendTo (s : State) (a : Asker) (kind : Nat) (payload : List Byte) : State :=
  if a.o.iface = 0 ∨ s.appDown = true then s
  else if a.o.iface < 0x14 then
    let r := queueMsg s (Fin.ofNat 4 (a.o.iface - 0x10)) ⟨a.prio, kind, a.o.src, a.tid, a.fd, payload⟩
    if r.2 then r.1 else r.1.inc Ob.worustRequestsDropped
  else sendUdp s a.o.src a.o.port (datagram kind a.tid payload)

/-- An answer is given: the request is no longer in progress, and the answer is kept for 1 s. -/
def answerReq (s : State) (a : Asker) (kind : Nat) (payload : List Byte) : State :=
  let kept := s.net.served.filter (fun x => decide (s.osc < x.at_ + 1000000) && !sameAsker x.who a)
  let s := { s with net := { s.net with
    inProgress := s.net.inProgress.filter (fun x => !sameAsker x a), served := ⟨a, s.osc, kind, payload⟩ :: kept } }
  sendTo (s.inc Ob.worustRequestsServed) a kind payload

/-- The answer to a write: RESPONSE, or ABORT with its code. -/
def answerWrite (s : State) (w : WReq) (code : Option Nat) : State :=
  if !w.answer then s
  else match code with
    | none => answerReq s w.who 5 []
    | some c => answerReq s w.who 6 (bytesLE 4 c)

/-- What became of a write is answered; one that waits, or is dropped, is not (R461). -/
def answerRes (r : State × WRes) (w : WReq) : State :=
  match r.2 with
  | .done => answerWrite r.1 w none
  | .aborted c => answerWrite r.1 w (some c)
  | _ => r.1

/-! ### State commands (R74, R76) -/

/-- Aborts of a state command in the present state. -/
def stateCodes (s : State) (v : Nat) : List Nat :=
  let okIn : Bool := match v with
    | 1 => s.inOperate || s.inSafe
    | 2 => s.inPreop || (s.inSafe && s.ob Ob.opSafeCause == 0)
    | 3 => s.inPreop || s.inOperate
    | 4 => s.inPreop || s.inSafe
    | 5 => s.inSafe
    | _ => true
  (if okIn then [] else [0x00030002]) ++ (if checking s then [0x00030005] else []) ++
  (if v = 4 && commitRuns s then [0x00030004] else [])

/-- Acknowledge (R74, R411, R487, R493). -/
def acknowledge (s : State) : State :=
  let c := s.ob Ob.opSafeCause
  let f := s.ob Ob.faultFaultStatus
  let c := setBit (setBit c 0 false) 1 false
  let c := if s.therm.hot then c else setBit c 2 false
  let c := if bit f 0 || bit f 1 || bit f 2 then c else setBit c 3 false
  (s.puts [(Ob.opSafeCause, c), (Ob.opFirstTripEvent, 0xFFFF)]).putBit Ob.faultFaultStatus 3 false

/-- Commands 1, 3, 4 and 5. -/
def stateEff (v : Nat) (s : State) : State :=
  match v with
  | 1 => enterPreop s 1
  | 3 => enterSafe s 1 0
  | 4 => { s with sec := { s.sec with resetDue := some (2, true) } }
  | 5 => acknowledge s
  | _ => s

/-- Command 2: the check starts, and its outcome answers and records the write (R77). -/
def submitOperate (s : State) (w : WReq) : State × WRes :=
  if s.phase ≠ .run then (s, .unserved)
  else if w.who.o.iface ≠ 0 && decide (704 ≤ placesUsed s) then (s.inc Ob.worustRequestsDropped, .dropped)
  else if !s.storeQ.isEmpty || (w.who.o.iface = 0 && decide (768 ≤ placesUsed s)) then
    (putWaiting s w, .waits)
  else match pickAbort (baseCodes s w (viaXfer w) ++ stateCodes s 2) with
    | some c => (abortWrite s w [] c, .aborted c)
    | none => (startCheck s (some w), .later)

/-! ### The end of the check (R77, R81) -/

/-- The attempt ends without OPERATE. -/
def checkFails (s : State) (c : Check) (code : Nat) : State :=
  let s := { s with check := none, operateDue := false }
  match c.asker with
  | some w => answerWrite (abortWrite s w [] code) w (some code)
  | none => s

/-- CONSISTENCY_CHECK_END: the attempt fails, was ended by a trip cause, or OPERATE is due at the next tick boundary. A trip cause ends
the attempt; the check still runs to its end, and only then is the command answered (log entry 76). A check that passes leaves
ConsistencyFault at 0, for none (log entry 77). -/
def checkEnd (s : State) : State :=
  match s.check with
  | none => s
  | some c =>
    if s.operateDue then s
    else if c.ended then checkFails s c 0x00030005
    else if c.verdict ≠ 0 then
      let s := checkFails (s.put Ob.opConsistencyFault c.verdict) c 0x00050006
      if c.asker.isNone then raise s 212 c.verdict else s
    else { (s.put Ob.opConsistencyFault 0) with operateDue := true }

/-- Field output channels that nothing drives take the value applied (R444). -/
def holdUndriven (s : State) : State :=
  let fr := appliedFrame s
  (chansOfType s 2).foldl (fun s n =>
    if drivenByLoop s n || drivenElse s n then s
    else
      let b := chanBind s n
      let i := bindInst b
      let raw : Option Nat :=
        if bindPoint b ≠ 0 then none else
        match bindClass b with
        | 0x01 => (fr.io[i]?).map (fun v => if v then 0x3F800000 else 0)
        | 0x03 => fr.ao[i]?
        | 0x05 => fr.fn[i]?
        | _ => none
      match raw with
      | none => s
      | some r => writeChan s n (scaled s n (FX.ofBits32 r)) (setBit (s.ob (Ob.chanStatus n)) 0 true) s.wc) s

/-- OPERATE is entered (R73, R78, R389, R444, R493). -/
def enterOperate (s : State) (cause : Nat) : State :=
  let s := if s.inPreop then s.putBit Ob.faultFaultStatus 3 false else s
  let s := setOpState (latchTrips (leavePreop s)) 2 cause
  startLoops (holdUndriven s)

/-- At a tick boundary, OPERATE that is due is entered, unless a trip cause came first. -/
def operateNow (s : State) : State :=
  if !s.operateDue then s
  else match s.check with
    | none => { s with operateDue := false }
    | some c =>
      if c.ended then checkFails s c 0x00030005
      else
        let s := enterOperate { s with check := none, operateDue := false } (if c.asker.isSome then 1 else 2)
        match c.asker with
        | some w => answerWrite (recordWrite s w []) w none
        | none => s

end Sys2Proof.Machine
end

