-- ==== Sys2Proof/Machine/Faults.lean ====
section
/-! DEFINITION. Lockstep pairs, memory errors and faults beyond masking (R480–R488), scrubbing, failed engines and the ENC24 switches. -/
namespace Sys2Proof.Machine

def setPairs (s : State) (g : PairSt → PairSt) : State := { s with pairs := g s.pairs }

/-! ### Lockstep pairs (R483, R487, R488) -/

/-- What the management and the application cores execute is there (R440): the boot ROM on the management cores from 15 ms of BOOT on, the
application firmware, with the parcel engines' microcode, from 3,800 ms. -/
def pairUp (s : State) (p : Pair) : Bool :=
  match s.phase with
  | .run => true
  | .boot k => decide ((match p with | .app => 8 | .mgmt => 1) ≤ k)
  | _ => false

/-- A reset of cause 4, an internal fault beyond masking that counts as one (R487, R488): a checkpoint while a parcel engine works, and the
journal, once its KIND 5 record is formed, unless the management pair is the one that fails. -/
def internalReset (s : State) (p : Pair) : State :=
  let s := s.inc Ob.faultGuaranteeBreaks
  let s := if pairUp s .app = false ∨ s.ob Ob.modelEnginesWorking = 0 then s else ckptWhole s
  let s := match p with
    | .app => if kind5Formed s then flushJournal s else s
    | .mgmt => s
  resetNow (saveCounters s) 4 s.straps []

/-- The oscillator times of the restarts within the last 600 s, with the present one. -/
def recentRestarts (s : State) (l : List Nat) : List Nat := s.osc :: l.filter (fun t => decide (s.osc < t + 600000000))

/-- A pair restarts (R29, R30, R483): the third time within 600 s it is a reset. What the Worust server held in progress ends with
the application cores. -/
def pairRestart (s : State) (p : Pair) : State :=
  match p with
  | .app =>
    let l := recentRestarts s s.pairs.appRestarts
    let s := setPairs s (fun x => { x with appRetry := false, appRestarts := l, appDownAt := s.osc })
    if 3 ≤ l.length then internalReset s .app
    else { (if s.phase = .run then seqTime s else s) with
      appDown := true
      net := { s.net with inProgress := [], served := [], xfers := [] }
      storeQ := s.storeQ.map (fun w => { w with answer := false }) }
  | .mgmt =>
    let l := recentRestarts s s.pairs.mgmtRestarts
    let s := setPairs s (fun x => { x with mgmtRetry := false, mgmtRestarts := l, mgmtDownAt := s.osc })
    if 3 ≤ l.length then internalReset s .mgmt else { s with mgmtDown := true }

def pairDown (s : State) (p : Pair) : Bool := match p with | .app => s.appDown | .mgmt => s.mgmtDown
def pairRetry (s : State) (p : Pair) : Bool := match p with | .app => s.pairs.appRetry | .mgmt => s.pairs.mgmtRetry

/-- LOCKSTEP_MISMATCH: the pair goes back to its checkpoint; a second mismatch before the next one restarts it. `checkpointed`: a
checkpoint was completed since the last mismatch. In BOOT it is the same, and BOOT goes on meanwhile (DESIGN CHOICE, log entry 106). -/
def lockstep (s : State) (p : Pair) (checkpointed : Bool) : State :=
  if pairUp s p = false ∨ pairDown s p = true then s
  else
    let s := maskedFault s 0 60
    if pairRetry s p && !checkpointed then pairRestart s p
    else match p with
      | .app => setPairs (s.inc Ob.faultAppLockstepRetries) (fun x => { x with appRetry := true })
      | .mgmt => setPairs (s.inc Ob.faultMgmtLockstepRetries) (fun x => { x with mgmtRetry := true })

/-- PAIR_RESTART_DONE: the pair runs again; a commit that the restart met has failed (R452), and the
sequencer's clock leaves the restart out (R275). -/
def pairDone (s : State) (p : Pair) : State :=
  if railsUp s = false ∨ pairDown s p = false then s
  else match p with
    | .app =>
      let s := setSeq ({ s with appDown := false }.inc Ob.faultAppPairRestarts) (fun q => { q with lastWc := s.wc, gap := true })
      (List.finRange 4).foldl (fun s (n : Fin 4) => feedBus s n) s
    | .mgmt =>
      let s := abandonCommit s 3
      { s with mgmtDown := false }.inc Ob.faultMgmtPairRestarts

/-! ### Memory errors (R484–R486) -/

/-- A loop whose context or bank is lost is held until it starts afresh. -/
def loopLost (s : State) (n : Nat) : State :=
  match loopOf s n with
  | none => s
  | some l =>
    let s := { s with service := s.service.filter (fun v => v.loop != n), queue := s.queue.filter (fun q => q.loop != n) }
    let s := raise (setLoop s { sampleGone l with errHold := true }) 7 n
    if l.leaving then leaveNow s l else s

/-- An entry is rebuilt from its objects and armed anew: a target that has been reached is advanced, its firings counted as missed. A burst
output of it stays what it is until then (R115). -/
def entryLost (s : State) (e : Nat) : State :=
  if s.flag (Ob.entryEnable e) then setEntry s e { entryDyn s e with arming := true, acc := 0 } else s

/-- A channel entry is rebuilt from its stored objects; reads abort until its next write. -/
def channelLost (s : State) (n : Nat) : State :=
  let s := s.puts [(Ob.chanValue n, 0), (Ob.chanTimestamp n, 0), (Ob.chanStatus n, 0)]
  { s with badChans := n :: s.badChans.filter (fun m => m != n), cache := s.cache.filter (fun m => m != n || s.pinned.contains m) }

/-- The ledger's identity no longer holds (R146). -/
def unbalanced (s : State) : State :=
  let was := s.stBit Ob.ledgerLedgerStatus 0
  let s := (s.putBit Ob.ledgerLedgerStatus 0 false).putBit Ob.ledgerLedgerStatus 1 true
  if was then raise s 43 0 else s

/-- RECORDLOST (R487), with the lapse of condition S (R489). -/
def recordLost (s : State) : State := beyondMasking (guaranteeLapse s) 3

def countLost (s : State) (dm w : Nat) : State :=
  let s := s.inc Ob.faultLostParcels
  (s.put Ob.faultLostDryMatter (wrap 64 (s.ob Ob.faultLostDryMatter + dm))).put Ob.faultLostWater
    (wrap 64 (s.ob Ob.faultLostWater + w))

/-- A parcel record that cannot be read leaves the ledger (R485). A free entry holds nothing to remove, but is part of the table that condition
S names (R489). -/
def parcelLost (s : State) (e : Nat) : State :=
  if (assoc s.plant.parcels e).isNone then guaranteeLapse s
  else
    let s := freeParcel s e
    let rest := s.plant.parcels
    let dm := s.ob Ob.ledgerDryInProcess - sumBy rest (fun c => c.2.dm)
    let w := s.ob Ob.ledgerWaterInProcess - sumBy rest (fun c => c.2.w)
    let differ := (List.range 16).filter (fun p =>
      s.ob (Ob.pathAcctDryOnPath p) != sumBy (rest.filter (fun c => c.2.path == p)) (fun c => c.2.dm))
    let s := if 1 < differ.length then unbalanced s
      else
        let onPath : List (Nat × Int) := match differ.head? with
          | some p => [(Ob.pathAcctDryOnPath p, -(dm : Int)), (Ob.pathAcctDryExited p, (dm : Int))]
          | none => []
        countLost (post s (onPath ++ [(Ob.ledgerDryInProcess, -(dm : Int)), (Ob.ledgerDryAdjustOut, (dm : Int)),
          (Ob.ledgerWaterInProcess, -(w : Int)), (Ob.ledgerWaterAdjustOut, (w : Int))])) dm w
    recordLost s

/-- A bin layer that cannot be read leaves the ledger (R485); an unused place lapses condition S alone (R489). -/
def layerLost (s : State) (b i : Nat) : State :=
  if (layersOf s b)[i]?.isNone then guaranteeLapse s
  else
    let s := setLayers s b ((layersOf s b).eraseIdx i)
    let dm := s.ob Ob.ledgerDryInBins - sumBy (List.range 64) (binDry s)
    let w := s.ob Ob.ledgerWaterInBins - sumBy (List.range 64) (binWater s)
    let differ := (List.range 64).filter (fun j => s.ob (Ob.binDryMass j) != wrap 64 (binDry s j))
    let s := if 1 < differ.length then unbalanced s
      else
        countLost (post (differ.foldl showBin s) [(Ob.ledgerDryInBins, -(dm : Int)), (Ob.ledgerDryAdjustOut, (dm : Int)),
          (Ob.ledgerWaterInBins, -(w : Int)), (Ob.ledgerWaterAdjustOut, (w : Int))]) dm w
    recordLost s

/-- The accounts of an identity, by subindex − 1: those that come in, and those they went to. -/
def dryIdentity : List Nat × List Nat := ([0, 1], [2, 3, 4, 5])
def waterIdentity : List Nat × List Nat := ([6, 7], [8, 9, 10, 11, 12])

/-- The one unreadable account `k` of an identity is rebuilt; WaterEvaporated alone is signed (R145). -/
def rebuildAccount (s : State) (ident : List Nat × List Nat) (k : Nat) : State :=
  let acc (j : Nat) : Int := if j = 12 then toSigned 64 (s.ob Ob.ledgerWaterEvaporated) else s.ob (key 0x4000 (j + 1))
  let total (l : List Nat) : Int := (l.filter (fun j => j != k)).foldl (fun (n : Int) j => n + acc j) 0
  let solved : Int := if ident.1.contains k then total ident.2 - total ident.1 else total ident.1 - total ident.2
  let v : Nat :=
    if k = 2 then sumBy s.plant.parcels (fun c => c.2.dm)
    else if k = 8 then sumBy s.plant.parcels (fun c => c.2.w)
    else if k = 3 then sumBy (List.range 64) (binDry s)
    else if k = 9 then sumBy (List.range 64) (binWater s)
    else if k = 12 then ofSigned 64 (s.fitS 64 solved)
    else s.fitU 64 solved
  (s.put (key 0x4000 (k + 1)) (v % 2 ^ 64)).tickFree

/-- Unreadable accounts of one identity (R486). What cannot be rebuilt holds an open value. -/
def identityLost (s : State) (lost : List Nat) (ident : List Nat × List Nat) : State :=
  match (ident.1 ++ ident.2).filter (fun k => lost.contains k) with
  | [] => s
  | [k] => rebuildAccount s ident k
  | ks =>
    let s := ks.foldl (fun s k => (s.put (key 0x4000 (k + 1)) (Config.freeValue s.fresh % 2 ^ 64)).tickFree) s
    beyondMasking (s.putBit Ob.ledgerLedgerStatus 1 true) 3

def accountsLost (s : State) (l : List (Fin 13)) : State :=
  if l.isEmpty then s
  else
    let lost := l.map (fun (k : Fin 13) => k.val)
    guaranteeLapse (identityLost (identityLost s lost dryIdentity) lost waterIdentity)

/-- A checkpoint that cannot be read is not valid (R151), and condition S lapses (R489), for an empty slot of the area too. -/
def checkpointUnread (s : State) (k : Nat) : State :=
  match s.nand.ckpts[k]? with
  | none => guaranteeLapse s
  | some c => guaranteeLapse { s with nand := s.nand.keep { s.nand.areas with ckpts := s.nand.ckpts.set k { c with digest := [] } } }

/-- An error in what a pair runs from restarts it (R483, R484), in BOOT too before it runs; a pair that restarts already goes on with it. -/
def pairLost (s : State) (p : Pair) : State := if pairDown s p then s else pairRestart s p

/-- UNCORRECTABLE_ERROR, by the content it falls in, from the start of BOOT on. -/
def uncorrectable (s : State) (m : MemContent) : State :=
  if railsUp s = false then s
  else
    let s := s.inc Ob.faultUncorrectable
    match m with
    | .loopContext n => loopLost s n
    | .regionBank n => loopLost s n
    | .schedEntry e => entryLost s e
    | .channel n => channelLost s n
    | .parcel e => parcelLost s e
    | .layer b i => layerLost s b i
    | .accounts l => accountsLost s l
    | .runImage p => pairLost s p
    | .archive q => { s with badArchive := q :: s.badArchive.filter (fun x => x != q) }
    | .coreMemory p => pairLost s p
    | .checkpoint k => checkpointUnread s k

/-! ### Faults beyond masking (R487) -/

/-- A fault beyond masking is found; one that stands is not counted again. -/
def faultFound (s : State) (b : Nat) : State := if s.stBit Ob.faultFaultStatus b then s else beyondMasking s b

/-- A fault of R487 is found: one that its own step has reported is not counted again. -/
def internalFault (s : State) (k : InternalKind) : State :=
  let fault (b : Nat) : State := faultFound s b
  if s.phase ≠ .run then s
  else match k with
    | .noLoopEngine => fault 0
    | .noParcelEngine => fault 1
    | .link => fault 2
    | .recordLost => fault 3
    | .restartOverrun p =>
      let since := match p with | .app => s.pairs.appDownAt | .mgmt => s.pairs.mgmtDownAt
      if pairDown s p && decide (since + 5000000 ≤ s.osc) then internalReset s p else s

/-! ### Masked faults and their counts (R480, R482, R493) -/

/-- A parcel engine fails, from the load of its microcode on (R440; DESIGN CHOICE, log entry 106): its uncommitted updates return to the pool (R125, R183). -/
def parcelEngineFails (s : State) : State :=
  let n := s.ob Ob.modelEnginesWorking
  if pairUp s .app = false ∨ n = 0 then s
  else
    let s := maskedFault ((s.put Ob.modelEnginesWorking (n - 1)).inc Ob.faultParcelEngineFaults) 0 50
    if n = 1 then beyondMasking s 1 else s

/-- Corrected errors, found by scrubbing and at reads. -/
def scrubbed (s : State) (sram dram nand : Nat) : State :=
  if railsUp s then
    let s := if sram + dram + nand = 0 then s else maskedFault s 0 0
    ((s.incBy Ob.faultSramCorrected sram).incBy Ob.faultDramCorrected dram).incBy Ob.faultNandCorrected nand
  else s

/-- COUNTER_SAVE: every 60 s; while the management cores restart it waits. -/
def counterSave (s : State) : State :=
  if s.phase = .run ∧ s.mgmtDown = false ∧ s.due .counterSave 60000000 = true then (saveCounters s).ran .counterSave 60000000 else s

/-! ### ENC24 (R506) -/

/-- A pin has been in limit for 10 ms: it switches off. Where a retry found the overload still there, the second of the next one counts from
that retry, so that the pin is on for 10 ms once every 1 s: a limit within 20 ms of the retry is taken for its overload, and the time 0 for no retry
(DESIGN CHOICE, log entry 105). -/
def encLimit (s : State) (k : Fin 8) : State :=
  let x := s.enc[k]
  let retry := x.offAt != 0 && decide (s.osc < x.offAt + 20000)
  { s with enc := s.enc.set k ⟨true, if retry then x.offAt else s.osc⟩ }

def encRetryDue (s : State) (k : Fin 8) : Bool := s.enc[k].off && decide (s.enc[k].offAt + 1000000 ≤ s.osc)

def encRetry (s : State) (k : Fin 8) : State := { s with enc := s.enc.set k ⟨false, s.osc⟩ }

end Sys2Proof.Machine
end

