-- ==== Sys2Proof/Machine/Read.lean ====
section
/-! DEFINITION. Reading an object (R44, R45, R50, R59, R64, R82, R484): what each subindex returns, whole and at one instant, or the abort. Most
objects return their working value; the others follow the state of their block. -/
namespace Sys2Proof.Machine

/-- Whether an index is one of `count` from `base` on. -/
def inBlk (idx base count : Nat) : Bool := decide (base ≤ idx ∧ idx < base + count)

/-- The credits of a pool that are free: 2,048 less those out now, and not less the limits configured, which R117 and R122 leave open (DESIGN
CHOICE, log entry 97). -/
def creditsFree (used : Nat) : Nat := 2048 - used

/-! ### Numbers that follow the state -/

/-- Identity, loops and captures (0x1000–0x3FFF). -/
def numLow (s : State) (idx sub : Nat) : Option Nat :=
  if idx = 0x1001 then
    (match sub with | 1 => some (imageVersion s false) | 2 => some (imageVersion s true) | _ => none)
  else if inBlk idx 0x2000 4096 then
    let n := idx - 0x2000
    (match sub with
     | 1 => if chanType s n = 0 then some 0 else none
     | 3 => some (chanStatus s n)
     | _ => none)
  else if inBlk idx 0x3000 512 then
    let n := idx - 0x3000
    (match sub with
     | 0x02 => (loopOf s n).map (modeOf s)
     | 0x38 => some (loopStatusRead s n)
     | 0x41 => some (triggerEntry s n)
     | _ => none)
  else if inBlk idx 0x3200 512 then
    let n := idx - 0x3200
    (match sub with | 0x08 => some (profileStatusRead s n) | 0x17 => some (regionStatusRead s n) | _ => none)
  else if idx = 0x3460 ∧ sub = 4 then some (freeBuffers s).length
  else none

/-- The archive's oldest and newest sequence number, 0 while it is empty (R150). -/
def archiveOldest (s : State) : Nat := ((archiveAll s).head?.map (fun r => r.1)).getD 0
def archiveNewest (s : State) : Nat := ((archiveAll s).getLast?.map (fun r => r.1)).getD 0

/-- Paths, bins, archive, windows, model and cells (0x4000–0x4FFF). -/
def numPlant (s : State) (idx sub : Nat) : Option Nat :=
  if idx = 0x4001 ∧ sub = 1 then some s.plant.parcels.length
  else if inBlk idx 0x4010 16 then
    let p := idx - 0x4010
    (match sub with
     | 0x0F => some (pathStatusRead s p)
     | 0x10 => some (parcelCount s p)
     | 0x11 => some (effectiveVolume s p).toBits32
     | _ => none)
  else if inBlk idx 0x4040 64 then
    let b := idx - 0x4040
    (match sub with
     | 6 => some (FX.ratio (binVolume s b) 100).toBits32
     | 7 => some (wbOf (binDry s b) (binWater s b)).toBits32
     | 8 => some (layersOf s b).length
     | 9 => some (binStatus s b)
     | _ => none)
  else if idx = 0x4090 then (match sub with | 1 => some (archiveOldest s) | 2 => some (archiveNewest s) | _ => none)
  else if inBlk idx 0x4100 8 && (sub = 5 || decide (7 ≤ sub ∧ sub ≤ 0x0C)) then some (winNum s (idx - 0x4100) sub)
  else if idx = 0x4200 then
    (match sub with
     | 7 => some (FX.ofNat (updatesPerSecond s)).toBits32
     | 0x0B => some (modelLoad s)
     | 0x0C => some (ofBool (stepHalved s))
     | _ => none)
  else if inBlk idx 0x4210 64 && sub = 0x10 then some (zoneStatusRead s (idx - 0x4210))
  else if idx = 0x4280 ∧ 6 ≤ sub then some (evalRead s sub)
  else if inBlk idx 0x4290 16 && sub = 0x0C then some (modelStatusRead s (idx - 0x4290))
  else if inBlk idx 0x4310 4 then
    (match sub with
     | 0x0D => some (cellStatusRead s (Fin.ofNat 4 (idx - 0x4310)))
     | 0x12 => some (calStatus s (idx - 0x4310))
     | 0x13 => some (effectiveLength s (idx - 0x4310))
     | _ => none)
  else none

/-- Schedule entries, clocks and field interfaces (0x5000–0x6FFF). -/
def numField (s : State) (idx sub : Nat) : Option Nat :=
  if inBlk idx 0x5000 1024 && sub = 8 then some (entryStatusRead s (idx - 0x5000))
  else if inBlk idx 0x5400 8 && (sub = 7 || decide (0x0B ≤ sub)) then
    some (if sub = 0x0B then gcStatus s (idx - 0x5400) else s.ob (key idx sub))
  else if idx = 0x5410 then (match sub with | 3 => some (mpPos s % 1024) | 4 => some (mpPos s) | _ => none)
  else if idx = 0x5420 ∧ sub = 1 then some s.wc
  else if inBlk idx 0x6000 4 && sub = 6 then some (groupCurrent s (idx - 0x6000))
  else if inBlk idx 0x6010 32 && sub = 0x0C then some (pinStatus s (Fin.ofNat 32 (idx - 0x6010)))
  else if inBlk idx 0x6110 16 && sub = 7 then some (aiStatus s (idx - 0x6110))
  else if inBlk idx 0x6130 8 && sub = 8 then some (aoStatus s (idx - 0x6130))
  else if inBlk idx 0x6140 8 && sub = 8 then some (rtStatus s (idx - 0x6140))
  else if inBlk idx 0x6210 8 && sub = 0x13 then some (fanStatus s (idx - 0x6210))
  else if idx = 0x6300 ∧ sub = 1 then some (ofBool (roundsRun s))
  else if inBlk idx 0x6310 4 then
    (match sub with
     | 0x1D => some (dryerStepTime s (idx - 0x6310))
     | 0x1E => some (dryerStatusRead s (idx - 0x6310))
     | _ => none)
  else if inBlk idx 0x6320 32 && sub = 0x0D then some (pulseRateRead s (idx - 0x6320))
  else if inBlk idx 0x6380 64 && sub = 0x12 then some (aerStatusRead s (idx - 0x6380))
  else none

/-- Buses, IP, journal, security and router (0x7000 on). -/
def numHigh (s : State) (idx sub : Nat) : Option Nat :=
  if inBlk idx 0x7000 4 then
    (match sub with
     | 0x09 => some (busStatusRead s (Fin.ofNat 4 (idx - 0x7000)))
     | 0x0C => some (recoveryProgress s (Fin.ofNat 4 (idx - 0x7000)))
     | _ => none)
  else if inBlk idx 0x7010 4 then
    (match sub with | 0x0C => some (nomBitRate s (idx - 0x7010)) | 0x0D => some (dataBitRate s (idx - 0x7010)) | _ => none)
  else if inBlk idx 0x7040 4 then
    let n : Fin 4 := Fin.ofNat 4 (idx - 0x7040)
    (match sub with
     | 1 => some (rawOldest s n)
     | 2 => some (rawNewest s n)
     | 8 => some s.bus[n].rxq.length
     | _ => none)
  else if idx = 0x7118 ∧ sub = 8 then some (leaseRemaining s)
  else if idx = 0x8000 ∧ sub = 9 then some (thermalStatusRead s)
  else if idx = 0x9020 then
    (match sub with
     | 1 => some (journalOldest s)
     | 2 => some (journalNewest s)
     | 8 => some (stagedRecords s)
     | 9 => some (journalStatusRead s)
     | _ => none)
  else if idx = 0xA000 then
    (match sub with
     | 1 => some s.nand.rollback
     | 2 => some (keySlotsRead s)
     | 3 => some (bootRecordRead s)
     | 4 => some s.nand.eraseCount
     | _ => none)
  else if idx = 0xF000 then
    (match sub with
     | 3 => some (creditsFree s.router.cores.length)
     | 4 => some (creditsFree 0)
     | 5 => some (creditsFree (s.staging.staged.filter (fun r => r.event)).length)
     | _ => none)
  else none

/-- A number that follows the state, where the object is one of those. -/
def derivedNum (s : State) (idx sub : Nat) : Option Nat :=
  if idx < 0x4000 then numLow s idx sub
  else if idx < 0x5000 then numPlant s idx sub
  else if idx < 0x7000 then numField s idx sub
  else numHigh s idx sub

/-! ### Byte data that follows the state -/

/-- A record of the archive that cannot be read (R484): its error came before a copy of it was written to NAND. -/
def archiveBad (s : State) (q : Nat) : Bool :=
  (archiveAll s).any (fun r => r.1 == q && r.2.isEmpty) || (s.badArchive.contains q && s.plant.archivePend.any (fun r => r.1 == q))

/-- Record and Block of the archive (R150): `n` records from Select on, those beyond the newest zero, or the abort. -/
def archiveRead (s : State) (n : Nat) : Except Nat (List Byte) :=
  let q := s.ob Ob.archiveSelect
  if q = 0 ∨ q < archiveOldest s then .error 0x00050002
  else if archiveNewest s < q then .error 0x00050001
  else if (List.range n).any (fun i => archiveBad s (q + i)) then .error 0x00070002
  else
    let all := archiveAll s
    .ok ((List.range n).flatMap (fun i => slice (((all.find? (fun r => r.1 == q + i)).map (fun r => r.2)).getD []) 0 64))

/-- The capture window: nothing to read where the definition holds no buffer (R264). -/
def captureRead (s : State) : Except Nat (List Byte) :=
  if s.ob (Ob.injBuffer (s.ob Ob.captureSelect)) = 0xFF then .error 0x00030002 else .ok (captureBlock s)

/-- A STR or DOMAIN object. -/
def readBytes (s : State) (idx sub : Nat) (ty : Ty) : Except Nat (List Byte) :=
  if inBlk idx 0x3000 512 && sub = 0x42 then .ok (contextImage s (idx - 0x3000))
  else if idx = 0x3460 ∧ sub = 3 then captureRead s
  else if inBlk idx 0x3468 8 && sub = 0x0A then .ok (traceBuffer s (Fin.ofNat 8 (idx - 0x3468)))
  else if idx = 0x4090 then archiveRead s (if sub = 4 then 1 else 64)
  else if inBlk idx 0x4100 8 then .ok (winBytes s (idx - 0x4100))
  else if inBlk idx 0x7040 4 then rawFrameRead s (Fin.ofNat 4 (idx - 0x7040))
  else if idx = 0x9020 then
    (match sub with
     | 4 => journalRead s 1
     | 5 => journalRead s 32
     | 6 => .ok s.nand.anchor
     | _ => .ok (headHash s))
  else .ok (carried s idx sub ty)

/-! ### A read -/

/-- Channel entries that cannot be read until they are written again (R484): Value, Timestamp and Status. -/
def entryBad (s : State) (idx sub : Nat) : Bool := inBlk idx 0x2000 4096 && decide (1 ≤ sub ∧ sub ≤ 3) && s.badChans.contains (idx - 0x2000)

/-- What an object reads: its type code and its value as carried on the interface, or the abort (R44, R45, R50, R82). -/
def readOb (s : State) (idx sub : Nat) : Except Nat (Nat × List Byte) :=
  match findBlock idx with
  | none => .error 0x00010001
  | some b =>
    if sub = 0 then (if s.mgmtDown && mgmtRange idx then .error 0x00030003 else .ok (1, bytesLE 1 b.highest)) else
    match findRow idx sub with
    | none => .error 0x00010001
    | some r =>
      if r.acc = .wo then .error 0x00010002
      else if s.mgmtDown && mgmtRange idx then .error 0x00030003
      else if entryBad s idx sub then .error 0x00070002
      else if r.ty = .str ∨ r.ty = .domain then (readBytes s idx sub r.ty).map (fun v => (tyCode r.ty, v))
      else match derivedNum s idx sub with
        | some v => .ok (tyCode r.ty, bytesLE (tySize r.ty) v)
        | none => .ok (tyCode r.ty, carried s idx sub r.ty)

/-- The present value of an object, as a write's record gives it (R459): what a read shows, nothing for an object that has none to
show. -/
def oldBytes (s : State) (idx sub : Nat) : List Byte :=
  if sub = 0 then (match findBlock idx with | some b => [BitVec.ofNat 8 b.highest] | none => [])
  else match findRow idx sub with
    | none => []
    | some r =>
      if r.acc = .wo then []
      else if r.ty = .str ∨ r.ty = .domain then (match readBytes s idx sub r.ty with | .ok v => v | .error _ => [])
      else match derivedNum s idx sub with
        | some v => bytesLE (tySize r.ty) v
        | none => carried s idx sub r.ty

/-- A read that aborts is kept in the abort objects (R56). -/
def noteRead (s : State) (iface idx sub : Nat) (r : Except Nat (Nat × List Byte)) : State :=
  match r with
  | .ok _ => s
  | .error c => noteAbort s iface idx sub c

end Sys2Proof.Machine
end

