-- ==== Sys2Proof/Machine/ObjectWrite.lean ====
section
/-! DEFINITION. What a write of each object meets and does beside the checks of every write (R52, R53): its own aborts, its effect, the revert
of the configuration (R453), and one entry point for a write of any object. -/
namespace Sys2Proof.Machine

/-! ### Channels (R65–R70) -/

/-- A Value written: the engineering figure, its time, VALID (R65, R67, R68). -/
def valueEff (n w : Nat) (s : State) : State := writeChan s n w (setBit (s.ob (Ob.chanStatus n)) 0 true) s.wc

/-- A channel's source is another one: what the old one gave is gone. -/
def dropSource (s : State) (n : Nat) : State := { s with sources := s.sources.filter (fun l => l.chan != n) }

/-- A channel takes a type; under another one its bits begin at 0, and Unused reads 0.0 (R66, R68). -/
def typeEff (n v : Nat) (s : State) : State :=
  if chanType s n = v then s
  else
    let s := (s.put (Ob.chanChannelType n) v).put (Ob.chanStatus n) 0
    let s := if v = 0 then s.put (Ob.chanValue n) 0 else s
    dropSource s n

/-- A channel takes another source (R70). -/
def bindingEff (n v : Nat) (s : State) : State :=
  if chanBind s n = v then s else dropSource (s.put (Ob.chanSourceBinding n) v) n

/-- Type and binding in force must match (R70). -/
def typeCodes (s : State) (n v : Nat) : List Nat := if bindMatches (chanBind s n) v then [] else [0x00050006]
def bindingCodes (s : State) (n b : Nat) : List Nat :=
  bindCodes s b ++ (if bindMatches b (chanType s n) then [] else [0x00050006])

/-- The objects whose writes a running dryer refuses (R273). -/
def dryerCodesOf (s : State) (idx sub : Nat) : List Nat := if (dryerOwned s).contains (key idx sub) then [0x00030002] else []

/-! ### Loops and tests -/

/-- Mode (R229). -/
def modeCodes (s : State) (n v : Nat) : List Nat :=
  if v = 1 ∧ s.ob (Ob.loopManualChannel n) = 0xFFFF then [0x00050006] else []

/-- Active (R207, R209). -/
def activeEff (n v : Nat) (s : State) : State := if v = 1 then loopActivateEff n s else loopDeactivateEff n s
def activeCodes (s : State) (n v : Nat) : List Nat := if v = 1 then loopActivateCodes s n else []

/-- Fields of a test that runs (R259). -/
def injFieldCodes (s : State) (d : Nat) : List Nat := if injBusy s d then [0x00030002] else []

/-- Trace command 1 acts in State 2 and 3, command 2 in State 1 (R266); elsewhere they do nothing. -/
def traceActs (s : State) (t : Fin 8) (v : Nat) : Bool :=
  let st := s.ob (Ob.traceState t)
  if v = 1 then st == 2 || st == 3 else st == 1
def traceCommandEff (t : Fin 8) (v : Nat) (s : State) : State := if traceActs s t v then traceCmdEff t v s else s

/-! ### The plant -/

/-- A path's Enable (R130, R158): allocation of its entries, or their return. -/
def pathEnableCodes (s : State) (p v : Nat) : List Nat :=
  if v = 1 then (if !s.flag (Ob.pathEnable p) && decide ((freeEntries s).length < entriesNeeded s p) then [0x00040002] else [])
  else (if 0 < parcelCount s p then [0x00050006] else [])
def pathEnableEff (p v : Nat) (s : State) : State :=
  if s.ob (Ob.pathEnable p) = v then s
  else if v = 1 then syncStepClock (allocPath (s.put (Ob.pathEnable p) 1) p true) p
  else syncStepClock ((releasePath s p).put (Ob.pathEnable p) 0) p

/-- A command that would change parcels or layers while the engines accept no update (R153, log entry 89). -/
def stillCodes (s : State) : List Nat := if ledgerStill s then [0x00030002] else []

def purgeCodes (s : State) : List Nat := (if s.inOperate then [0x00030002] else []) ++ stillCodes s
def binEnableCodes (s : State) (b v : Nat) : List Nat := if v = 0 && !(layersOf s b).isEmpty then [0x00050006] else []

/-- AdjustCommand (R147). -/
def adjustCodes (s : State) (b v : Nat) : List Nat :=
  stillCodes s ++ match v with
  | 1 => if s.ob (Ob.binAdjustDry b) = 0 then [0x00050002] else []
  | 2 => if binDry s b < s.ob (Ob.binAdjustDry b) then [0x00050001] else []
  | _ => []
def adjustEff (b v : Nat) (s : State) : State :=
  match v with
  | 1 => adjustAdd s b
  | 2 => adjustRemove s b
  | _ => adjustEmpty s b

def ledgerResetCodes (s : State) : List Nat := (if s.inPreop && noGrain s then [] else [0x00030002]) ++ stillCodes s

/-- ModelEnable: every path's step clock follows (R158). -/
def modelEnableEff (v : Nat) (s : State) : State :=
  (List.range 16).foldl syncStepClock (s.put Ob.modelModelEnable v)

/-- EvalHumidity under EvalKind (R182). -/
def evalHumidityCodes (s : State) (w : Nat) : List Nat :=
  let x := FX.ofBits32 w
  let lim : FX × FX := match s.ob Ob.evalEvalKind with
    | 0 => (FX.zero, FX.one)
    | 1 => (FX.neg (FX.ofNat 40), FX.ofNat 200)
    | _ => (FX.zero, FX.ofNat 10)
  (if FX.lt x lim.1 then [0x00050002] else []) ++ (if FX.gt x lim.2 then [0x00050001] else [])

/-- CalCommand (R193). -/
def calEff (c : Fin 4) (v : Nat) (s : State) : State :=
  match v with
  | 1 => calStart 1 c s
  | 2 => calStart 2 c s
  | 3 => calAccept c s
  | _ => calDiscard c s

/-! ### Field interfaces -/

/-- Direction, PowerUpValue and SafeState go into the field die's copy (R372). -/
def safeObjectEff (k v : Nat) (s : State) : State := writeSafeCopy (s.put k v)

/-- A detection that is switched off shows nothing any more (R362, R366); of a broken wire that is a cause of its own (R376). -/
def detectEff (i : Fin 32) (k b v : Nat) (s : State) : State :=
  let s := s.put k v
  if v ≠ 0 then s else if b = 3 then clearBreak s i else setPinBit s i b false

/-! ### Buses and Ethernet -/

/-- A bus channel's Enable (R300). -/
def busEnableWriteEff (n : Fin 4) (v : Nat) (s : State) : State := if v = 1 then busEnableEff n s else busDisableEff n s

/-- RawTxCancel (R312). -/
def rawCancelEff (n : Fin 4) (s : State) : State := cancelBuf s n 2

/-- A port's Enable and LinkMode: a link that is no longer admitted goes down (R350). -/
def ethEnableEff (e v : Nat) (s : State) : State :=
  let s := s.put (Ob.ethEnable e) v
  if v = 0 then linkTakes s e 0 else s
def ethModeEff (e v : Nat) (s : State) : State :=
  let s := s.put (Ob.ethLinkMode e) v
  if linkAdmits v (s.ob (Ob.ethLinkStatus e)) then s else linkTakes s e 0

/-- A publication that is enabled counts its Period from now (R343). -/
def pubEnableEff (q v : Nat) (s : State) : State :=
  let was := s.flag (Ob.pubEnable q)
  let s := s.put (Ob.pubEnable q) v
  if v = 1 && !was then { s with net := { s.net with pubAt := s.net.pubAt.set q s.osc } } else s

/-! ### Configuration and router -/

/-- ConfigCommand (R451–R453). -/
def configCodes (s : State) (v : Nat) : List Nat :=
  (if commitRuns s then [0x00030004] else []) ++
  (if v = 2 && !(s.inPreop && s.ob Ob.configActiveSlot != 0xFF) then [0x00030002] else [])

/-- The sum of the credit limits of one destination (field `lo` up), with one source's word replaced (R117). -/
def creditSum (s : State) (src w lo : Nat) : Nat :=
  (List.range 256).foldl (fun n i => n + bits (if i = src then w else srcConfig s i) (lo + 7) lo) 0
def creditCodes (s : State) (src w : Nat) : List Nat :=
  if [0, 8, 16].any (fun lo => decide (2048 < creditSum s src w lo)) then [0x00040006] else []

/-! ### The aborts of an object's own -/

def codesLow (s : State) (idx sub v : Nat) (data : List Byte) : List Nat :=
  if inBlk idx 0x2000 4096 then
    (match sub with
     | 1 => dryerCodesOf s idx sub
     | 4 => typeCodes s (idx - 0x2000) v
     | 5 => bindingCodes s (idx - 0x2000) v
     | _ => [])
  else if inBlk idx 0x3000 512 then
    (match sub with
     | 1 => activeCodes s (idx - 0x3000) v
     | 2 => modeCodes s (idx - 0x3000) v ++ dryerCodesOf s idx sub
     | _ => [])
  else if inBlk idx 0x3440 32 then
    (if sub = 0x0D then injCodes s (Fin.ofNat 32 (idx - 0x3440)) v
     else if sub ≤ 0x0C then injFieldCodes s (idx - 0x3440) else [])
  else if idx = 0x1010 ∧ sub = 2 then stateCodes s v
  else if inBlk idx 0x4010 16 then
    (match sub with
     | 0x01 => pathEnableCodes s (idx - 0x4010) v
     | 0x14 => purgeCodes s
     | _ => [])
  else if inBlk idx 0x4040 64 then
    (match sub with
     | 0x01 => binEnableCodes s (idx - 0x4040) v
     | 0x10 => adjustCodes s (idx - 0x4040) v
     | _ => [])
  else if idx = 0x4000 then ledgerResetCodes s
  else if idx = 0x4280 ∧ sub = 2 then evalHumidityCodes s v
  else if inBlk idx 0x4310 4 then
    (match sub with
     | 0x01 => valueCodes s idx sub v
     | 0x10 => calCodes s (idx - 0x4310) v
     | _ => [])
  else if inBlk idx 0x4340 4 then calDataCodes data
  else []

def codesHigh (s : State) (idx sub v : Nat) (data : List Byte) : List Nat :=
  if inBlk idx 0x5000 1024 then
    (match sub with
     | 1 => []
     | 3 => targetCodes s (idx - 0x5000) v
     | _ => ownedCodes s (idx - 0x5000))
  else if idx = 0x5420 ∧ sub = 1 then wcTimeCodes s
  else if inBlk idx 0x6000 4 && sub = 5 then groupResetCodes s (idx - 0x6000)
  else if inBlk idx 0x6130 8 then
    (match sub with
     | 0x0C => trimCodes s (Fin.ofNat 8 (idx - 0x6130)) v
     | 0x0D => trimMeasuredCodes s (idx - 0x6130)
     | _ => [])
  else if inBlk idx 0x6310 4 && sub = 0x1B then dryerCodes s (idx - 0x6310) v
  else if inBlk idx 0x6340 8 && sub = 0x23 then chainCodes s (idx - 0x6340) v
  else if inBlk idx 0x6380 64 then
    (match sub with
     | 0x01 => aerModeCodes s (idx - 0x6380) v
     | 0x10 => aerCodes s (idx - 0x6380)
     | _ => [])
  else if inBlk idx 0x7000 4 then
    (match sub with
     | 0x01 => if v = 1 then busEnableCodes s (idx - 0x7000) else []
     | 0x02 => busModeCodes s v
     | 0x08 => recoveryCodes s (Fin.ofNat 4 (idx - 0x7000))
     | _ => [])
  else if inBlk idx 0x7020 4 then (if sub ≤ 4 then [0x00030002] else [])
  else if inBlk idx 0x7030 4 then (if sub = 1 then rawTxCodes s (Fin.ofNat 4 (idx - 0x7030)) data else [])
  else if idx = 0x8030 then winterCodes s
  else if idx = 0x9000 then configCodes s v
  else if idx = 0x9010 then valueCodes s idx sub v
  else if idx = 0xA010 then (match sub with | 1 => updateCodes s v | 3 => updateBlockCodes s | _ => [])
  else if idx = 0xA020 then (if sub = 1 then eraseArmCodes s else eraseCodes s)
  else if idx = 0xF001 then creditCodes s (sub - 1) v
  else if idx = 0xF002 then creditCodes s (127 + sub) v
  else []

/-- The aborts an object adds to those of every write. -/
def extraOf (s : State) (idx sub : Nat) (data : List Byte) : List Nat :=
  if idx < 0x5000 then codesLow s idx sub (ofBytesLE data) data else codesHigh s idx sub (ofBytesLE data) data

/-! ### The effect of an object's write -/

/-- An object without behaviour of its own takes the value (R53). -/
def plainEff (idx sub : Nat) (data : List Byte) (s : State) : State :=
  match findRow idx sub with
  | none => s
  | some r => putCarried s idx sub r.ty data

def effLow (idx sub : Nat) (data : List Byte) (s : State) : State :=
  let v := ofBytesLE data
  if inBlk idx 0x2000 4096 && sub = 1 then valueEff (idx - 0x2000) v s
  else if inBlk idx 0x2000 4096 && sub = 4 then typeEff (idx - 0x2000) v s
  else if inBlk idx 0x2000 4096 && sub = 5 then bindingEff (idx - 0x2000) v s
  else if inBlk idx 0x3000 512 && sub = 1 then activeEff (idx - 0x3000) v s
  else if inBlk idx 0x3000 512 && sub = 0x37 then coeffApplyEff (idx - 0x3000) s
  else if inBlk idx 0x3200 512 && sub = 1 then profileEnableEff (idx - 0x3200) (v == 1) s
  else if inBlk idx 0x3200 512 && sub = 0x19 then regionApplyEff (idx - 0x3200) v s
  else if inBlk idx 0x3440 32 && sub = 0x0D then injEff (Fin.ofNat 32 (idx - 0x3440)) v s
  else if inBlk idx 0x3468 8 && sub = 2 then traceEnableEff (Fin.ofNat 8 (idx - 0x3468)) (v == 1) s
  else if inBlk idx 0x3468 8 && sub = 6 then traceCommandEff (Fin.ofNat 8 (idx - 0x3468)) v s
  else if idx = 0x1010 ∧ sub = 2 then stateEff v s
  else plainEff idx sub data s

def effPlant (idx sub : Nat) (data : List Byte) (s : State) : State :=
  let v := ofBytesLE data
  if inBlk idx 0x4010 16 && sub = 1 then pathEnableEff (idx - 0x4010) v s
  else if inBlk idx 0x4010 16 && sub = 0x14 then purgePath s (idx - 0x4010)
  else if inBlk idx 0x4040 64 && sub = 0x10 then adjustEff (idx - 0x4040) v s
  else if idx = 0x4000 then ledgerReset s
  else if idx = 0x4200 ∧ sub = 1 then modelEnableEff v s
  else if inBlk idx 0x4210 64 && [1, 2, 6, 7].contains sub then zonePlaceEff (key idx sub) (idx - 0x4210) v s
  else if inBlk idx 0x4290 16 && (sub = 1 || sub = 2) then stepTimingEff (key idx sub) (idx - 0x4290) v s
  else if inBlk idx 0x4310 4 && sub = 0x10 then calEff (Fin.ofNat 4 (idx - 0x4310)) v s
  else if inBlk idx 0x4340 4 then calDataEff (Fin.ofNat 4 (idx - 0x4340)) data s
  else plainEff idx sub data s

def effField (idx sub : Nat) (data : List Byte) (s : State) : State :=
  let v := ofBytesLE data
  if inBlk idx 0x5000 1024 && sub = 1 then entryEnableEff (idx - 0x5000) (v == 1) s
  else if inBlk idx 0x5000 1024 && sub = 3 then entryTargetEff (idx - 0x5000) v s
  else if inBlk idx 0x5400 8 && sub = 1 then gcEnableEff (Fin.ofNat 8 (idx - 0x5400)) (v == 1) s
  else if idx = 0x5410 ∧ sub = 1 then mpEnableEff (v == 1) s
  else if idx = 0x5420 ∧ sub = 1 then wcTimeEff v s
  else if inBlk idx 0x6000 4 && sub = 5 then groupResetEff (idx - 0x6000) s
  else if inBlk idx 0x6010 32 then
    let i : Fin 32 := Fin.ofNat 32 (idx - 0x6010)
    (match sub with
     | 0x01 => safeObjectEff (key idx sub) v s
     | 0x03 => filterTimeEff (idx - 0x6010) v s
     | 0x08 => safeObjectEff (key idx sub) v s
     | 0x09 => safeObjectEff (key idx sub) v s
     | 0x04 => detectEff i (key idx sub) 3 v s
     | 0x0B => detectEff i (key idx sub) 7 v s
     | 0x11 => clearLatch s i
     | _ => plainEff idx sub data s)
  else if (inBlk idx 0x6110 16 || inBlk idx 0x6140 8 || inBlk idx 0x6210 8) && s.ob (key idx sub) = v then plainEff idx sub data s
  else if inBlk idx 0x6110 16 && (decide (sub ≤ 2) || sub == 4) then aiSetupEff (Fin.ofNat 16 (idx - 0x6110)) sub (plainEff idx sub data s)
  else if inBlk idx 0x6130 8 && sub = 0x0C then trimEff (Fin.ofNat 8 (idx - 0x6130)) v s
  else if inBlk idx 0x6130 8 && sub = 0x0D then trimMeasuredEff (Fin.ofNat 8 (idx - 0x6130)) v s
  else if inBlk idx 0x6140 8 && decide (sub ≤ 3) then
    let t := rtClear (plainEff idx sub data s) (Fin.ofNat 8 (idx - 0x6140))
    if sub = 1 then rtBegin t (Fin.ofNat 8 (idx - 0x6140)) else t
  else if inBlk idx 0x6210 8 && sub = 1 then fanClear (plainEff idx sub data s) (Fin.ofNat 8 (idx - 0x6210))
  else if inBlk idx 0x6210 8 && sub = 0x15 then fanResetEff (Fin.ofNat 8 (idx - 0x6210)) s
  else if inBlk idx 0x6310 4 && sub = 0x1B then dryerLatch (idx - 0x6310) v s
  else if inBlk idx 0x6340 8 && sub = 0x23 then chainLatch (idx - 0x6340) v s
  else if inBlk idx 0x6380 64 && sub = 0x10 then aerLatch (idx - 0x6380) s
  else plainEff idx sub data s

def effHigh (o : Origin) (idx sub : Nat) (data : List Byte) (s : State) : State :=
  let v := ofBytesLE data
  if inBlk idx 0x7000 4 && sub = 1 then busEnableWriteEff (Fin.ofNat 4 (idx - 0x7000)) v s
  else if inBlk idx 0x7000 4 && sub = 2 then busModeEff (Fin.ofNat 4 (idx - 0x7000)) v s
  else if inBlk idx 0x7000 4 && sub = 8 then recoveryRequest s (Fin.ofNat 4 (idx - 0x7000))
  else if inBlk idx 0x7020 4 && 5 ≤ sub then filterEff (Fin.ofNat 4 (idx - 0x7020)) (key idx sub) v s
  else if inBlk idx 0x7030 4 && sub = 1 then rawTxEff (Fin.ofNat 4 (idx - 0x7030)) o data s
  else if inBlk idx 0x7030 4 && sub = 2 then rawCancelEff (Fin.ofNat 4 (idx - 0x7030)) s
  else if inBlk idx 0x7110 2 && sub = 1 then ethEnableEff (idx - 0x7110) v s
  else if inBlk idx 0x7110 2 && sub = 2 then ethModeEff (idx - 0x7110) v s
  else if idx = 0x7118 ∧ sub = 2 then ipSettings (plainEff idx sub data s)
  else if idx = 0x7118 ∧ 3 ≤ sub ∧ sub ≤ 4 then ipStatic (plainEff idx sub data s)
  else if inBlk idx 0x7140 32 && sub = 1 then pubEnableEff (idx - 0x7140) v s
  else if idx = 0x8030 then winterEff s
  else if idx = 0xA010 ∧ sub = 1 then updateEff v s
  else if idx = 0xA010 ∧ sub = 3 then updateBlockEff data s
  else if idx = 0xA020 then (if sub = 1 then eraseArmEff s else eraseEff s)
  else plainEff idx sub data s

/-- Objects that say which channels an active loop pins (R37): type and binding of a channel, Critical and the channels of a loop, its
scheduling and substitute channel, its class and the class's action. -/
def movesPins (idx sub : Nat) : Bool :=
  (inBlk idx 0x2000 4096 && (sub == 4 || sub == 5)) || (inBlk idx 0x3000 512 && decide (3 ≤ sub ∧ sub ≤ 9)) ||
  (inBlk idx 0x3200 512 && sub == 0x0A) || inBlk idx 0x3400 8 || inBlk idx 0x3410 8 || (inBlk idx 0x3420 32 && sub == 6)

/-- The effect of a write of one object, ConfigCommand apart. -/
def effOne (o : Origin) (idx sub : Nat) (data : List Byte) (s : State) : State :=
  if idx < 0x4000 then (if movesPins idx sub then repin (effLow idx sub data s) else effLow idx sub data s)
  else if idx < 0x5000 then effPlant idx sub data s
  else if idx < 0x7000 then effField idx sub data s
  else effHigh o idx sub data s

/-! ### Revert (R453) -/

/-- Stored objects whose write does more than take the value, by key. -/
def actsOnWrite (k : Nat) : Bool :=
  let idx := k / 256
  let sub := k % 256
  (inBlk idx 0x2000 4096 && (sub == 4 || sub == 5)) || (inBlk idx 0x3000 512 && sub == 1) || (inBlk idx 0x3200 512 && sub == 1) ||
  (inBlk idx 0x3468 8 && sub == 2) || (idx == 0x4200 && sub == 1) ||
  (inBlk idx 0x4210 64 && [1, 2, 6, 7].contains sub) || (inBlk idx 0x4290 16 && (sub == 1 || sub == 2)) || (inBlk idx 0x5000 1024 && (sub == 1 || sub == 3)) ||
  (inBlk idx 0x5400 8 && sub == 1) || (idx == 0x5410 && sub == 1) ||
  (inBlk idx 0x6010 32 && [1, 4, 8, 9, 0x0B].contains sub) || (inBlk idx 0x6110 16 && (decide (sub ≤ 2) || sub == 4)) ||
  (inBlk idx 0x6140 8 && decide (sub ≤ 3)) || (inBlk idx 0x6210 8 && sub == 1) ||
  (inBlk idx 0x7000 4 && decide (sub ≤ 2)) || (inBlk idx 0x7020 4 && decide (5 ≤ sub)) || (inBlk idx 0x7110 2 && decide (sub ≤ 2)) ||
  (idx == 0x7118 && decide (2 ≤ sub ∧ sub ≤ 4)) || (inBlk idx 0x7140 32 && sub == 1)

/-- The keys that differ between two states and act on a write, rising. -/
def changedActs (s t : State) : List Nat :=
  let d (l : List (Nat × Nat)) : List Nat :=
    (l.map (fun c => c.1)).filter (fun k => actsOnWrite k && (s.ob k != t.ob k))
  let a := d s.objs
  sortBy (fun (x y : Nat) => decide (x ≤ y)) (a ++ (d t.objs).filter (fun k => !a.contains k))

/-- The active copy is loaded again; what changes takes effect as its writes would, and enabled paths allocate anew, from the present
Position on (R130). -/
def revertEff (o : Origin) (s : State) : State :=
  let base := (enabledPaths s).foldl releasePath s
  let loaded := loadCopy base (slotOf s (s.ob Ob.configActiveSlot))
  let ks := changedActs base loaded
  let start := ks.foldl (fun (u : State) k => u.put k (base.ob k)) loaded
  let u := ks.foldl (fun (u : State) k =>
    let v := loaded.ob k
    let n := ((findRow (k / 256) (k % 256)).map (fun r => tySize r.ty)).getD 0
    effOne o (k / 256) (k % 256) (bytesLE n v) u) start
  let u := (enabledPaths u).foldl (fun u p => allocPath u p true) u
  let u := repin ((List.range 16).foldl syncStepClock (writeSafeCopy u))
  let n := u.ob Ob.configRejectedRecords
  if n = 0 then u else raise u 213 n

/-- ConfigCommand (R451, R453). -/
def configEff (o : Origin) (v : Nat) (s : State) : State := if v = 1 then commitEff o s else revertEff o s

/-- The effect of a write of any object. -/
def effOf (o : Origin) (idx sub : Nat) (data : List Byte) (s : State) : State :=
  if idx = 0x9000 then configEff o (ofBytesLE data) s else effOne o idx sub data s

/-! ### A write of any object -/

/-- What follows a write once it is recorded: a failed Verify reports itself (R53, R472), a revert leaves its action record (R453). -/
def afterWrite (w : WReq) (r : State × WRes) : State × WRes :=
  if w.idx = 0xA010 ∧ w.sub = 1 ∧ ofBytesLE w.data = 2 ∧ r.2 = .aborted 0x00070003 then (updateFailed r.1, r.2)
  else if w.idx = 0x9000 ∧ w.sub = 1 ∧ ofBytesLE w.data = 2 ∧ r.2 = .done then
    (configAction r.1 3 (r.1.ob Ob.configActiveSequence), r.2)
  else r

/-- A write of any object arrives at the store (R53, R58). -/
def writeObj (s : State) (w : WReq) : State × WRes :=
  if w.idx = 0x1010 ∧ w.sub = 2 ∧ w.data = [2] ∧ w.met = [] then submitOperate s w
  else afterWrite w (submit s w (oldBytes s w.idx w.sub) (extraOf s w.idx w.sub w.data) (effOf w.who.o w.idx w.sub w.data))

end Sys2Proof.Machine
end

