-- ==== Sys2Proof/Machine/Operands.lean ====
section
/-! DEFINITION. How a command's operands become state: the end every command shares, the write of one object with the operand forms of
R47, and frames and messages with their times. -/
namespace Sys2Proof.Machine

/-- What a command answers. -/
abbrev Out := Host.Outcome State Fault Refusal

/-- The end of every command: what it raised is routed (R119), a reset it asked for follows, the output lines obey the phase, and the queue
is as it was. -/
def finish (s₀ s : State) : Out := .next { settle (resetIfDue (flush s)) with pending := s₀.pending }

/-- A command whose effect comes about only while a condition holds: an event that cannot occur changes nothing (log entry 6). -/
def occurs (s : State) (c : Bool) (eff : State → State) : Out := finish s (if c then eff s else s)

/-- The request of a sender for one object, by its key. -/
def writeReq (x : Sender) (k : Nat) (ty : Ty) (data : List Byte) : WReq := reqOf x (k / 256) (k % 256) ty data

/-- Whether a sender's write reaches the store: a client's does not while the application cores, and the server on them, restart (R29). -/
def reaches (s : State) (x : Sender) : Bool := x.iface == .fw || !s.appDown

/-- A write is made where it reaches the store. -/
def heard (s : State) (x : Sender) (r : State × WRes) : State × WRes := if reaches s x then r else (s, .unserved)

/-- One object written, with the aborts and the effect of its own (R53). -/
def writeKey (s : State) (x : Sender) (k : Nat) (ty : Ty) (data : List Byte) (codes : List Nat) (eff : State → State) : State × WRes :=
  heard s x (submit s (writeReq x k ty data) (oldBytes s (k / 256) (k % 256)) codes eff)

/-- The operand forms a command's value takes: one byte, a word, eight bytes. -/
def writeByte (s : State) (x : Sender) (k v : Nat) (codes : List Nat) (eff : State → State) : Out :=
  finish s (writeKey s x k .u8 (bytesLE 1 v) codes eff).1
def writeBool (s : State) (x : Sender) (k : Nat) (b : Bool) (codes : List Nat) (eff : State → State) : Out :=
  finish s (writeKey s x k .bool (bytesLE 1 (ofBool b)) codes eff).1
def writeWord (s : State) (x : Sender) (k : Nat) (ty : Ty) (v : Nat) (codes : List Nat) (eff : State → State) : Out :=
  finish s (writeKey s x k ty (bytesLE 4 v) codes eff).1
def writeLong (s : State) (x : Sender) (k v : Nat) (codes : List Nat) (eff : State → State) : Out :=
  finish s (writeKey s x k .u64 (bytesLE 8 v) codes eff).1
def writeBlock (s : State) (x : Sender) (k : Nat) (data : List Byte) (codes : List Nat) (eff : State → State) : Out :=
  finish s (writeKey s x k .domain data codes eff).1

/-- The WC of something `age` µs before an instant of the present tick. -/
def ago (s : State) (age : Nat) : Nat := s.wc - age

end Sys2Proof.Machine
end

