-- ==== Sys2Proof/Machine/Worust.lean ====
section
/-! DEFINITION. The Worust server (R61–R64, R331–R343): requests, segmented transfers, snapshots, points, publications, and the frames and
datagrams that carry them. -/
namespace Sys2Proof.Machine

/-! ### Who asks, and whether the server hears it -/

/-- The asker of a request: on the bus the source is the node, on UDP the address and port (R337, R459). -/
def askerOf (q : Request) : Asker :=
  match q.via with
  | .bus n node => ⟨⟨0x10 + n.val, node.toNat, q.tid.toNat % 256⟩, q.tid.toNat % 256, q.prio.toNat, q.fd⟩
  | .udp e addr port => ⟨⟨0x20 + e.val, addr.toNat, port.toNat⟩, q.tid.toNat, 0, false⟩

/-- The server runs: not in BOOT, while the application cores restart, or once Winter entry has stopped it (R29, R75, R432). -/
def serverUp (s : State) : Bool := s.phase == .run && !s.appDown && decide (s.winter.stage ≤ 1)

/-- A message of this asker can arrive: its channel runs, or its port is linked and the module has an address. -/
def hears (s : State) (a : Asker) : Bool :=
  serverUp s &&
  (if a.o.iface < 0x20 then s.bus[(Fin.ofNat 4 (a.o.iface - 0x10))].started
   else linked s (a.o.iface - 0x20) && ipUp s)

def malformed (s : State) : State := s.inc Ob.worustMalformedCount

/-- PRIO 0 and 1 are no request's (R331, R336). -/
def badPrio (a : Asker) : Bool := decide (a.o.iface < 0x20 ∧ a.prio < 2)

/-- A request is taken in (R337): ignored while its like is in progress, answered again within 1 s, dropped beyond 64, else served. -/
def takeRequest (s : State) (a : Asker) (serve : State → State) : State :=
  if badPrio a then malformed s
  else if s.net.inProgress.any (fun x => sameAsker x a) then s
  else match s.net.served.find? (fun x => sameAsker x.who a && decide (s.osc < x.at_ + 1000000)) with
    | some x => sendTo s a x.kind x.payload
    | none =>
      if 64 ≤ s.net.inProgress.length then s.inc Ob.worustRequestsDropped
      else serve { s with net := { s.net with inProgress := a :: s.net.inProgress } }

/-- A request that the store did not take is answered no more (R461). -/
def forget (s : State) (a : Asker) : State :=
  { s with net := { s.net with inProgress := s.net.inProgress.filter (fun x => !sameAsker x a) } }

/-- A write's outcome on its way back to the asker. -/
def settleWrite (r : State × WRes) (w : WReq) : State :=
  match r.2 with
  | .dropped => forget r.1 w.who
  | .unserved => forget r.1 w.who
  | _ => answerRes r w

/-! ### READ and WRITE (R336) -/

/-- What one READ returns: a value of at most 8 B, or the abort of R55's order. -/
def readShort (s : State) (idx sub : Nat) : Except Nat (Nat × List Byte) :=
  if sub = 0xFF ∧ (findBlock idx).isSome = true then .error (if s.mgmtDown && mgmtRange idx then 0x00030003 else 0x00020002)
  else match readOb s idx sub with
    | .error c =>
      let domain := ((findRow idx sub).map (fun r => r.ty == .domain)).getD false
      .error (if domain && decide (3 < classRank c) then 0x00020002 else c)
    | .ok v => if 8 < v.2.length then .error 0x00020002 else .ok v

/-- READ. -/
def serveRead (s : State) (a : Asker) (idx sub : Nat) : State :=
  takeRequest s a (fun s =>
    match readShort s idx sub with
    | .ok v => answerReq s a 5 (bytesLE 1 v.1 ++ v.2)
    | .error c => answerReq (noteAbort s a.o.iface idx sub c) a 6 (bytesLE 4 c))

/-- WRITE. -/
def serveWrite (s : State) (a : Asker) (idx sub ty : Nat) (data : List Byte) : State :=
  takeRequest s a (fun s => settleWrite (writeObj s ⟨a, true, idx, sub, ty, data, none, []⟩) ⟨a, true, idx, sub, ty, data, none, []⟩)

/-! ### Segmented transfers (R61–R64, R338) -/

def putXfers (s : State) (l : List Xfer) : State := { s with net := { s.net with xfers := l } }

def findXfer (s : State) (a : Asker) (write : Bool) : Option Xfer :=
  s.net.xfers.find? (fun x => sameAsker x.who a && x.write == write)

def dropXfer (s : State) (a : Asker) : State := putXfers s (s.net.xfers.filter (fun x => !sameAsker x.who a))

def setXfer (s : State) (x : Xfer) : State :=
  putXfers s (s.net.xfers.map (fun y => if sameAsker y.who x.who then x else y))

/-- Segments that wait on the bus are withdrawn when their transfer aborts (R335). -/
def cancelSegs (s : State) (a : Asker) : State :=
  if a.o.iface < 0x10 ∨ 0x14 ≤ a.o.iface then s
  else
    let n : Fin 4 := Fin.ofNat 4 (a.o.iface - 0x10)
    let s := setBus s n { s.bus[n] with txq := s.bus[n].txq.filter (fun m => !(m.kind == 8 && m.dest == a.o.src && m.tid == a.tid)) }
    let mine : Bool := match s.bus[n].bufs[(1 : Fin 3)].frames.head? with
      | some f => bits f.id 25 22 == 8 && bits f.id 21 15 == a.o.src && bits f.id 7 0 == a.tid
      | none => false
    if bufOwned s n 1 && mine then feedBus (cancelBuf s n 1) n else s

/-- A transfer aborts (R62, R63, R355): the abort objects, a write's record, event 200, and the answer. A write that finds no place
for its record is not answered (R461). -/
def abortXfer (s : State) (a : Asker) (write : Bool) (idx sub ty total : Nat) (data : List Byte) (code : Nat) : State :=
  let s := cancelSegs (dropXfer s a) a
  if write && stagingFull s then raise (forget (s.inc Ob.worustRequestsDropped) a) 200 code
  else
    let s := if write then abortWrite s ⟨a, true, idx, sub, ty, data, some total, []⟩ (oldBytes s idx sub) code else noteAbort s a.o.iface idx sub code
    answerReq (raise s 200 code) a 6 (bytesLE 4 code)

def abortOpen (s : State) (x : Xfer) (code : Nat) : State :=
  abortXfer s x.who x.write x.idx x.sub x.ty x.total (if x.write then x.buf else []) code

/-- Slots and the one write transfer per object (R63). -/
def slotCodes (s : State) : List Nat := if 8 ≤ s.net.xfers.length then [0x00040003] else []

/-- The stated length of a write against the object (R61). -/
def lengthCodes (r : Row) (total : Nat) : List Nat :=
  match r.ty, r.chk with
  | .str, .len _ hi => if 2 + hi < total then [0x00020002] else []
  | .domain, .len lo hi =>
    (if hi < total then [0x00020002] else []) ++ (if lo = hi ∧ total ≠ hi then [0x00020001] else [])
  | t, _ => (if tySize t < total then [0x00020002] else []) ++ (if total ≠ tySize t then [0x00020001] else [])

/-- What the opening of a write meets, before any segment (R61). -/
def openCodes (s : State) (a : Asker) (idx sub ty total : Nat) : List Nat :=
  match findBlock idx with
  | none => [0x00010001]
  | some _ =>
    if sub = 0 then [0x00010003] else
    match findRow idx sub with
    | none => [0x00010001]
    | some r =>
      gateCodes s a.o idx r ++ (if xferOpen s idx sub then [0x00030004] else []) ++
      (if ty = tyCode r.ty then [] else [0x00020005]) ++ lengthCodes r total ++ slotCodes s

/-- Opens a write transfer. -/
def openWrite (s : State) (a : Asker) (idx sub ty total : Nat) : State :=
  match pickAbort (openCodes s a idx sub ty total) with
  | some c => abortXfer s a true idx sub ty total [] c
  | none =>
    answerReq (putXfers s (s.net.xfers ++ [⟨a, idx, sub, true, ty, total, [], 0, 0, false, s.osc, 0, 0, false⟩])) a 5 (bytesLE 1 16)

/-- Data bytes of a segment the module sends (R338). -/
def segBytes (a : Asker) : Nat := if 0x20 ≤ a.o.iface then 1024 else if a.fd then 63 else 7

/-- Segments of a read: at least one, which sets LAST. -/
def segCount (x : Xfer) : Nat := max 1 ((x.total + segBytes x.who - 1) / segBytes x.who)

/-- Sends the segments from `k` on, `fuel` of them. -/
def sendSegs (x : Xfer) : Nat → Nat → State → State
  | 0, _, s => s
  | fuel + 1, k, s =>
    let n := segBytes x.who
    let last := decide (k + 1 = segCount x)
    let body := (x.buf.drop (k * n)).take n
    sendSegs x fuel (k + 1) (sendTo s x.who 8 (bytesLE 1 (k % 128 + if last then 128 else 0) ++ body))

/-- At most 16 segments are out unacknowledged. -/
def sendMore (s : State) (x : Xfer) : State :=
  let upto := min (segCount x) (x.acked + 16)
  setXfer (sendSegs x (upto - x.sentTo) x.sentTo s) { x with sentTo := upto }

/-- Opens a read transfer with the copy it returns (R64), or aborts it. -/
def openRead (s : State) (a : Asker) (idx sub : Nat) (r : Except Nat (List Byte)) : State :=
  let codes : List Nat := (match r with | .error c => [c] | .ok _ => []) ++ slotCodes s
  match pickAbort codes, r with
  | some c, _ => abortXfer s a false idx sub 0 0 [] c
  | none, .error c => abortXfer s a false idx sub 0 0 [] c
  | none, .ok v =>
    let x : Xfer := ⟨a, idx, sub, false, 0, v.length, v, 0, 0, false, s.osc, 0, 0, false⟩
    let s := answerReq (putXfers s (s.net.xfers ++ [x])) a 5 (bytesLE 4 v.length ++ bytesLE 1 16)
    sendMore s x

/-- One entry of a snapshot (R339). -/
def snapEntry (s : State) (idx sub : Nat) : List Byte :=
  match findRow idx sub with
  | none => []
  | some r =>
    if r.acc = .wo then []
    else match readOb s idx sub with
      | .ok v => padFour (bytesLE 1 sub ++ bytesLE 1 v.1 ++ bytesLE 2 0 ++ bytesLE 4 v.2.length ++ v.2)
      | .error c => bytesLE 1 sub ++ bytesLE 1 0xFF ++ bytesLE 2 0 ++ bytesLE 4 4 ++ bytesLE 4 c

/-- The snapshot of an index at one instant, or the abort of its opening. -/
def snapshot (s : State) (idx : Nat) : Except Nat (List Byte) :=
  match findBlock idx with
  | none => .error 0x00010001
  | some b =>
    if s.mgmtDown && mgmtRange idx then .error 0x00030003
    else
      let v := (List.range b.highest).flatMap (fun k => snapEntry s idx (k + 1))
      if 1048576 < v.length then .error 0x00020002 else .ok v

/-- INDEX_SNAPSHOT_READ. -/
def serveSnapshot (s : State) (a : Asker) (idx : Nat) : State :=
  takeRequest s a (fun s => openRead s a idx 0xFF (snapshot s idx))

/-- SEGOPEN. Subindex 0xFF is a snapshot only as a read of type DOMAIN with length 0. -/
def serveOpen (s : State) (a : Asker) (idx sub ty : Nat) (write : Bool) (total : Nat) : State :=
  if !write && sub = 0xFF && ty = 12 && total = 0 then serveSnapshot s a idx
  else takeRequest s a (fun s =>
    if write then openWrite s a idx sub ty total
    else openRead s a idx sub ((readOb s idx sub).map (fun v => v.2)))

/-- The data of the last segment of an FD frame without the padding of its DLC. -/
def unpad (a : Asker) (x : Xfer) (last : Bool) (data : List Byte) : List Byte :=
  let left := x.total - x.got
  let size := ((fdSizes.find? (fun p => 1 + left ≤ p.1)).map (fun p => p.1)).getD 64
  if a.fd && last && decide (x.got ≤ x.total) && decide (data.length + 1 = size) then data.take left else data

/-- SEGMENT of a write transfer (R62, R338). -/
def serveSegment (s : State) (a : Asker) (seq : Nat) (last : Bool) (data : List Byte) : State :=
  match findXfer s a true with
  | none => s
  | some x =>
    let data := unpad a x last data
    let got := x.got + data.length
    let codes : List Nat :=
      (if x.total < got || (last && decide (got < x.total)) then [0x00020001] else []) ++
      (if seq % 128 = x.nextSeq % 128 ∧ x.last = false then [] else [0x00020004])
    match pickAbort codes with
    | some c => abortOpen s x c
    | none =>
      let k := x.nextSeq + 1
      let s := setXfer s { x with buf := x.buf ++ data, got := got, nextSeq := k, last := last, lastAt := s.osc }
      if k % 16 = 0 || last then sendTo s a 5 (bytesLE 1 (k % 128)) else s

/-- SEGEND of a write transfer: count, CRC, and the object changed as one write (R62). A repeat of one just answered is answered again. -/
def serveEnd (s : State) (a : Asker) (crc : Nat) : State :=
  match findXfer s a true with
  | none =>
    match s.net.served.find? (fun x => sameAsker x.who a && decide (s.osc < x.at_ + 1000000)) with
    | some x => sendTo s a x.kind x.payload
    | none => s
  | some x =>
    let met : List Nat :=
      (if x.got = x.total then [] else [0x00020001]) ++ (if crc32 x.buf = crc then [] else [0x00070001])
    let w : WReq := ⟨x.who, true, x.idx, x.sub, x.ty, x.buf, some x.total, met⟩
    let s := dropXfer s a
    let r := writeObj { s with net := { s.net with inProgress := x.who :: s.net.inProgress } } w
    let r := match r.2 with
      | .aborted c => (raise r.1 200 c, r.2)
      | _ => r
    settleWrite r w

/-- A RESPONSE that acknowledges segments of a read; after the last, SEGEND closes it (R338). -/
def serveAck (s : State) (a : Asker) (next : Nat) : State :=
  match findXfer s a false with
  | none => s
  | some x =>
    let k := x.acked + (next + 128 - x.acked % 128) % 128
    if k ≤ x.acked ∨ x.sentTo < k then s
    else if k = segCount x then dropXfer (sendTo s x.who 9 (bytesLE 4 (crc32 x.buf))) a
    else sendMore (setXfer s { x with acked := k, lastAt := s.osc }) { x with acked := k, lastAt := s.osc }

/-- An ABORT from the client closes its transfer (R338). -/
def serveAbort (s : State) (a : Asker) (code : Nat) : State :=
  if s.net.xfers.any (fun x => sameAsker x.who a) then raise (cancelSegs (dropXfer s a) a) 200 code else s

/-- SEGMENT_TIMEOUT: more than 1,000 ms of silence (R62, R338). -/
def xferTimeout (s : State) (a : Asker) : State :=
  match s.net.xfers.find? (fun x => sameAsker x.who a && decide (x.lastAt + 1000000 < s.osc)) with
  | some x => if serverUp s then abortOpen s x 0x00020006 else s
  | none => s

/-! ### Points and publications (R342, R343) -/

/-- A POINT frame from node k on MBn, with the TIME of its frame. -/
def pointReceived (s : State) (n : Fin 4) (node point value flags time : Nat) : State :=
  (boundChans s 8 0x0B n.val (node * 256 + point)).foldl (fun s c =>
    let s := produce s c (FX.ofBits32 value) (flags % 8) time
    { s with net := { s.net with points := assocSet s.net.points c s.osc } }) s

/-- POINT_TIMEOUT: channels of the point that had no report for PointTimeout lapse, with one event. -/
def pointLapse (s : State) (n : Fin 4) (point : Nat) : State :=
  let late := (boundChans s 8 0x0B n.val point).filter (fun c =>
    match assoc s.net.points c with
    | some t => decide (t + s.micros Ob.worustPointTimeout ≤ s.osc)
    | none => false)
  if late.isEmpty || s.phase != .run then s
  else
    let s := late.foldl (fun s c =>
      let s := feedBit s c 0 false
      { s with net := { s.net with points := assocDrop s.net.points c } }) s
    raise s 199 (n.val * 2 ^ 16 + point)

/-- Sends a publication's Value and Status; one that a full queue discards, or that finds no address in use or no way to its host, was
not sent (R335, R349, R350). -/
def publish (s : State) (q : Nat) : State :=
  let c := s.ob (Ob.pubChannel q)
  let i := s.ob (Ob.pubInterface q)
  let body := bytesLE 1 (s.ob (Ob.pubPoint q)) ++ bytesLE 4 (s.ob (Ob.chanValue c)) ++ bytesLE 1 (chanStatus s c % 8)
  let r : State × Bool :=
    if i = 0x20 then (sendUdp s (s.ob (Ob.pubAddress q)) (s.ob (Ob.pubPort q)) (datagram 11 0 body), canReach s (s.ob (Ob.pubAddress q)))
    else queueMsg s (Fin.ofNat 4 (i - 0x10)) ⟨3, 11, s.ob (Ob.pubDestNode q), 0, ownFd s (Fin.ofNat 4 (i - 0x10)), body⟩
  if r.2 then
    let t := r.1.inc (Ob.pubSentCount q)
    { t with net := { t.net with pubLast := t.net.pubLast.set q (s.ob (Ob.chanValue c)) } }
  else r.1

/-- A publication that is enabled and names a channel in use. -/
def pubRuns (s : State) (q : Nat) : Bool :=
  serverUp s && s.flag (Ob.pubEnable q) && decide (s.ob (Ob.pubChannel q) < 4096) && chanType s (s.ob (Ob.pubChannel q)) != 0

def pubDue (s : State) (q : Nat) : Bool :=
  pubRuns s q && decide ((s.net.pubAt[q]?).getD 0 + s.micros (Ob.pubPeriod q) ≤ s.osc)

def pubPeriodic (s : State) (q : Nat) : State :=
  publish { s with net := { s.net with pubAt := s.net.pubAt.set q s.osc } } q

/-- The Value differs by at least Delta from the last figure sent. -/
def pubMoved (s : State) (q : Nat) : Bool :=
  let d := s.f (Ob.pubDelta q)
  pubRuns s q && FX.gt d FX.zero &&
    FX.ge (FX.abs (FX.sub (chanF s (s.ob (Ob.pubChannel q))) (FX.ofBits32 ((s.net.pubLast[q]?).getD 0)))) d

/-! ### Messages (R331–R334, R340) -/

/-- The value bytes of a WRITE: on an FD frame a STR ends with its own length, before the padding. -/
def writeData (a : Asker) (payload : List Byte) : List Byte :=
  let v := payload.drop 4
  if a.fd && leAt payload 3 1 = 11 then v.take (2 + leAt v 0 2) else v

/-- A message to the module that reached it whole. A payload shorter than its KIND needs is malformed. -/
def serveMessage (s : State) (a : Asker) (kind : Nat) (payload : List Byte) : State :=
  let idx := leAt payload 0 2
  let sub := leAt payload 2 1
  let short (n : Nat) : Bool := decide (payload.length < n)
  if badPrio a && kind != 1 then malformed s
  else match kind with
    | 2 => if short 3 then malformed s else serveRead s a idx sub
    | 3 => if short 4 then malformed s else serveWrite s a idx sub (leAt payload 3 1) (writeData a payload)
    | 5 => if short 1 then s else serveAck s a (leAt payload 0 1 % 128)
    | 6 => serveAbort s a (leAt payload 0 4)
    | 7 =>
      if short 8 then malformed s
      else serveOpen s a idx sub (leAt payload 3 1 % 128) (leAt payload 3 1 < 128) (leAt payload 4 4)
    | 8 => if short 1 then malformed s else serveSegment s a (leAt payload 0 1 % 128) (128 ≤ leAt payload 0 1) (payload.drop 1)
    | 9 => if short 4 then malformed s else serveEnd s a (leAt payload 0 4)
    | _ => s

/-- A TIME message on the bus (R345). -/
def busTime (s : State) (n : Fin 4) (prio : Nat) (payload : List Byte) (time at_ : Nat) : State :=
  if prio ≠ 0 then malformed s
  else match leAt payload 0 1 with
    | 1 => timeSync s n (leAt payload 1 1) time at_
    | 2 => timeFollowUp s n (leAt payload 1 1) (leAt payload 2 8) at_
    | _ => malformed s

/-- A whole message of a bus channel, with the TIME and the oscillator time of its last frame. -/
def busMessage (s : State) (n : Fin 4) (id : Nat) (fd : Bool) (payload : List Byte) (time at_ : Nat) : State :=
  let prio := bits id 28 26
  let kind := bits id 25 22
  let src := bits id 14 8
  let tid := bits id 7 0
  if 12 ≤ kind then malformed s
  else if kind = 0 then busTime s n prio payload time at_
  else if kind = 11 then
    (if prio < 2 || decide (payload.length < 6) then malformed s
     else pointReceived s n src (leAt payload 0 1) (leAt payload 1 4) (leAt payload 5 1) time)
  else serveMessage s ⟨⟨0x10 + n.val, src, tid⟩, tid, prio, fd⟩ kind payload

/-- Whether a classical frame of 8 bytes begins a message that a CONT ends (R333). -/
def needsCont (kind : Nat) (data : List Byte) : Bool :=
  data.length == 8 &&
  (match kind with
   | 0 => leAt data 0 1 == 2
   | 3 => [7, 8].contains (leAt data 3 1) || (leAt data 3 1 == 11 && decide (2 < leAt data 4 2))
   | 10 => true
   | _ => false)

/-- A Worust frame taken from the queue, which arrived at `at_`: a CONT is paired with its first frame, a first frame waits for it. -/
def busFrame (s : State) (n : Fin 4) (f : CanFrame) (time at_ : Nat) : State :=
  let kind := bits f.id 25 22
  let b := s.bus[n]
  let same (c : ContWait) : Bool := c.id % 2 ^ 22 == f.id % 2 ^ 22
  if kind = 4 then
    match b.conts.find? same with
    | none => s
    | some c =>
      let s := setBus s n { b with conts := b.conts.filter (fun x => !same x) }
      if at_ ≤ c.at_ + 100000 then busMessage s n c.id false (c.data ++ f.data) time at_ else s
  else if !f.fdf && needsCont kind f.data then
    setBus s n { b with conts := b.conts.filter (fun x => !same x) ++ [⟨f.id, kind, at_, false, f.data⟩] }
  else busMessage s n f.id f.fdf f.data time at_

/-- Whether an entry carries Worust traffic: it came through the server's own elements (R315, R334). -/
def isWorust (e : RxEntry) : Bool := e.matched && decide (e.filter < 4) && e.frame.ide && !e.frame.rtr

/-- Whether the CONT of a first frame has arrived within 100 ms of it and waits to be taken from the queue. -/
def contQueued (s : State) (n : Fin 4) (c : ContWait) : Bool :=
  (s.bus[n].hpb.toList ++ s.bus[n].rxq).any (fun e =>
    isWorust e && bits e.frame.id 25 22 == 4 && e.frame.id % 2 ^ 22 == c.id % 2 ^ 22 && decide (e.at_ ≤ c.at_ + 100000))

/-- CONT_TIMEOUT (R333). -/
def contTimeout (s : State) (n : Fin 4) : State :=
  setBus s n { s.bus[n] with conts := s.bus[n].conts.filter (fun c => decide (s.osc ≤ c.at_ + 100000) || contQueued s n c) }

/-- QUEUE_RELEASE: firmware takes an entry to the server or to the raw ring (R315, R316). -/
def queueRelease (s : State) (n : Fin 4) : State :=
  if s.phase ≠ .run ∨ s.appDown = true then s
  else match releaseEntry s n with
    | none => s
    | some (e, s) =>
      if isWorust e then (if serverUp s then busFrame s n e.frame e.time e.at_ else s) else toRawRing s n e

/-- The most a datagram carries in a frame of 1,522 B: less the Ethernet, IPv4 and UDP headers and the FCS (R348, R349). -/
def datagramMost : Nat := 1522 - 18 - 20 - 8

/-- The message of a datagram to UdpPort is served, or the datagram is malformed (R340). -/
def udpMessage (s : State) (e : Fin 2) (addr port : Nat) (bytes : List Byte) : State :=
  let kind := leAt bytes 1 1 % 16
  if !serverUp s then s
  else if bytes.length < 8 ∨ leAt bytes 0 1 ≠ 1 ∨ 12 ≤ kind ∨ leAt bytes 4 2 ≠ bytes.length - 8 then malformed s
  else
    let tid := leAt bytes 2 2
    let payload := bytes.drop 8
    if kind = 0 then
      (if leAt payload 0 1 = 4 ∧ 18 ≤ payload.length ∧ addr = s.ob Ob.tsyncServerAddress then
        timeReply s tid (leAt payload 2 8) (leAt payload 10 8) else s)
    else serveMessage s ⟨⟨0x20 + e.val, addr, port⟩, tid, 0, false⟩ kind payload

/-- The fixed address and port of recovery (R473). -/
def recoveryAddress : Nat := 0xC0A80A0A
def recoveryPort : Nat := 48411

/-- A datagram of recovery (R473): on ETH0, for the fixed address and port, from a host of its network; OP, OFFSET, LEN and the data. -/
def recoveryDatagram (s : State) (e : Fin 2) (addr port : Nat) (d : Datagram) : State :=
  let b := d.bytes
  let len := leAt b 8 2
  if e ≠ 0 ∨ d.sound = false ∨ d.toAddr.toNat ≠ recoveryAddress ∨ d.toPort.toNat ≠ recoveryPort ∨
      addr / 256 ≠ recoveryAddress / 256 ∨ b.length ≠ 12 + len ∨ 1024 < len then s
  else match leAt b 0 1 with
    | 1 => recoveryStart s addr port
    | 2 => recoveryData s (leAt b 4 4) (b.drop 12) addr port
    | 3 => recoveryEnd s addr port
    | _ => s

/-- UDP_DATAGRAM (R340): a datagram through a port. One whose frame was not sound, or that no frame of R348 can carry, is an error at the
port (R350); one for another address or port is received and not taken. In recovery the boot ROM takes its own (R473). -/
def udpDatagram (s : State) (e : Fin 2) (addr port : Nat) (d : Datagram) : State :=
  if recoveryRuns s then recoveryDatagram s e addr port d
  else if s.phase ≠ .run ∨ linked s e.val = false then s
  else if d.sound = false ∨ datagramMost < d.bytes.length then s.inc (Ob.ethRxErrors e.val)
  else
    let s := (learnAddress s d.mac.toNat e.val).inc (Ob.ethRxFrames e.val)
    if ipUp s = false ∨ d.toAddr.toNat ≠ s.ob Ob.ipAddress ∨ d.toPort.toNat ≠ s.ob Ob.worustUdpPort then s
    else udpMessage (arpHeard s addr d.mac.toNat) e addr port d.bytes

end Sys2Proof.Machine
end

