-- ==== Sys2Proof/Machine/BusCommands.lean ====
section
/-! DEFINITION. The commands of the message bus controllers (rows 78–93, 203): R297–R329. -/
namespace Sys2Proof.Machine

/-- BUS_ENABLE (R300). -/
def execBusEnable (x : Sender) (n : Fin 4) (s : State) : Out :=
  writeBool s x (Ob.busEnable n) true (busEnableCodes s n) (busEnableEff n)

/-- BUS_DISABLE (R300). -/
def execBusDisable (x : Sender) (n : Fin 4) (s : State) : Out :=
  writeBool s x (Ob.busEnable n) false [] (busDisableEff n)

/-- A controller that waits for 11 recessive bits: at the start, or after a protocol exception or a restricted-mode error. -/
def integrates (s : State) (n : Fin 4) : Bool := running s && s.bus[n].started && (busBit s n 8 || busBit s n 13) && !busBit s n 11

/-- The controller takes part on the bus. -/
def joinBus (s : State) (n : Fin 4) : State := busIdle (setBusBit (setBusBit (setBusBit s n 8 false) n 13 false) n 1 true) n

/-- INTEGRATION_DONE (R300). -/
def execIntegrationDone (n : Fin 4) (s : State) : Out := occurs s (integrates s n) (fun s => winterOn (joinBus s n))

/-- BUS_MODE_APPLY (R299). -/
def execBusModeApply (n : Fin 4) (s : State) : Out :=
  occurs s (running s && s.bus[n].started && s.bus[n].chosen.isNone) (fun s => applyMode s n)

/-- TX_CHOICE (R310). -/
def execTxChoice (m : TxMoment) (s : State) : Out :=
  occurs s (running s && s.bus[m.n].started) (fun s => winterOn (txChoice (reach s m.off) m.n m.sof))

/-- What the frame on the bus meets, where one is being sent (R310, R311). -/
def onFrame (s : State) (n : Fin 4) (eff : State → Fin 3 → State) : Out :=
  match activeBuf s n with
  | some b => occurs s (running s && onBus s n) (fun s => winterOn (eff s b))
  | none => finish s s

/-- FRAME_SENT (R311): with the transmitter delay measured, in clock periods (R306). -/
def execFrameSent (n : Fin 4) (tdc : Nat) (s : State) : Out := onFrame s n (fun s b => frameSent s n b tdc)

/-- ARBITRATION_LOST (R310). -/
def execArbitrationLost (n : Fin 4) (s : State) : Out := onFrame s n (fun s b => arbitrationLost s n b)

/-- BUS_ERROR (R321): `tdc` is the transmitter delay measured in the frame, 0 where it did not come so far (R306). -/
def execBusError (n : Fin 4) (lec : Fin 8) (place : ErrorPlace) (exempt primary : Bool) (eights tdc : Nat) (s : State) : Out :=
  occurs s (running s && onBus s n)
    (fun s => winterOn (busError (tdcMeasure s n tdc) n lec place.data exempt primary eights place.site))

/-- PROTOCOL_EXCEPTION (R298): passed over and integrated anew, or a form error. -/
def protocolException (s : State) (n : Fin 4) : State :=
  if s.bus[n].protExc then
    busRaise (setBusBit (setBusBit (setBusBit s n 13 true) n 8 true) n 1 false) n 6 0
  else busError s n 2 false false false 0 .frame

def execProtocolException (n : Fin 4) (s : State) : Out :=
  occurs s (running s && onBus s n && s.bus[n].mode != 3) (fun s => protocolException s n)

/-- A frame can be valid for the controller: it takes part on the bus, its input is not held recessive as in mode 3 (R299), and an FD
frame meets FdEnable 1 (R297). -/
def hearsFrame (s : State) (n : Fin 4) (f : CanFrame) : Bool := onBus s n && s.bus[n].mode != 3 && (!f.fdf || s.bus[n].fd)

/-- A frame on the bus of channel n: what the controller takes, and what a sleeping or waking channel sees (R314, R351). -/
def takeFrame (s : State) (n : Fin 4) (f : CanFrame) (age : Nat) : State :=
  let s := if hearsFrame s n f then frameReceived s n f age else s
  wakeDuringEntry s n f

/-- FRAME_RECEIVED (R314): its start-of-frame `age` µs before WC offset `off` of the tick. -/
def execFrameReceived (n : Fin 4) (frame : CanFrame) (age : Nat) (off : Fin 10) (s : State) : Out :=
  occurs s (running s) (fun s => takeFrame (reach s off) n (carriedFrame frame) age)

/-- QUEUE_RELEASE (R315). -/
def execQueueRelease (n : Fin 4) (s : State) : Out := finish s (queueRelease s n)

/-- RAW_TX_FRAME (R324). -/
def execRawTxFrame (x : Sender) (n : Fin 4) (data : List Byte) (s : State) : Out :=
  writeBlock s x (Ob.busTxRawTxFrame n) data (rawTxCodes s n data) (rawTxEff n (originOf x) data)

/-- RAW_TX_CANCEL (R312). -/
def execRawTxCancel (x : Sender) (n : Fin 4) (s : State) : Out :=
  writeByte s x (Ob.busTxRawTxCancel n) 1 [] (rawCancelEff n)

/-- RECOVERY_COMMAND (R323). -/
def execRecoveryCommand (x : Sender) (n : Fin 4) (s : State) : Out :=
  writeByte s x (Ob.busRecoveryCommand n) 1 (recoveryCodes s n) (fun s => recoveryRequest s n)

/-- RECOVERY_DELAY (R323): firmware asks in RecoveryMode 1. -/
def execRecoveryDelay (n : Fin 4) (s : State) : Out :=
  occurs s (firmwareRuns s && recoveryWanted s n) (fun s => recoveryRequest s n)

/-- RECOVERY_COMPLETE (R323). -/
def execRecoveryComplete (m : TxMoment) (s : State) : Out :=
  let t := reach s m.off
  occurs s (running s && s.bus[m.n].started && busBit s m.n 12 && decide (128 ≤ recoveryRunsMost t m.n))
    (fun _ => txChoice (recoveryComplete t m.n) m.n m.sof)

/-- A transceiver report changes (R327): XCVRFAULT by undervoltage, else TXDTIMEOUT; the event on setting. -/
def transceiver (s : State) (n : Fin 4) (undervoltage present : Bool) : State :=
  let b := if undervoltage then 14 else 15
  if busBit s n b == present then s
  else
    let s := setBusBit s n b present
    if present then busRaise s n 9 (if undervoltage then 2 else 1) else s

/-- TRANSCEIVER_FAULT (R327). -/
def execTransceiverFault (n : Fin 4) (undervoltage present : Bool) (s : State) : Out :=
  occurs s (running s) (fun s => transceiver s n undervoltage present)

end Sys2Proof.Machine
end

