-- ==== Sys2Proof/Machine/Tick.lean ====
section
/-! DEFINITION. The base tick (R23, R24, R83): what a tick boundary does at the field die, in the channel table and in the scheduler, and
what the upstream frame of the tick brings. -/
namespace Sys2Proof.Machine

/-! ### Writes that waited in the store (R58, R461) -/

/-- A write leaves the head of the store: a step of the module's own, or a write with its answer. -/
def takeWaiting (s : State) (w : WReq) : State :=
  if w.ty = stepMark then wcStepWaited s
  else
    let r := writeObj s w
    let r := match r.2 with
      | .aborted c => if viaXfer w then (raise r.1 200 c, r.2) else r
      | _ => r
    settleWrite r w

/-- Writes that waited are made in their order, as far as the staging area has room. -/
def drainStore : Nat → State → State
  | 0, s => s
  | k + 1, s =>
    match s.storeQ with
    | [] => s
    | w :: rest =>
      if w.who.o.iface = 0 ∧ 768 ≤ placesUsed s then s
      else
        let t := takeWaiting { s with storeQ := [] } w
        drainStore k { t with storeQ := t.storeQ ++ rest }

/-! ### Measurements at a boundary -/

/-- A figure of a supply for its channels of type 10 (R427). -/
def supplyChans (s : State) (inst point : Nat) (v : FX) : State :=
  (boundChans s 10 0x0A inst point).foldl (fun s n => produce s n v (1 + 2 * ofBool (supplyShort s inst)) s.wc) s

/-- Volts of VM, VB, the hold-up store or the internal rail (R426–R428). -/
def takeVolts (s : State) (k w : Nat) : State :=
  let v := FX.ofBits32 w
  let s := if k < 2 then notePulse s (Fin.ofNat 2 k) w else s
  let s := s.put ([Ob.supplyVmVoltage, Ob.supplyVbVoltage, Ob.supplyHoldupVoltage, Ob.supplyRailVoltage].getD k Ob.supplyRailVoltage) w
  let s := if k = 2 then setSupplyBit s 5 (FX.ge v (FX.ofNat 44)) else s
  let s := if k < 2 then rangeE s (.supply (Fin.ofNat 2 k)) (supplyOut w) else s
  supplyChans s k 0 v

/-- The current drawn from the selected supply: InputPower and the current channels, 0.0 where not selected (R427, R428). -/
def takeAmps (s : State) (w : Nat) : State :=
  let src := sourceOf s
  let amps := FX.ofBits32 w
  let volts := s.f ([Ob.supplyVmVoltage, Ob.supplyVbVoltage].getD src Ob.supplyHoldupVoltage)
  let s := s.putF Ob.supplyInputPower (FX.mul amps volts)
  let one (s : State) (k : Nat) : State := supplyChans s k 1 (if src = k then amps else FX.zero)
  one (one s 0) 1

/-- A measured current against its load limit (R363, R394, R520). -/
def loadE (s : State) (p : Range) (amps limit : FX) : State := rangeE s p (FX.gt amps limit)

/-- A fan channel's current, against the limit of one channel (R394). -/
def fanAmps (s : State) (f : Fin 8) (amps : Nat) : State :=
  loadE (s.put (Ob.fanFanCurrent f) amps) (.fan f) (FX.ofBits32 amps) FX.one

/-- A pin's output current, against the limit of one pin (R363). -/
def pinAmps (s : State) (i : Fin 32) (amps : Word) : State :=
  loadE (pinCurrent s i amps) (.pin i) (FX.ofBits32 amps.toNat) (FX.ratio 1 2)

/-- Once every current of a boundary is in, those of each group and of all fans together are judged (R363, R394). -/
def totalLoads (s : State) (meas : List Measure) : State :=
  let pinOf (g : Nat) : Measure → Bool
    | .ioCurrent i _ => pinGroup i.val == g
    | _ => false
  let fan : Measure → Bool
    | .fanCurrent _ _ => true
    | _ => false
  let s := (List.finRange 4).foldl (fun s (g : Fin 4) =>
    if meas.any (pinOf g.val) then loadE s (.group g) (FX.ofBits32 (groupCurrent s g.val)) (FX.ofNat 4) else s) s
  if meas.any fan then
    loadE s .fans ((List.finRange 8).foldl (fun (x : FX) (f : Fin 8) => FX.add x (s.f (Ob.fanFanCurrent f))) FX.zero) (FX.ofNat 2)
  else s

/-- A figure beyond its absolute maximum (R519). -/
def beyondMax (s : State) (m : Measure) : Bool :=
  match m with
  | .supplyVolts k volts => decide (k.val < 2) && supplyBeyond s (Fin.ofNat 2 k.val) volts.toNat
  | .groupVolts _ volts => outside (FX.ofBits32 volts.toNat) (FX.ofInt (-36)) (FX.ofNat 36)
  | .msVolts rms => FX.gt (FX.ofBits32 rms.toNat) (FX.ofNat 42)
  | _ => false

/-- A figure read back at the boundary. -/
def takeMeasure (s : State) (m : Measure) : State :=
  match m with
  | .ioCurrent i amps => pinAmps s i amps
  | .groupVolts g volts =>
    let s := fieldE (s.put (Ob.groupSupplyVoltage g) volts.toNat) g (supplyOut volts.toNat)
    if g.val % 2 = 0 then supplyChans s (4 + g.val / 2) 0 (FX.ofBits32 volts.toNat) else s
  | .txCurrent a amps limit => txLimit (s.put (Ob.aiTxSupplyCurrent a) amps.toNat) a limit
  | .aoReadback o amps headroom saturated =>
    let s := aoReadback s o amps.toNat headroom.toNat saturated
    rangeE s (.aoLoad o) (aoBit s o 4)
  | .fanCurrent f amps => fanAmps s f amps.toNat
  | .supplyVolts k volts => takeVolts s k volts.toNat
  | .msVolts rms => if s.flag Ob.mpEnable then rangeE s .msVolts (outside (FX.ofBits32 rms.toNat) (FX.ofNat 6) (FX.ofNat 30)) else s
  | .supplyCurrent amps => takeAmps s amps.toNat
  | .junction .. => s

/-- The junctions' figures reach the shutdown comparator, which runs in every state and season (R415). -/
def takeJunctions (s : State) (meas : List Measure) : State :=
  meas.foldl (fun s m => match m with
    | .junction die celsius held => { s with supply := { s.supply with junctions := s.supply.junctions.set die ⟨celsius, held⟩ } }
    | _ => s) s

/-! ### The field die at a boundary (R24, R357–R405) -/

/-- The frame sent in the last tick arrives, valid or discarded (R24, R25, R371). -/
def takeDownstream (s : State) (downOk : Bool) : State :=
  if downOk then
    { s with link := { s.link with rx := s.link.sent, downAt := s.osc, downRun := min 100 (s.link.downRun + 1) } }
  else
    let s := maskedFault s 0 10
    { s.inc Ob.faultFieldLinkCrcErrors with link := { s.link with downRun := 0 } }

/-- A fan channel's part of the tick. -/
def fanTick (s : State) (f : Fin 8) : State := fanNotachTick (fanRunTick (fanApply (fanValueTick s f 10) f) f 10) f

/-- The field die applies the frame and carries its own supervision on. -/
def fieldTick (s : State) (downOk : Bool) (meas : List Measure) : State :=
  let s := takeDirections (takeDownstream s downOk)
  let s := totalLoads (meas.foldl takeMeasure s) meas
  let s := fieldDecide s
  let s := (List.finRange 32).foldl pinTick s
  let s := (List.finRange 8).foldl aoTick s
  (List.finRange 8).foldl fanTick s

/-- The field inputs that no sample entry writes are latched at the boundary (R24, R108); what lies on the core die is written
at once. -/
def latchField (s : State) : State :=
  (chansOfType s 1).foldl (fun s n =>
    if sampledByEntry s n then s
    else match fieldSource s (chanBind s n) with
      | none => s
      | some v => if onFieldDie s n then latchValue s n v.1 v.2 s.tickWc
                  else writeChan s n (scaled s n (FX.ofBits32 v.1)) v.2 s.tickWc) s

/-! ### The boundary -/

/-- Time reaches the next boundary, and the grain clocks have counted up to it (R86). -/
def nextTick (s : State) : State :=
  let t := s.tickWc + 10
  { pass s (t - s.wc) with tickWc := t, ticks := s.ticks + 1 }

/-- The boundary opens: the latch of the upstream frame is empty, and what was handed to the network is gone. -/
def openTick (s : State) : State :=
  let s := nextTick s
  { s with link := { s.link with latch := [], latchAt := s.tickWc }, net := { s.net with ethOut := [] } }

/-- What a boundary does while the module runs. The frame of the tick carries what was written before the boundary, an event of a grain clock
up to the boundary having had its effect on the operating state (R120, log entry 1), and what the tick's own output actions write;
everything else written at the boundary waits for the next one (R24). A reading whose midpoint this is takes its parcel before the
boundary's actions advance the parcels (DESIGN CHOICE, log entry 107). -/
def runTick (s : State) (downOk : Bool) (meas : List Measure) : State :=
  let s := openTick s
  let frame := fillFrame s
  let s := fieldTick s downOk meas
  let s := operateNow (carryRequests (dielTag (latchField s)))
  let r := schedulerTick s frame
  let s := flush r.s
  let s := noteLoad (drainStore s.storeQ.length s)
  { s with link := { s.link with sent := r.frame, upOpen := true } }

/-- A boundary in the last step of BOOT (R440): the field link's frames run, and inputs are read; every output stays off (log entry 51). -/
def bootTick (s : State) (downOk : Bool) (meas : List Measure) : State :=
  let s := takeDownstream (openTick s) downOk
  let s := latchField (meas.foldl takeMeasure s)
  { s with link := { s.link with upOpen := true } }

/-- TICK_BOUNDARY (R23, R83, R440). BOOT ends before its limit passes. Outside the running module the lines that a reset found go off (R437). -/
def tickNow (s : State) (downOk : Bool) (meas : List Measure) : State :=
  let s := if powered s then takeJunctions s meas else s
  match s.phase with
  | .run => runTick s downOk meas
  | .boot 8 => if s.osc + 10 ≤ 4500000 then bootTick { s with linesHeld := false } downOk meas else { s with linesHeld := false }
  | .boot _ | .off => { s with linesHeld := false }
  | _ => s

/-! ### The upstream frame (R23–R25, R257) -/

/-- The latched values of a valid frame reach the channel table. -/
def takeLatched (s : State) : State :=
  let s := s.link.latch.foldl (fun s l => writeChan s l.chan (scaled s l.chan (FX.ofBits32 l.raw)) l.stat l.at_) s
  (chansOfType s 2).foldl (fun s n => setChanBit s n 5 (notachOf s (chanBind s n))) s

/-- A discarded frame: its values are gone, also for sample actions still to be served (R25, R108). The hundredth in a row is the link fault
of R487, in BOOT too. -/
def discardFrame (s : State) : State :=
  let s := maskedFault (s.inc Ob.faultFieldLinkCrcErrors) 0 10
  let s := { s with late := s.late.map (fun (a : LateAction) =>
    if a.tick = s.ticks ∧ onFieldDie s (s.ob (Ob.entryActionTarget a.entry)) = true then { a with got := none } else a) }
  let bad := min 100 (s.link.upBad + 1)
  let s := { s with link := { s.link with upBad := bad, upGood := 0 } }
  if bad = 100 then faultFound s 2 else s

/-- A valid frame: NOTACH, silence causes, and the link fault gone after 100 of them (R376, R487). -/
def validFrame (s : State) : State :=
  let s := takeLatched s
  let good := min 100 (s.link.upGood + 1)
  let s := { s with link := { s.link with upBad := 0, upGood := good } }
  let s := if good = 100 then s.putBit Ob.faultFaultStatus 2 false else s
  raiseSilence s

/-- UPSTREAM_FRAME_COMPLETE, 8 µs after the boundary. -/
def upstreamNow (s : State) (crcOk : Bool) : State :=
  if clocksRun s && s.link.upOpen then
    let s := reach s 8
    let s := if crcOk then validFrame s else discardFrame s
    releaseAwaited { s with link := { s.link with latch := [], upOpen := false } }
  else s

end Sys2Proof.Machine
end

