-- ==== Sys2Proof/Machine/CoreCommands.lean ====
section
/-! DEFINITION. The commands of the tick, the store and its transfers (rows 1–18 of the opcode table): R23–R37, R53–R82, R336–R339, R438. -/
namespace Sys2Proof.Machine

/-- TICK_BOUNDARY (R83). With a figure beyond its absolute maximum the spec warrants nothing (R519). -/
def execTickBoundary (downOk : Bool) (meas : List Measure) (s : State) : Out :=
  if meas.any (beyondMax (nextTick s)) then .fault .absoluteMaximum else finish s (tickNow s downOk meas)

/-- UPSTREAM_FRAME_COMPLETE (R24). -/
def execUpstreamFrameComplete (crcOk : Bool) (s : State) : Out := finish s (upstreamNow s crcOk)

/-- CHANNEL_FETCH (R36). -/
def execChannelFetch (c : Fin 4096) (s : State) : Out := finish s (channelFetch s c)

/-- SRAM_SCRUB (R35, R484): what the round corrected. -/
def execSramScrub (sram dram nand : Nat) (s : State) : Out := finish s (scrubbed s sram dram nand)

/-- OBJECT_WRITE (R53). -/
def execObjectWrite (x : Sender) (idx : BitVec 16) (sub type : Byte) (data : List Byte) (s : State) : Out :=
  finish s (heard s x (writeObj s ⟨⟨originOf x, x.port.toNat, 0, false⟩, false, idx.toNat, sub.toNat, type.toNat, data, none, []⟩)).1

/-- A Worust request, where the server hears it (R331, R340). -/
def asked (q : Request) (s : State) (serve : Asker → State → State) : Out :=
  occurs s (hears s (askerOf q)) (serve (askerOf q))

/-- SEGOPEN (R61). -/
def execSegopen (q : Request) (idx : BitVec 16) (sub type : Byte) (write : Bool) (length : BitVec 32) (s : State) : Out :=
  asked q s (fun a s => serveOpen s a idx.toNat sub.toNat type.toNat write length.toNat)

/-- SEGMENT (R62). -/
def execSegment (q : Request) (seq : BitVec 7) (last : Bool) (data : List Byte) (s : State) : Out :=
  asked q s (fun a s => serveSegment s a seq.toNat last data)

/-- SEGEND (R62). -/
def execSegend (q : Request) (crc : BitVec 32) (s : State) : Out :=
  asked q s (fun a s => serveEnd s a crc.toNat)

/-- SEGMENT_TIMEOUT (R62). -/
def execSegmentTimeout (q : Request) (s : State) : Out := finish s (xferTimeout s (askerOf q))

/-- INDEX_SNAPSHOT_READ (R339): SEGOPEN of a read of subindex 0xFF. -/
def execIndexSnapshotRead (q : Request) (idx : BitVec 16) (s : State) : Out :=
  asked q s (fun a s => serveSnapshot s a idx.toNat)

/-- ENTER_PREOP (R76): StateCommand 1. -/
def execEnterPreop (x : Sender) (s : State) : Out :=
  writeByte s x Ob.opStateCommand 1 (stateCodes s 1) (stateEff 1)

/-- ENTER_OPERATE (R77): StateCommand 2. -/
def execEnterOperate (x : Sender) (s : State) : Out :=
  finish s (heard s x (submitOperate s (writeReq x Ob.opStateCommand .u8 (bytesLE 1 2)))).1

/-- CONSISTENCY_CHECK_END (R77). -/
def execConsistencyCheckEnd (s : State) : Out := occurs s (running s) checkEnd

/-- ENTER_SAFE (R76): StateCommand 3. -/
def execEnterSafe (x : Sender) (s : State) : Out :=
  writeByte s x Ob.opStateCommand 3 (stateCodes s 3) (stateEff 3)

/-- RESTART (R438): StateCommand 4. -/
def execRestart (x : Sender) (s : State) : Out :=
  writeByte s x Ob.opStateCommand 4 (stateCodes s 4) (stateEff 4)

/-- ACKNOWLEDGE (R74): StateCommand 5. -/
def execAcknowledge (x : Sender) (s : State) : Out :=
  writeByte s x Ob.opStateCommand 5 (stateCodes s 5) (stateEff 5)

/-- FIELD_OUTPUT_VALUE_WRITE (R67). -/
def execFieldOutputValueWrite (x : Sender) (c : Fin 4096) (value : Word) (s : State) : Out :=
  writeWord s x (Ob.chanValue c) .f32 value.toNat (dryerCodesOf s (0x2000 + c) 1) (valueEff c value.toNat)

/-- OPERATOR_VALUE_WRITE (R68). -/
def execOperatorValueWrite (x : Sender) (c : Fin 4096) (value : Word) (s : State) : Out :=
  writeWord s x (Ob.chanValue c) .f32 value.toNat (dryerCodesOf s (0x2000 + c) 1) (valueEff c value.toNat)

end Sys2Proof.Machine
end

