-- ==== Sys2Proof/Machine/FieldCommands.lean ====
section
/-! DEFINITION. The commands of the digital pins, the current loops, the RTD inputs and the fans (rows 117–154, 205): R357–R406. -/
namespace Sys2Proof.Machine

/-! ### Digital pins -/

/-- PIN_EDGE (R360): the comparator of pin i holds a new level; a pulse shorter than FilterTime is rejected. -/
def execPinEdge (i : Fin 32) (change : LevelChange) (s : State) : Out :=
  occurs s (running s && pinPasses s i change.held) (fun s => pinEdge (reach s change.off) i)

/-- PULSE_RATE_UPDATE (R361). -/
def execPulseRateUpdate (i : Fin 32) (s : State) : Out :=
  occurs s (running s && s.due (.pulseRate i) 10000) (fun s => pulseUpdate s i)

/-- WIREBREAK_SET (R362). -/
def execWirebreakSet (i : Fin 32) (s : State) : Out :=
  occurs s (running s && wireWatched s i && !pinBit s i 3) (fun s => wireBreak s i true)

/-- WIREBREAK_CLEAR (R362). -/
def execWirebreakClear (i : Fin 32) (s : State) : Out :=
  occurs s (running s && wireWatched s i && pinBit s i 3) (fun s => wireBreak s i false)

/-- OUTPUT_OVERLOAD (R365). -/
def execOutputOverload (i : Fin 32) (s : State) : Out :=
  occurs s (running s && s.pins[i].drive) (fun s => overload s i)

/-- OVERLOAD_RETRY (R365). -/
def execOverloadRetry (i : Fin 32) (s : State) : Out := occurs s (running s && retryDue s i) (fun s => overloadRetry s i)

/-- PIN_RESET (R365). -/
def execPinReset (x : Sender) (i : Fin 32) (s : State) : Out :=
  writeByte s x (Ob.pinPinReset i) 1 [] (fun s => clearLatch s i)

/-- OPEN_LOAD (R366). -/
def execOpenLoad (i : Fin 32) (s : State) : Out :=
  occurs s (running s && s.flag (Ob.pinOpenLoadEnable i) && s.pins[i].drive && !pinBit s i 7) (fun s => openLoad s i)

/-- FIELD_SUPPLY_WARNING (R369): FA for k = 0, FB for k = 1. -/
def execFieldSupplyWarning (k : Fin 2) (s : State) : Out :=
  occurs s (clocksRun s && !groupBit s (2 * k) 0) (fun s => supplyWarning s k)

/-- FIELD_SUPPLY_TRIP (R369). -/
def execFieldSupplyTrip (k : Fin 2) (s : State) : Out :=
  occurs s (clocksRun s && !groupBit s (2 * k) 1) (fun s => supplyTrip s k)

/-- FIELD_SUPPLY_RESTORE (R369). -/
def execFieldSupplyRestore (k : Fin 2) (s : State) : Out :=
  occurs s (clocksRun s && restorable s k) (fun s => supplyRestore s k)

/-- GROUP_RESET (R369). -/
def execGroupReset (x : Sender) (g : Fin 4) (s : State) : Out :=
  writeByte s x (Ob.groupGroupReset g) 1 (groupResetCodes s g) (groupResetEff g)

/-- SILENCE_DECLARED (R371). -/
def execSilenceDeclared (s : State) : Out := occurs s (running s && silenceDue s) silenceDeclared

/-- SILENCE_ALL_OFF (R371). -/
def execSilenceAllOff (s : State) : Out := occurs s (running s && allOffDue s) (fun s => toSilence s 2 13)

/-- SILENCE_END (R371). -/
def execSilenceEnd (s : State) : Out := occurs s (running s && silenceEndDue s) silenceEnd

/-- The check of the local copy, which an upset may have changed (R372). -/
def copyChecked (s : State) (upset : Bool) : State :=
  (checkCopy (if upset then { s with safeCrc := s.safeCrc ^^^ 1 } else s)).ran .safeCopy 10000

/-- SAFE_COPY_CHECK (R372). -/
def execSafeCopyCheck (upset : Bool) (s : State) : Out := occurs s (running s && s.due .safeCopy 10000) (fun s => copyChecked s upset)

/-! ### Current loops and RTD inputs -/

/-- A window that has ended, of a converter that is enabled: its result is taken. -/
def converted (s : State) (r : Conversion) : State :=
  match r with
  | .ai a x => if s.flag (Ob.aiEnable a) && windowEnded s s.ai[a].win then aiConverted s a x.toNat else s
  | .rt t ohms lead openA openB =>
    if rtExcitation s t != 0 && windowEnded s s.rt[t].win then rtConverted s t ohms.toNat lead.toNat openA openB else s

/-- A reading of an enabled AI pin beyond its absolute maximum: a current above 50 mA, or in Range 3 a voltage beyond 32 V (R519). -/
def readingBeyond (s : State) (r : Conversion) : Bool :=
  match r with
  | .ai a x =>
    let v := FX.ofBits32 x.toNat
    running s && s.flag (Ob.aiEnable a) &&
      (if s.ob (Ob.aiRange a) = 3 then outside v (FX.ofInt (-32)) (FX.ofNat 32) else FX.gt v (FX.to32 (FX.ratio 50 1000)))
  | .rt .. => false

/-- CONVERSION_WINDOW (R377). With a reading beyond its absolute maximum the spec warrants nothing (R519). -/
def execConversionWindow (result : Conversion) (s : State) : Out :=
  if readingBeyond s result then .fault .absoluteMaximum else occurs s (running s) (fun s => converted s result)

/-- AI_FAULT_CONFIRM (R380). -/
def execAiFaultConfirm (a : Fin 16) (cond : AiCond) (s : State) : Out :=
  occurs s (running s && s.flag (Ob.aiEnable a)) (fun s => condApply s a cond)

/-- AO_NOTACH (R386). -/
def execAoNotach (o : Fin 8) (s : State) : Out :=
  occurs s (running s) (fun s => match notachDue s o with | some v => notachChange s o v | none => s)

/-- OPENLOOP set (R386). -/
def openLoop (s : State) (o : Fin 8) : State := aoRaise (setAoBit s o 5 true) o 3

/-- AO_OPENLOOP (R386). -/
def execAoOpenloop (o : Fin 8) (s : State) : Out := occurs s (running s && openLoopDue s o) (fun s => openLoop s o)

/-- AO_OVERTEMP (R386). -/
def execAoOvertemp (o : Fin 8) (s : State) : Out := occurs s (running s && !aoBit s o 6) (fun s => overTemp s o)

/-- AO_OVERTEMP_RETRY (R386). -/
def execAoOvertempRetry (o : Fin 8) (s : State) : Out := occurs s (running s && overTempRetryDue s o) (fun s => overTempRetry s o)

/-- TRIM_DRIVE_LOW (R389). -/
def execTrimDriveLow (x : Sender) (o : Fin 8) (s : State) : Out :=
  writeByte s x (Ob.aoTrimCommand o) 1 (trimCodes s o 1) (trimEff o 1)

/-- TRIM_DRIVE_HIGH (R389). -/
def execTrimDriveHigh (x : Sender) (o : Fin 8) (s : State) : Out :=
  writeByte s x (Ob.aoTrimCommand o) 2 (trimCodes s o 2) (trimEff o 2)

/-- TRIM_APPLY (R389). -/
def execTrimApply (x : Sender) (o : Fin 8) (s : State) : Out :=
  writeByte s x (Ob.aoTrimCommand o) 3 (trimCodes s o 3) (trimEff o 3)

/-- TRIM_CANCEL (R389). -/
def execTrimCancel (x : Sender) (o : Fin 8) (s : State) : Out :=
  writeByte s x (Ob.aoTrimCommand o) 4 (trimCodes s o 4) (trimEff o 4)

/-- TRIM_MEASURED_WRITE (R389). -/
def execTrimMeasuredWrite (x : Sender) (o : Fin 8) (value : Word) (s : State) : Out :=
  writeWord s x (Ob.aoTrimMeasured o) .f32 value.toNat (trimMeasuredCodes s o) (trimMeasuredEff o value.toNat)

/-! ### Fans -/

/-- FAN_SPEED_REGULATE (R399). -/
def execFanSpeedRegulate (f : Fin 8) (s : State) : Out :=
  occurs s (running s && regulates s f && s.due (.fanSpeed f) 10000) (fun s => fanApply (regulate (s.ran (.fanSpeed f) 10000) f) f)

/-- FAN_KICK_TIMEOUT (R401). -/
def execFanKickTimeout (f : Fin 8) (s : State) : Out :=
  occurs s (running s) (fun s => match kickExpired s f with | some k => kickFailed s f k | none => s)

/-- FAN_RETRY (R401). -/
def execFanRetry (f : Fin 8) (s : State) : Out :=
  occurs s (running s) (fun s => match retryKick s f with | some k => fanApply (beginKick s f k) f | none => s)

/-- FAN_STALL (R402). -/
def execFanStall (f : Fin 8) (s : State) : Out := occurs s (running s && stallDue s f) (fun s => fanStalls s f)

/-- FAN_OVERLOAD (R402). -/
def execFanOverload (f : Fin 8) (s : State) : Out :=
  occurs s (running s && fanBit s f 0 && !fanBit s f 4) (fun s => fanOverload s f)

/-- FAN_OVERLOAD_RETRY (R402). -/
def execFanOverloadRetry (f : Fin 8) (s : State) : Out :=
  occurs s (running s && overloadRetryDue s f) (fun s => fanOverloadRetry s f)

/-- FAN_RESET (R402). -/
def execFanReset (x : Sender) (f : Fin 8) (s : State) : Out :=
  writeByte s x (Ob.fanFanReset f) 1 [] (fanResetEff f)

/-- FAN_LEARN (R403). -/
def execFanLearn (f : Fin 8) (s : State) : Out := occurs s (running s && learnDue s f) (fun s => learnEnd s f)

/-- TACH_EDGE (R398). -/
def execTachEdge (f : Fin 8) (off : Fin 10) (s : State) : Out := occurs s (running s) (fun s => tachEdge (reach s off) f)

/-- TACH_LOSS (R404). -/
def execTachLoss (f : Fin 8) (s : State) : Out := occurs s (running s && tachLossDue s f) (fun s => tachLost s f)

/-- TACH_JUDGE (R404). -/
def execTachJudge (f : Fin 8) (s : State) : Out := occurs s (running s && judgeDue s f) (fun s => tachJudge s f)

/-- FAN_NOTACH_TIMEOUT (R405). -/
def execFanNotachTimeout (f : Fin 8) (s : State) : Out := occurs s (running s && lagDue s f) (fun s => fanNotach s f true)

end Sys2Proof.Machine
end

