-- ==== Sys2Proof/Machine/LoopCommands.lean ====
section
/-! DEFINITION. The commands of the loop engines and the sequencer (rows 53–77): R205–R296. -/
namespace Sys2Proof.Machine

/-- SAMPLE_PULL (R213). -/
def execSamplePull (e : Fin 18) (off : Fin 10) (s : State) : Out := finish s (samplePull s e off)

/-- SAMPLE_COMMIT (R214): the service time and the time spent on missed channels, in ns. -/
def execSampleCommit (n : Fin 512) (serviceNs missNs : Nat) (off : Fin 10) (s : State) : Out :=
  finish s (sampleCommit s n serviceNs missNs off)

/-- LOOP_ACTIVATE (R209). -/
def execLoopActivate (x : Sender) (n : Fin 512) (s : State) : Out :=
  writeBool s x (Ob.loopActive n) true (activeCodes s n 1) (activeEff n 1)

/-- LOOP_DEACTIVATE (R209). -/
def execLoopDeactivate (x : Sender) (n : Fin 512) (s : State) : Out :=
  writeBool s x (Ob.loopActive n) false (activeCodes s n 0) (activeEff n 0)

/-- COEFF_APPLY (R223). -/
def execCoeffApply (x : Sender) (n : Fin 512) (s : State) : Out :=
  writeByte s x (Ob.loopCoeffApply n) 1 [] (coeffApplyEff n)

/-- REGION_APPLY (R243). -/
def execRegionApply (x : Sender) (n : Fin 512) (value : Byte) (s : State) : Out :=
  writeByte s x (Ob.profRegionApply n) value.toNat [] (regionApplyEff n value.toNat)

/-- INJECTION_START (R260). -/
def execInjectionStart (x : Sender) (d : Fin 32) (s : State) : Out :=
  writeByte s x (Ob.injCommand d) 1 (injCodes s d 1) (injEff d 1)

/-- INJECTION_END (R260). -/
def execInjectionEnd (x : Sender) (d : Fin 32) (s : State) : Out :=
  writeByte s x (Ob.injCommand d) 2 (injCodes s d 2) (injEff d 2)

/-- INJECTION_RELEASE (R260). -/
def execInjectionRelease (x : Sender) (d : Fin 32) (s : State) : Out :=
  writeByte s x (Ob.injCommand d) 3 (injCodes s d 3) (injEff d 3)

/-- TRACE_ENABLE (R265). -/
def execTraceEnable (x : Sender) (t : Fin 8) (s : State) : Out :=
  writeBool s x (Ob.traceEnable t) true [] (traceEnableEff t true)

/-- TRACE_REARM (R266). -/
def execTraceRearm (x : Sender) (t : Fin 8) (s : State) : Out :=
  writeByte s x (Ob.traceCommand t) 1 [] (traceCommandEff t 1)

/-- TRACE_TRIGGER_NOW (R266). -/
def execTraceTriggerNow (x : Sender) (t : Fin 8) (s : State) : Out :=
  writeByte s x (Ob.traceCommand t) 2 [] (traceCommandEff t 2)

/-- LOOP_LOAD_CHECK (R269). -/
def execLoopLoadCheck (s : State) : Out := occurs s (running s && s.due .loopLoad 1000000) loadCheck

/-- LOOP_ENGINE_FAILURE (R481), in BOOT once the loop contexts are loaded (R440, DESIGN CHOICE, log entry 106). -/
def execLoopEngineFailure (e : Fin 18) (s : State) : Out := occurs s (pairUp s .app) (fun s => engineFails s e)

/-- SEQUENCING_ROUND (R271). -/
def execSequencingRound (took : Nat) (s : State) : Out := finish s (roundDue s took)

/-- CHAIN_START (R279). -/
def execChainStart (x : Sender) (k : Fin 8) (s : State) : Out :=
  writeByte s x (Ob.chainCommand k) 1 (chainCodes s k 1) (chainLatch k 1)

/-- CHAIN_STOP (R280). -/
def execChainStop (x : Sender) (k : Fin 8) (s : State) : Out :=
  writeByte s x (Ob.chainCommand k) 2 (chainCodes s k 2) (chainLatch k 2)

/-- CHAIN_RESET (R281). -/
def execChainReset (x : Sender) (k : Fin 8) (s : State) : Out :=
  writeByte s x (Ob.chainCommand k) 3 (chainCodes s k 3) (chainLatch k 3)

/-- DRYER_START (R285). -/
def execDryerStart (x : Sender) (d : Fin 4) (s : State) : Out :=
  writeByte s x (Ob.dryerCommand d) 1 (dryerCodes s d 1) (dryerLatch d 1)

/-- DRYER_STOP (R285). -/
def execDryerStop (x : Sender) (d : Fin 4) (s : State) : Out :=
  writeByte s x (Ob.dryerCommand d) 2 (dryerCodes s d 2) (dryerLatch d 2)

/-- DRYER_EMPTY (R285). -/
def execDryerEmpty (x : Sender) (d : Fin 4) (s : State) : Out :=
  writeByte s x (Ob.dryerCommand d) 3 (dryerCodes s d 3) (dryerLatch d 3)

/-- DRYER_RESET (R285). -/
def execDryerReset (x : Sender) (d : Fin 4) (s : State) : Out :=
  writeByte s x (Ob.dryerCommand d) 4 (dryerCodes s d 4) (dryerLatch d 4)

/-- AERATION_EVALUATE (R292). -/
def execAerationEvaluate (s : State) : Out := finish s (aerationDue s)

/-- AERATION_MODE_WRITE (R294). -/
def execAerationModeWrite (x : Sender) (b : Fin 64) (mode : Byte) (s : State) : Out :=
  writeByte s x (Ob.aerMode b) mode.toNat (aerModeCodes s b mode.toNat) (fun s => s.put (Ob.aerMode b) mode.toNat)

/-- AERATION_RESET (R295). -/
def execAerationReset (x : Sender) (b : Fin 64) (s : State) : Out :=
  writeByte s x (Ob.aerCommand b) 1 (aerCodes s b) (aerLatch b)

end Sys2Proof.Machine
end

