-- ==== Sys2Proof/Machine/NetCommands.lean ====
section
/-! DEFINITION. The commands of the Worust transport, the Ethernet ports and the wake detectors (rows 94–116, 204, 206): R330–R356. -/
namespace Sys2Proof.Machine

/-- WORUST_READ (R336). -/
def execWorustRead (q : Request) (idx : BitVec 16) (sub : Byte) (s : State) : Out :=
  asked q s (fun a s => serveRead s a idx.toNat sub.toNat)

/-- WORUST_WRITE (R336). -/
def execWorustWrite (q : Request) (idx : BitVec 16) (sub type : Byte) (data : List Byte) (s : State) : Out :=
  asked q s (fun a s => serveWrite s a idx.toNat sub.toNat type.toNat data)

/-- WORUST_ABORT (R338). -/
def execWorustAbort (q : Request) (code : BitVec 32) (s : State) : Out :=
  asked q s (fun a s => serveAbort s a code.toNat)

/-- SEGMENT_ACK (R338). -/
def execSegmentAck (q : Request) (next : BitVec 7) (s : State) : Out :=
  asked q s (fun a s => serveAck s a next.toNat)

/-- CONT_TIMEOUT (R333). -/
def execContTimeout (n : Fin 4) (s : State) : Out := occurs s (firmwareRuns s) (fun s => contTimeout s n)

/-- UDP_DATAGRAM (R340). -/
def execUdpDatagram (e : Fin 2) (addr : BitVec 32) (port : BitVec 16) (data : Datagram) (s : State) : Out :=
  finish s (udpDatagram s e addr.toNat port.toNat data)

/-- POINT_RECEIVED (R342): the frame's start-of-frame `age` µs ago. -/
def execPointReceived (n : Fin 4) (node : BitVec 7) (point : BitVec 16) (value : Word) (flags : Byte) (age : Nat) (s : State) : Out :=
  occurs s (serverUp s && s.bus[n].started) (fun s => pointReceived s n node.toNat (point.toNat % 256) value.toNat flags.toNat (ago s age))

/-- POINT_TIMEOUT (R342): node × 256 + point. -/
def execPointTimeout (n : Fin 4) (point : BitVec 16) (s : State) : Out := finish s (pointLapse s n point.toNat)

/-- PUBLICATION_PERIOD (R343). -/
def execPublicationPeriod (q : Fin 32) (s : State) : Out := occurs s (pubDue s q) (fun s => pubPeriodic s q)

/-- PUBLICATION_DELTA_CHECK (R343): every 10 ms. -/
def execPublicationDeltaCheck (q : Fin 32) (s : State) : Out :=
  occurs s (running s && s.due (.publication q) 10000)
    (fun s => if pubMoved s q then publish (s.ran (.publication q) 10000) q else s.ran (.publication q) 10000)

/-- SYNC_INTERVAL (R345). -/
def execSyncInterval (n : Fin 4) (s : State) : Out :=
  occurs s (firmwareRuns s && masterDue s n) (fun s => syncMaster s n)

/-- TIME_SYNC (R345): the frame's start-of-frame `age` µs before WC offset `off` of the tick. -/
def execTimeSync (n : Fin 4) (seq : Byte) (age : Nat) (off : Fin 10) (s : State) : Out :=
  occurs s (firmwareRuns s && s.bus[n].started) (fun s => timeSync (reach s off) n seq.toNat (ago (reach s off) age) (reach s off).osc)

/-- TIME_FOLLOW_UP (R345). -/
def execTimeFollowUp (n : Fin 4) (seq : Byte) (master : BitVec 64) (s : State) : Out :=
  occurs s (firmwareRuns s && s.bus[n].started) (fun s => timeFollowUp s n seq.toNat master.toNat s.osc)

/-- TIME_POLL (R346). -/
def execTimePoll (s : State) : Out := occurs s (running s && ipUp s && pollDue s) timePoll

/-- TIME_REPLY (R346): received at WC offset `off` of the tick. -/
def execTimeReply (tid : BitVec 16) (t2 t3 : BitVec 64) (off : Fin 10) (s : State) : Out :=
  occurs s (firmwareRuns s) (fun s => timeReply (reach s off) tid.toNat t2.toNat t3.toNat)

/-- LINK_CHANGE (R350). -/
def execLinkChange (e : Fin 2) (status : Fin 6) (s : State) : Out := finish s (linkChange s e status)

/-- DHCP_LEASE_LAPSE (R349). -/
def execDhcpLeaseLapse (s : State) : Out := occurs s (running s && leaseLapsed s) dhcpLapse

/-- DHCP_RETRY (R349). -/
def execDhcpRetry (s : State) : Out := occurs s (running s && dhcpRetryDue s) dhcpRetry

/-- DHCP_BOUND (R349). -/
def execDhcpBound (addr mask seconds : BitVec 32) (s : State) : Out :=
  finish s (dhcpBound s addr.toNat mask.toNat seconds.toNat)

/-- ADDRESS_CONFLICT (R349). -/
def execAddressConflict (sender : BitVec 32) (s : State) : Out := finish s (addressConflict s sender.toNat)

/-- BROADCAST_STORM (R348). -/
def execBroadcastStorm (e : Fin 2) (dropped : Nat) (s : State) : Out := finish s (broadcastStorm s e dropped)

/-- WAKE_PATTERN (R352). -/
def execWakePattern (n : Fin 4) (s : State) : Out := finish s (wakePattern s n)

/-- WAKE_FRAME (R352). -/
def execWakeFrame (n : Fin 4) (frame : CanFrame) (s : State) : Out := finish s (wakeFrame s n (carriedFrame frame))

/-- WAKE_FRAME_ERRORS (R352). -/
def execWakeFrameErrors (n : Fin 4) (s : State) : Out := finish s (wakeErrors s n)

/-- WAKE_FRAME_DECODED (R352). -/
def execWakeFrameDecoded (n : Fin 4) (good : Bool) (s : State) : Out := finish s (wakeDecoded s n good)

end Sys2Proof.Machine
end

