-- ==== Sys2Proof/Machine/PlantCommands.lean ====
section
/-! DEFINITION. The commands of the parcel table, the ledger, the drying model and the dielectric front end (rows 32–52): R125–R204. -/
namespace Sys2Proof.Machine

/-- PATH_ENABLE (R130). -/
def execPathEnable (x : Sender) (p : Fin 16) (on : Bool) (s : State) : Out :=
  writeBool s x (Ob.pathEnable p) on (pathEnableCodes s p (ofBool on)) (pathEnableEff p (ofBool on))

/-- PURGE (R146). -/
def execPurge (x : Sender) (p : Fin 16) (s : State) : Out :=
  writeByte s x (Ob.pathPurge p) 1 (purgeCodes s) (fun s => purgePath s p)

/-- ADJUST_ADD (R147). -/
def execAdjustAdd (x : Sender) (b : Fin 64) (s : State) : Out :=
  writeByte s x (Ob.binAdjustCommand b) 1 (adjustCodes s b 1) (adjustEff b 1)

/-- ADJUST_REMOVE (R147). -/
def execAdjustRemove (x : Sender) (b : Fin 64) (s : State) : Out :=
  writeByte s x (Ob.binAdjustCommand b) 2 (adjustCodes s b 2) (adjustEff b 2)

/-- ADJUST_EMPTY (R147). -/
def execAdjustEmpty (x : Sender) (b : Fin 64) (s : State) : Out :=
  writeByte s x (Ob.binAdjustCommand b) 3 (adjustCodes s b 3) (adjustEff b 3)

/-- LEDGER_RESET (R145). -/
def execLedgerReset (x : Sender) (s : State) : Out :=
  writeByte s x Ob.ledgerLedgerReset 1 (ledgerResetCodes s) ledgerReset

/-- ARCHIVE_PAGE_WRITE (R149). -/
def execArchivePageWrite (s : State) : Out := occurs s (running s) archivePageWrite

/-- A periodic checkpoint begins, and the next one is due a Period later. -/
def ckptPeriodic (s : State) : State :=
  setPlant (ckptStart s 1) (fun d => { d with ckptDue := s.plant.ckptDue + s.micros Ob.ckptPeriod })

/-- CHECKPOINT_PERIODIC (R152). -/
def execCheckpointPeriodic (s : State) : Out := occurs s (checkpointDue s) ckptPeriodic

/-- The checkpoint being written becomes valid; behind a power-fail checkpoint come the journal and the counters (R153, R462);
behind that of a Winter entry they come as Winter is reached (R432). -/
def ckptValid (s : State) : State :=
  if (s.plant.ckptRun.map (fun r => r.kind)) = some 2 ∧ s.winter.stage ≠ 2 then powerFailWrite (ckptFinish s) else ckptFinish s

/-- CHECKPOINT_VALID (R152). -/
def execCheckpointValid (s : State) : Out := occurs s (running s) ckptValid

/-- MODEL_STEP_TIMED (R158). -/
def execModelStepTimed (p : Fin 16) (s : State) : Out := finish s (stepTimed s p)

/-- MODEL_STEP_FALLBACK (R158). -/
def execModelStepFallback (p : Fin 16) (s : State) : Out := finish s (stepFallback s p)

/-- MODEL_STEP_END (R178). -/
def execModelStepEnd (p : Fin 16) (s : State) : Out := occurs s (running s) (fun s => modelPublish s p)

/-- DIELECTRIC_CYCLE (R187). -/
def execDielectricCycle (s : State) : Out := finish s (dielectricCycle s)

/-- DIELECTRIC_SLOT (R187). -/
def execDielectricSlot (c : Fin 4) (s : State) : Out := finish s (dielectricSlot s c)

/-- DIELECTRIC_READING (R197). -/
def execDielectricReading (c : Fin 4) (sweep : List SweepPoint) (front : SlotFaults) (engine : Bool) (s : State) : Out :=
  finish s (dielectricReading s c sweep front engine)

/-- CAL_CAPTURE_EMPTY (R193). -/
def execCalCaptureEmpty (x : Sender) (c : Fin 4) (s : State) : Out :=
  writeByte s x (Ob.cellCalCommand c) 1 (calCodes s c 1) (calStart 1 c)

/-- CAL_CAPTURE_REFERENCE (R193). -/
def execCalCaptureReference (x : Sender) (c : Fin 4) (s : State) : Out :=
  writeByte s x (Ob.cellCalCommand c) 2 (calCodes s c 2) (calStart 2 c)

/-- CAL_CAPTURE_DONE (R194): the 16 sweeps of a capture are complete. -/
def execCalCaptureDone (c : Fin 4) (s : State) : Out :=
  occurs s (running s && s.diel.cells[c].capture != 0 && decide (16 ≤ s.diel.cells[c].sweeps)) (fun s => captureDone s c)

/-- CAL_ACCEPT (R193). -/
def execCalAccept (x : Sender) (c : Fin 4) (s : State) : Out :=
  writeByte s x (Ob.cellCalCommand c) 3 (calCodes s c 3) (calAccept c)

/-- CAL_DISCARD (R193). -/
def execCalDiscard (x : Sender) (c : Fin 4) (s : State) : Out :=
  writeByte s x (Ob.cellCalCommand c) 4 (calCodes s c 4) (calDiscard c)

/-- CALDATA_WRITE (R192). -/
def execCaldataWrite (x : Sender) (c : Fin 4) (data : List Byte) (s : State) : Out :=
  writeBlock s x (Ob.calDataCalData c) data (calDataCodes data) (calDataEff c data)

end Sys2Proof.Machine
end

