-- ==== Sys2Proof/Machine/PowerCommands.lean ====
section
/-! DEFINITION. The commands of thermal management, the supplies, the seasons and start-up (rows 155–176): R407–R446. -/
namespace Sys2Proof.Machine

/-! ### Thermal management -/

/-- HOUSEKEEPING_ROUND (R407): once for each WC multiple of 250 ms, the sixteen sensors, and the base plate's temperature. Beyond −45 °C to
85 °C the spec warrants nothing (R519). -/
def execHousekeepingRound (reads : List TsRead) (base : Word) (s : State) : Out :=
  if policyRuns s && baseBeyond base.toNat then .fault .absoluteMaximum else occurs s (policyRuns s && s.dueAtWc .thermalRound 250000)
    (fun s => housekeeping (s.ranAtWc .thermalRound 250000) reads base.toNat)

/-- FAST_SAMPLE (R408): while fast sampling is on, once for each WC multiple of 10 ms. -/
def execFastSample (reads : List TsRead) (s : State) : Out :=
  occurs s (policyRuns s && fastRuns s && s.dueAtWc .fastSample 10000)
    (fun s => fastSample (s.ranAtWc .fastSample 10000) reads)

/-- GRACE_END (R413), in a housekeeping round (R407). -/
def execGraceEnd (s : State) : Out := occurs s (policyRuns s && graceDue s) graceEnd

/-- LEVEL_INTERVAL (R413), in a housekeeping round (R407). -/
def execLevelInterval (s : State) : Out := occurs s (policyRuns s && levelDue s) levelMoves

/-- SUBSTHOLD_TIMEOUT (R414), in a housekeeping round (R407). -/
def execSubstholdTimeout (s : State) : Out := occurs s (policyRuns s && holdDue s) holdEnd

/-- THERMAL_SHUTDOWN (R416). -/
def execThermalShutdown (s : State) : Out := finish s (thermalShutdown s)

/-- HALT_CLEAR (R416). -/
def execHaltClear (s : State) : Out := finish s (haltClear s)

/-! ### Supplies -/

/-- VM_FAIL (R421): `programming`, whether an update block is being programmed (R472). -/
def execVmFail (programming : Bool) (s : State) : Out := finish s (vmFail s programming)

/-- VM_GOOD (R421). -/
def execVmGood (s : State) : Out := finish s (vmGood s)

/-- VB_LOST (R421): `vmAbove`, whether VM stands at 19.0 V or more. -/
def execVbLost (vmAbove programming : Bool) (s : State) : Out := finish s (vbLost s vmAbove programming)

/-- VB_AVAILABLE (R420). -/
def execVbAvailable (s : State) : Out := finish s (vbAvailable s)

/-- OVERVOLT (R420): a supply that has stood above 32.0 V, or at or below 31.5 V. Beyond its ratings the spec warrants nothing (R519). -/
def execOvervolt (k : Fin 2) (volts : Word) (s : State) : Out :=
  if supplyBeyond s k volts.toNat then .fault .absoluteMaximum else finish s (overVolt s k volts.toNat)

/-- HOLDUP_SUPPLY_RETURN (R424). -/
def execHoldupSupplyReturn (vm : Bool) (s : State) : Out := finish s (holdupReturn s vm)

/-- HOLDUP_END (R423). -/
def execHoldupEnd (s : State) : Out := finish s (holdupEnd s)

/-- HOLDUP_TEST (R425): the capacitance measured. -/
def execHoldupTest (farads : Word) (s : State) : Out := finish s (holdupTest s farads.toNat)

/-! ### Winter and start-up -/

/-- WINTER_COMMAND (R431). -/
def execWinterCommand (x : Sender) (s : State) : Out := writeByte s x Ob.seasonWinterCommand 1 (winterCodes s) winterEff

/-- WINTER_BUFFER_WAIT_END (R351). -/
def execWinterBufferWaitEnd (s : State) : Out := finish s (winterWaitEnd s)

/-- WINTER_REACHED (R432). -/
def execWinterReached (s : State) : Out := finish s (winterReached s)

/-- POWER_ON (R439): which supplies qualify, and the resistances the strap sampling reads. -/
def execPowerOn (vm vb : Bool) (t0 t1 key : List Nat) (s : State) : Out := finish s (powerOn s vm vb t0 t1 key)

/-- RAIL_FAULT (R436): no checkpoint, a reset of cause 6. -/
def execRailFault (s : State) : Out := occurs s (railsUp s) (fun s => resetNow s 6 s.straps [])

/-- BOOT_STEP (R440): the time the step took, and at step 4 the store's capacitance and the voltage it has reached. -/
def execBootStep (micros : Nat) (farads volts : Word) (s : State) : Out :=
  finish s (bootStep s micros farads.toNat volts.toNat)

/-- END_OF_BOOT (R443). -/
def execEndOfBoot (micros : Nat) (s : State) : Out := finish s (endOfBoot s micros)

end Sys2Proof.Machine
end

