-- ==== Sys2Proof/Machine/StoreCommands.lean ====
section
/-! DEFINITION. The commands of the configuration store, the journal, security and fault masking (rows 177–200, 207, 208): R447–R493, R506. -/
namespace Sys2Proof.Machine

/-! ### Configuration and journal -/

/-- CONFIG_COMMIT (R451). -/
def execConfigCommit (x : Sender) (s : State) : Out :=
  writeByte s x Ob.configConfigCommand 1 (configCodes s 1) (configEff (originOf x) 1)

/-- COMMIT_DONE (R451). -/
def execCommitDone (nandOk : Bool) (s : State) : Out := occurs s (running s) (fun s => commitDone s nandOk)

/-- CONFIG_REVERT (R453): the write, then the record of the revert. -/
def execConfigRevert (x : Sender) (s : State) : Out :=
  let w := writeReq x Ob.configConfigCommand .u8 (bytesLE 1 2)
  finish s (heard s x (afterWrite w (submit s w (oldBytes s w.idx w.sub) (configCodes s 2) (configEff (originOf x) 2)))).1

/-- The enable of a plane: control, data, management. -/
def enableKey (p : Fin 3) : Nat := key 0x9010 (p.val + 1)

/-- ENABLE_WRITE (R457). -/
def execEnableWrite (x : Sender) (plane : Fin 3) (value : Byte) (s : State) : Out :=
  writeByte s x (enableKey plane) value.toNat (valueCodes s 0x9010 (plane + 1) value.toNat) (fun s => s.put (enableKey plane) value.toNat)

/-- A sample of CFG_EN#, in volts (R514): low at or below 1.0 V, high at or above 2.5 V, between them as before; asserted after ten in a
row that read low (R456). -/
def sampleKey (s : State) (volts : Nat) : State :=
  let v := FX.ofBits32 volts
  let low := FX.le v FX.one || (FX.lt v (FX.ratio 5 2) && decide (0 < s.sec.keyLow))
  let n := if low then min 10 (s.sec.keyLow + 1) else 0
  { s.putFlag Ob.enableKeyAsserted (decide (n = 10)) with sec := { s.sec with keyLow := n } }

/-- CFG_EN# beyond its absolute maximum (R519). -/
def keyBeyond (volts : Nat) : Bool := outside (FX.ofBits32 volts) (FX.neg (FX.ratio 1 2)) (FX.ofNat 32)

/-- CFG_EN_SAMPLE (R514): every 1 ms, in BOOT too. Beyond −0.5 V to 32 V the spec warrants nothing (R519). -/
def execCfgEnSample (volts : Word) (s : State) : Out :=
  if keyBeyond volts.toNat then .fault .absoluteMaximum else occurs s (railsUp s && s.due .keySample 1000) (fun s => sampleKey (s.ran .keySample 1000) volts.toNat)

/-- JOURNAL_CHAIN (R460). -/
def execJournalChain (s : State) : Out := occurs s (chains s) chainNext

/-- JOURNAL_PAGE_WRITE (R462). -/
def execJournalPageWrite (s : State) : Out := occurs s (chains s) pageWrite

/-! ### Images, recovery and erasure -/

/-- UPDATE_BEGIN (R472). -/
def execUpdateBegin (x : Sender) (s : State) : Out :=
  writeByte s x Ob.updateUpdateCommand 1 (updateCodes s 1) (updateEff 1)

/-- UPDATE_BLOCK (R472). -/
def execUpdateBlock (x : Sender) (data : List Byte) (s : State) : Out :=
  writeBlock s x Ob.updateUpdateBlock data (updateBlockCodes s) (updateBlockEff data)

/-- UPDATE_VERIFY (R472): a failure aborts the write and shows in UpdateState. -/
def execUpdateVerify (x : Sender) (s : State) : Out :=
  let w := writeReq x Ob.updateUpdateCommand .u8 (bytesLE 1 2)
  finish s (heard s x (afterWrite w (submit s w (oldBytes s w.idx w.sub) (updateCodes s 2) (updateEff 2)))).1

/-- UPDATE_ACTIVATE (R472). -/
def execUpdateActivate (x : Sender) (s : State) : Out :=
  writeByte s x Ob.updateUpdateCommand 3 (updateCodes s 3) (updateEff 3)

/-- UPDATE_ABANDON (R472). -/
def execUpdateAbandon (x : Sender) (s : State) : Out :=
  writeByte s x Ob.updateUpdateCommand 4 (updateCodes s 4) (updateEff 4)

/-- RECOVERY_IMAGE_START (R473). -/
def execRecoveryImageStart (addr : BitVec 32) (port : BitVec 16) (s : State) : Out :=
  occurs s (recoveryRuns s) (fun s => recoveryStart s addr.toNat port.toNat)

/-- RECOVERY_IMAGE_DATA (R473). -/
def execRecoveryImageData (addr : BitVec 32) (port : BitVec 16) (offset : BitVec 32) (data : List Byte) (s : State) : Out :=
  occurs s (recoveryRuns s) (fun s => recoveryData s offset.toNat data addr.toNat port.toNat)

/-- RECOVERY_IMAGE_END (R473). -/
def execRecoveryImageEnd (addr : BitVec 32) (port : BitVec 16) (s : State) : Out :=
  occurs s (recoveryRuns s) (fun s => recoveryEnd s addr.toNat port.toNat)

/-- ERASE_ARM (R475). -/
def execEraseArm (x : Sender) (value : BitVec 16) (s : State) : Out :=
  finish s (writeKey s x Ob.eraseEraseArm .u16 (bytesLE 2 value.toNat) (eraseArmCodes s) eraseArmEff).1

/-- ERASE_COMMAND (R475). -/
def execEraseCommand (x : Sender) (value : Byte) (s : State) : Out :=
  writeByte s x Ob.eraseEraseCommand value.toNat (eraseCodes s) eraseEff

/-- ERASE_BLANK (R475). -/
def execEraseBlank (s : State) : Out := finish s (eraseBlank s)

/-! ### Fault masking -/

/-- PARCEL_ENGINE_FAILURE (R482). -/
def execParcelEngineFailure (s : State) : Out := finish s (parcelEngineFails s)

/-- LOCKSTEP_MISMATCH (R483): whether the pair has completed a checkpoint since its last mismatch. -/
def execLockstepMismatch (p : Pair) (checkpointed : Bool) (s : State) : Out := finish s (lockstep s p checkpointed)

/-- PAIR_RESTART_DONE (R483). -/
def execPairRestartDone (p : Pair) (s : State) : Out := finish s (pairDone s p)

/-- UNCORRECTABLE_ERROR (R484). -/
def execUncorrectableError (m : MemContent) (s : State) : Out := finish s (uncorrectable s m)

/-- INTERNAL_FAULT (R487). -/
def execInternalFault (kind : InternalKind) (s : State) : Out := finish s (internalFault s kind)

/-- COUNTER_SAVE (R493). -/
def execCounterSave (s : State) : Out := finish s (counterSave s)

/-- ENC24_CURRENT_LIMIT (R506): the pin in limit, or of the eight together the one that carries most. -/
def execEnc24CurrentLimit (pin : Fin 8) (s : State) : Out :=
  occurs s (railsUp s && !s.enc[pin].off) (fun s => encLimit s pin)

/-- ENC24_RETRY (R506). -/
def execEnc24Retry (k : Fin 8) (s : State) : Out := occurs s (railsUp s && encRetryDue s k) (fun s => encRetry s k)

end Sys2Proof.Machine
end

