-- ==== Sys2Proof/Machine/TimeCommands.lean ====
section
/-! DEFINITION. The commands of the timebases, the schedule and the event router (rows 19–31, 201, 202): R83–R124. -/
namespace Sys2Proof.Machine

/-- GC_EDGE (R86): a change of clock k's lines that held for `held` ns. -/
def execGcEdge (k : Fin 8) (line : GcLine) (held : Nat) (moment : EdgeMoment) (s : State) : Out :=
  occurs s (clocksRun s) (fun s => gcEdgeAt (reach s moment.off) k line held moment.ns)

/-- GC_RATE_UPDATE (R89). -/
def execGcRateUpdate (k : Fin 8) (s : State) : Out :=
  occurs s (clocksRun s && s.flag (Ob.gcEnable k) && s.due (.gcRate k) 10000) (fun s => gcUpdate s k)

/-- GC_STALL (R89). -/
def execGcStall (k : Fin 8) (s : State) : Out := occurs s (clocksRun s && gcStalled s k) (fun s => gcStallNow s k)

/-- GC_SIGNAL_LOSS (R91). -/
def execGcSignalLoss (k : Fin 8) (s : State) : Out := occurs s (clocksRun s) (fun s => gcSignal s k true)

/-- GC_SIGNAL_RETURN (R91). -/
def execGcSignalReturn (k : Fin 8) (s : State) : Out := occurs s (clocksRun s) (fun s => gcSignal s k false)

/-- QERR_EXPIRY (R91). -/
def execQerrExpiry (k : Fin 8) (s : State) : Out :=
  occurs s (clocksRun s && qerrOver s k) (fun s => s.putBit (Ob.gcStatus k) 2 false)

/-- MP_CROSSING (R93). -/
def execMpCrossing (off : Fin 10) (s : State) : Out := occurs s (clocksRun s) (fun s => mpCross (reach s off))

/-- MP_MISS (R94). -/
def execMpMiss (s : State) : Out := occurs s (clocksRun s && mpMissDue s) mpMissNow

/-- MP_LOST (R95). -/
def execMpLost (s : State) : Out := occurs s (clocksRun s && mpLostDue s) mpLostNow

/-- WC_SLEW_STEP (R99). -/
def execWcSlewStep (s : State) : Out := occurs s (clocksRun s && slewDue s) slewStep

/-- WC_RATE_STEP (R99). -/
def execWcRateStep (s : State) : Out := occurs s (clocksRun s && rateDue s) rateStep

/-- WC_TIME_WRITE (R100). -/
def execWcTimeWrite (x : Sender) (time : BitVec 64) (s : State) : Out :=
  writeLong s x Ob.wcTime time.toNat (wcTimeCodes s) (wcTimeEff time.toNat)

/-- SYNC_LOSS (R102). -/
def execSyncLoss (s : State) : Out := occurs s (running s && syncLossDue s) syncLossNow

/-- ENTRY_ENABLE_WRITE (R111): Enable or Target of a schedule entry. -/
def execEntryEnableWrite (x : Sender) (e : Fin 1024) (w : EntryWrite) (s : State) : Out :=
  match w with
  | .enable on => writeBool s x (Ob.entryEnable e) on [] (entryEnableEff e on)
  | .target v => writeLong s x (Ob.entryTarget e) v.toNat (targetCodes s e v.toNat) (entryTargetEff e v.toNat)

/-- Firmware reads the oldest record it holds; the credit returns with it. -/
def readRecord (s : State) : State := { s with router := { s.router with cores := s.router.cores.drop 1 } }

/-- EVENT_RECORD_READ (R117). -/
def execEventRecordRead (s : State) : Out := occurs s (firmwareRuns s) readRecord

end Sys2Proof.Machine
end

