-- ==== Sys2Proof/Machine/Dispatch.lean ====
section
/-! DEFINITION. The effect of each command: one arm per constructor, in the order of the opcode table. -/
namespace Sys2Proof.Machine

def exec (i : Instr) (s : State) : Host.Outcome State Fault Refusal :=
  match i with
  | .tickBoundary downOk meas => Sys2Proof.Machine.execTickBoundary downOk meas s
  | .upstreamFrameComplete crcOk => Sys2Proof.Machine.execUpstreamFrameComplete crcOk s
  | .channelFetch c => Sys2Proof.Machine.execChannelFetch c s
  | .sramScrub sram dram nand => Sys2Proof.Machine.execSramScrub sram dram nand s
  | .objectWrite x idx sub type data => Sys2Proof.Machine.execObjectWrite x idx sub type data s
  | .segopen q idx sub type write length => Sys2Proof.Machine.execSegopen q idx sub type write length s
  | .segment q seq last data => Sys2Proof.Machine.execSegment q seq last data s
  | .segend q crc => Sys2Proof.Machine.execSegend q crc s
  | .segmentTimeout q => Sys2Proof.Machine.execSegmentTimeout q s
  | .indexSnapshotRead q idx => Sys2Proof.Machine.execIndexSnapshotRead q idx s
  | .enterPreop x => Sys2Proof.Machine.execEnterPreop x s
  | .enterOperate x => Sys2Proof.Machine.execEnterOperate x s
  | .consistencyCheckEnd => Sys2Proof.Machine.execConsistencyCheckEnd s
  | .enterSafe x => Sys2Proof.Machine.execEnterSafe x s
  | .restart x => Sys2Proof.Machine.execRestart x s
  | .acknowledge x => Sys2Proof.Machine.execAcknowledge x s
  | .fieldOutputValueWrite x c value => Sys2Proof.Machine.execFieldOutputValueWrite x c value s
  | .operatorValueWrite x c value => Sys2Proof.Machine.execOperatorValueWrite x c value s
  | .gcEdge k line held moment => Sys2Proof.Machine.execGcEdge k line held moment s
  | .gcRateUpdate k => Sys2Proof.Machine.execGcRateUpdate k s
  | .gcStall k => Sys2Proof.Machine.execGcStall k s
  | .gcSignalLoss k => Sys2Proof.Machine.execGcSignalLoss k s
  | .mpCrossing off => Sys2Proof.Machine.execMpCrossing off s
  | .mpMiss => Sys2Proof.Machine.execMpMiss s
  | .mpLost => Sys2Proof.Machine.execMpLost s
  | .wcSlewStep => Sys2Proof.Machine.execWcSlewStep s
  | .wcRateStep => Sys2Proof.Machine.execWcRateStep s
  | .wcTimeWrite x time => Sys2Proof.Machine.execWcTimeWrite x time s
  | .syncLoss => Sys2Proof.Machine.execSyncLoss s
  | .entryEnableWrite x e w => Sys2Proof.Machine.execEntryEnableWrite x e w s
  | .eventRecordRead => Sys2Proof.Machine.execEventRecordRead s
  | .pathEnable x p on => Sys2Proof.Machine.execPathEnable x p on s
  | .purge x p => Sys2Proof.Machine.execPurge x p s
  | .adjustAdd x b => Sys2Proof.Machine.execAdjustAdd x b s
  | .adjustRemove x b => Sys2Proof.Machine.execAdjustRemove x b s
  | .adjustEmpty x b => Sys2Proof.Machine.execAdjustEmpty x b s
  | .ledgerReset x => Sys2Proof.Machine.execLedgerReset x s
  | .archivePageWrite => Sys2Proof.Machine.execArchivePageWrite s
  | .checkpointPeriodic => Sys2Proof.Machine.execCheckpointPeriodic s
  | .checkpointValid => Sys2Proof.Machine.execCheckpointValid s
  | .modelStepTimed p => Sys2Proof.Machine.execModelStepTimed p s
  | .modelStepFallback p => Sys2Proof.Machine.execModelStepFallback p s
  | .modelStepEnd p => Sys2Proof.Machine.execModelStepEnd p s
  | .dielectricCycle => Sys2Proof.Machine.execDielectricCycle s
  | .dielectricSlot c => Sys2Proof.Machine.execDielectricSlot c s
  | .dielectricReading c sweep front engine => Sys2Proof.Machine.execDielectricReading c sweep front engine s
  | .calCaptureEmpty x c => Sys2Proof.Machine.execCalCaptureEmpty x c s
  | .calCaptureReference x c => Sys2Proof.Machine.execCalCaptureReference x c s
  | .calCaptureDone c => Sys2Proof.Machine.execCalCaptureDone c s
  | .calAccept x c => Sys2Proof.Machine.execCalAccept x c s
  | .calDiscard x c => Sys2Proof.Machine.execCalDiscard x c s
  | .caldataWrite x c data => Sys2Proof.Machine.execCaldataWrite x c data s
  | .samplePull e off => Sys2Proof.Machine.execSamplePull e off s
  | .sampleCommit n serviceNs missNs off => Sys2Proof.Machine.execSampleCommit n serviceNs missNs off s
  | .loopActivate x n => Sys2Proof.Machine.execLoopActivate x n s
  | .loopDeactivate x n => Sys2Proof.Machine.execLoopDeactivate x n s
  | .coeffApply x n => Sys2Proof.Machine.execCoeffApply x n s
  | .regionApply x n value => Sys2Proof.Machine.execRegionApply x n value s
  | .injectionStart x d => Sys2Proof.Machine.execInjectionStart x d s
  | .injectionEnd x d => Sys2Proof.Machine.execInjectionEnd x d s
  | .injectionRelease x d => Sys2Proof.Machine.execInjectionRelease x d s
  | .traceEnable x t => Sys2Proof.Machine.execTraceEnable x t s
  | .traceRearm x t => Sys2Proof.Machine.execTraceRearm x t s
  | .traceTriggerNow x t => Sys2Proof.Machine.execTraceTriggerNow x t s
  | .loopLoadCheck => Sys2Proof.Machine.execLoopLoadCheck s
  | .loopEngineFailure e => Sys2Proof.Machine.execLoopEngineFailure e s
  | .sequencingRound took => Sys2Proof.Machine.execSequencingRound took s
  | .chainStart x k => Sys2Proof.Machine.execChainStart x k s
  | .chainStop x k => Sys2Proof.Machine.execChainStop x k s
  | .chainReset x k => Sys2Proof.Machine.execChainReset x k s
  | .dryerStart x d => Sys2Proof.Machine.execDryerStart x d s
  | .dryerStop x d => Sys2Proof.Machine.execDryerStop x d s
  | .dryerEmpty x d => Sys2Proof.Machine.execDryerEmpty x d s
  | .dryerReset x d => Sys2Proof.Machine.execDryerReset x d s
  | .aerationEvaluate => Sys2Proof.Machine.execAerationEvaluate s
  | .aerationModeWrite x b mode => Sys2Proof.Machine.execAerationModeWrite x b mode s
  | .aerationReset x b => Sys2Proof.Machine.execAerationReset x b s
  | .busEnable x n => Sys2Proof.Machine.execBusEnable x n s
  | .busDisable x n => Sys2Proof.Machine.execBusDisable x n s
  | .integrationDone n => Sys2Proof.Machine.execIntegrationDone n s
  | .busModeApply n => Sys2Proof.Machine.execBusModeApply n s
  | .txChoice n => Sys2Proof.Machine.execTxChoice n s
  | .frameSent n tdc => Sys2Proof.Machine.execFrameSent n tdc s
  | .arbitrationLost n => Sys2Proof.Machine.execArbitrationLost n s
  | .busError n lec place exempt primary eights tdc => Sys2Proof.Machine.execBusError n lec place exempt primary eights tdc s
  | .protocolException n => Sys2Proof.Machine.execProtocolException n s
  | .frameReceived n frame age off => Sys2Proof.Machine.execFrameReceived n frame age off s
  | .queueRelease n => Sys2Proof.Machine.execQueueRelease n s
  | .rawTxFrame x n data => Sys2Proof.Machine.execRawTxFrame x n data s
  | .rawTxCancel x n => Sys2Proof.Machine.execRawTxCancel x n s
  | .recoveryCommand x n => Sys2Proof.Machine.execRecoveryCommand x n s
  | .recoveryDelay n => Sys2Proof.Machine.execRecoveryDelay n s
  | .recoveryComplete n => Sys2Proof.Machine.execRecoveryComplete n s
  | .worustRead q idx sub => Sys2Proof.Machine.execWorustRead q idx sub s
  | .worustWrite q idx sub type data => Sys2Proof.Machine.execWorustWrite q idx sub type data s
  | .worustAbort q code => Sys2Proof.Machine.execWorustAbort q code s
  | .segmentAck q next => Sys2Proof.Machine.execSegmentAck q next s
  | .contTimeout n => Sys2Proof.Machine.execContTimeout n s
  | .udpDatagram e addr port data => Sys2Proof.Machine.execUdpDatagram e addr port data s
  | .pointReceived n node point value flags age => Sys2Proof.Machine.execPointReceived n node point value flags age s
  | .pointTimeout n point => Sys2Proof.Machine.execPointTimeout n point s
  | .publicationPeriod q => Sys2Proof.Machine.execPublicationPeriod q s
  | .publicationDeltaCheck q => Sys2Proof.Machine.execPublicationDeltaCheck q s
  | .syncInterval n => Sys2Proof.Machine.execSyncInterval n s
  | .timeSync n seq age off => Sys2Proof.Machine.execTimeSync n seq age off s
  | .timeFollowUp n seq master => Sys2Proof.Machine.execTimeFollowUp n seq master s
  | .timePoll => Sys2Proof.Machine.execTimePoll s
  | .timeReply tid t2 t3 off => Sys2Proof.Machine.execTimeReply tid t2 t3 off s
  | .linkChange e status => Sys2Proof.Machine.execLinkChange e status s
  | .dhcpLeaseLapse => Sys2Proof.Machine.execDhcpLeaseLapse s
  | .dhcpRetry => Sys2Proof.Machine.execDhcpRetry s
  | .addressConflict sender => Sys2Proof.Machine.execAddressConflict sender s
  | .broadcastStorm e dropped => Sys2Proof.Machine.execBroadcastStorm e dropped s
  | .wakePattern n => Sys2Proof.Machine.execWakePattern n s
  | .wakeFrame n frame => Sys2Proof.Machine.execWakeFrame n frame s
  | .wakeFrameErrors n => Sys2Proof.Machine.execWakeFrameErrors n s
  | .pinEdge n change => Sys2Proof.Machine.execPinEdge n change s
  | .pulseRateUpdate n => Sys2Proof.Machine.execPulseRateUpdate n s
  | .wirebreakSet n => Sys2Proof.Machine.execWirebreakSet n s
  | .wirebreakClear n => Sys2Proof.Machine.execWirebreakClear n s
  | .outputOverload n => Sys2Proof.Machine.execOutputOverload n s
  | .overloadRetry n => Sys2Proof.Machine.execOverloadRetry n s
  | .pinReset x n => Sys2Proof.Machine.execPinReset x n s
  | .openLoad n => Sys2Proof.Machine.execOpenLoad n s
  | .fieldSupplyWarning k => Sys2Proof.Machine.execFieldSupplyWarning k s
  | .fieldSupplyTrip k => Sys2Proof.Machine.execFieldSupplyTrip k s
  | .fieldSupplyRestore k => Sys2Proof.Machine.execFieldSupplyRestore k s
  | .groupReset x g => Sys2Proof.Machine.execGroupReset x g s
  | .silenceDeclared => Sys2Proof.Machine.execSilenceDeclared s
  | .silenceAllOff => Sys2Proof.Machine.execSilenceAllOff s
  | .silenceEnd => Sys2Proof.Machine.execSilenceEnd s
  | .safeCopyCheck upset => Sys2Proof.Machine.execSafeCopyCheck upset s
  | .conversionWindow result => Sys2Proof.Machine.execConversionWindow result s
  | .aiFaultConfirm a cond => Sys2Proof.Machine.execAiFaultConfirm a cond s
  | .aoNotach o => Sys2Proof.Machine.execAoNotach o s
  | .aoOpenloop o => Sys2Proof.Machine.execAoOpenloop o s
  | .aoOvertemp o => Sys2Proof.Machine.execAoOvertemp o s
  | .aoOvertempRetry o => Sys2Proof.Machine.execAoOvertempRetry o s
  | .trimDriveLow x o => Sys2Proof.Machine.execTrimDriveLow x o s
  | .trimDriveHigh x o => Sys2Proof.Machine.execTrimDriveHigh x o s
  | .trimApply x o => Sys2Proof.Machine.execTrimApply x o s
  | .trimCancel x o => Sys2Proof.Machine.execTrimCancel x o s
  | .trimMeasuredWrite x o value => Sys2Proof.Machine.execTrimMeasuredWrite x o value s
  | .fanSpeedRegulate f => Sys2Proof.Machine.execFanSpeedRegulate f s
  | .fanKickTimeout f => Sys2Proof.Machine.execFanKickTimeout f s
  | .fanRetry f => Sys2Proof.Machine.execFanRetry f s
  | .fanStall f => Sys2Proof.Machine.execFanStall f s
  | .fanOverload f => Sys2Proof.Machine.execFanOverload f s
  | .fanOverloadRetry f => Sys2Proof.Machine.execFanOverloadRetry f s
  | .fanReset x f => Sys2Proof.Machine.execFanReset x f s
  | .fanLearn f => Sys2Proof.Machine.execFanLearn f s
  | .tachLoss f => Sys2Proof.Machine.execTachLoss f s
  | .tachJudge f => Sys2Proof.Machine.execTachJudge f s
  | .fanNotachTimeout f => Sys2Proof.Machine.execFanNotachTimeout f s
  | .housekeepingRound reads base => Sys2Proof.Machine.execHousekeepingRound reads base s
  | .fastSample reads => Sys2Proof.Machine.execFastSample reads s
  | .graceEnd => Sys2Proof.Machine.execGraceEnd s
  | .levelInterval => Sys2Proof.Machine.execLevelInterval s
  | .substholdTimeout => Sys2Proof.Machine.execSubstholdTimeout s
  | .thermalShutdown => Sys2Proof.Machine.execThermalShutdown s
  | .haltClear => Sys2Proof.Machine.execHaltClear s
  | .vmFail programming => Sys2Proof.Machine.execVmFail programming s
  | .vmGood => Sys2Proof.Machine.execVmGood s
  | .vbLost vmAbove programming => Sys2Proof.Machine.execVbLost vmAbove programming s
  | .vbAvailable => Sys2Proof.Machine.execVbAvailable s
  | .overvolt k volts => Sys2Proof.Machine.execOvervolt k volts s
  | .holdupSupplyReturn vm => Sys2Proof.Machine.execHoldupSupplyReturn vm s
  | .holdupEnd => Sys2Proof.Machine.execHoldupEnd s
  | .holdupTest farads => Sys2Proof.Machine.execHoldupTest farads s
  | .winterCommand x => Sys2Proof.Machine.execWinterCommand x s
  | .winterBufferWaitEnd => Sys2Proof.Machine.execWinterBufferWaitEnd s
  | .winterReached => Sys2Proof.Machine.execWinterReached s
  | .powerOn vm vb t0 t1 key => Sys2Proof.Machine.execPowerOn vm vb t0 t1 key s
  | .railFault => Sys2Proof.Machine.execRailFault s
  | .bootStep micros farads volts => Sys2Proof.Machine.execBootStep micros farads volts s
  | .endOfBoot micros => Sys2Proof.Machine.execEndOfBoot micros s
  | .configCommit x => Sys2Proof.Machine.execConfigCommit x s
  | .commitDone nandOk => Sys2Proof.Machine.execCommitDone nandOk s
  | .configRevert x => Sys2Proof.Machine.execConfigRevert x s
  | .enableWrite x plane value => Sys2Proof.Machine.execEnableWrite x plane value s
  | .cfgEnSample volts => Sys2Proof.Machine.execCfgEnSample volts s
  | .journalChain => Sys2Proof.Machine.execJournalChain s
  | .journalPageWrite => Sys2Proof.Machine.execJournalPageWrite s
  | .updateBegin x => Sys2Proof.Machine.execUpdateBegin x s
  | .updateBlock x data => Sys2Proof.Machine.execUpdateBlock x data s
  | .updateVerify x => Sys2Proof.Machine.execUpdateVerify x s
  | .updateActivate x => Sys2Proof.Machine.execUpdateActivate x s
  | .updateAbandon x => Sys2Proof.Machine.execUpdateAbandon x s
  | .recoveryImageStart addr port => Sys2Proof.Machine.execRecoveryImageStart addr port s
  | .recoveryImageData addr port offset data => Sys2Proof.Machine.execRecoveryImageData addr port offset data s
  | .recoveryImageEnd addr port => Sys2Proof.Machine.execRecoveryImageEnd addr port s
  | .eraseArm x value => Sys2Proof.Machine.execEraseArm x value s
  | .eraseCommand x value => Sys2Proof.Machine.execEraseCommand x value s
  | .eraseBlank => Sys2Proof.Machine.execEraseBlank s
  | .parcelEngineFailure => Sys2Proof.Machine.execParcelEngineFailure s
  | .lockstepMismatch p checkpointed => Sys2Proof.Machine.execLockstepMismatch p checkpointed s
  | .pairRestartDone p => Sys2Proof.Machine.execPairRestartDone p s
  | .uncorrectableError m => Sys2Proof.Machine.execUncorrectableError m s
  | .internalFault kind => Sys2Proof.Machine.execInternalFault kind s
  | .counterSave => Sys2Proof.Machine.execCounterSave s
  | .gcSignalReturn k => Sys2Proof.Machine.execGcSignalReturn k s
  | .qerrExpiry k => Sys2Proof.Machine.execQerrExpiry k s
  | .transceiverFault n undervoltage present => Sys2Proof.Machine.execTransceiverFault n undervoltage present s
  | .dhcpBound addr mask seconds => Sys2Proof.Machine.execDhcpBound addr mask seconds s
  | .tachEdge f off => Sys2Proof.Machine.execTachEdge f off s
  | .wakeFrameDecoded n good => Sys2Proof.Machine.execWakeFrameDecoded n good s
  | .enc24CurrentLimit pin => Sys2Proof.Machine.execEnc24CurrentLimit pin s
  | .enc24Retry k => Sys2Proof.Machine.execEnc24Retry k s

end Sys2Proof.Machine
end

