-- ==== Sys2Proof/Safety.lean ====
section
/-! DEFINITION. The terms claims are made in: when a command's write is served and applied, what follows a command, and the safe states of
the output lines. -/
namespace Sys2Proof.Machine

/-- The module runs, no reset that an answered command asked for is outstanding, and no event waits to be routed. -/
def Ready (s : State) : Prop := s.phase = .run ∧ s.sec.resetDue = none ∧ s.router.raised = []

/-- What a command leaves, `t` being what its effect made of `s`: the events it raised are routed, an asked-for reset follows, the output
lines obey the phase, and the queue is as it was. -/
def after (s t : State) : State := { settle (resetIfDue (flush t)) with pending := s.pending }

/-- A write of this sender is served at once (R29, R53, R75, R461): it reaches the store, the module runs, no write waits, and staging has a
place for its record. -/
def Admitted (s : State) (x : Sender) : Prop :=
  reaches s x = true ∧ s.phase = .run ∧ s.storeQ = [] ∧ placesUsed s < (if ifaceCode x.iface = 0 then 768 else 704)

/-- The write of one object that meets no abort of R55. -/
def Applies (s : State) (x : Sender) (k : Nat) (ty : Ty) (data : List Byte) (codes : List Nat) (eff : State → State) : Prop :=
  Admitted s x ∧ writeCodes s (writeReq x k ty data) codes eff = []

/-- The state `t` that a write's effect made of `s`, with the record of the write that was applied (R53, R458). -/
def recorded (s : State) (x : Sender) (k : Nat) (ty : Ty) (data : List Byte) (t : State) : State :=
  recordWrite t (writeReq x k ty data) (oldBytes s (k / 256) (k % 256))

/-- Command `c` on `s` answers a next state: what `t`, the state its effect makes, becomes at the end of every command. -/
def Leaves (c : Instr) (s t : State) : Prop := exec c s = .next (after s t)

/-- Where the write of an object is served and meets no abort, the command leaves what its effect makes, with its record. -/
def Writes (c : Instr) (s : State) (x : Sender) (k : Nat) (ty : Ty) (data : List Byte) (codes : List Nat) (eff : State → State) :
    Prop :=
  Applies s x k ty data codes eff → Leaves c s (recorded s x k ty data (eff s))

/-- A command that is the write of one object (R53): its sender, the object, the value, the aborts of its own, and its effect. -/
structure ObjWrite where
  x : Sender
  k : Nat
  ty : Ty
  data : List Byte
  codes : List Nat
  eff : State → State

/-- The object's write as it reaches the store. -/
def ObjWrite.req (w : ObjWrite) : WReq := writeReq w.x w.k w.ty w.data

def byteWrite (x : Sender) (k v : Nat) (codes : List Nat) (eff : State → State) : ObjWrite := ⟨x, k, .u8, bytesLE 1 v, codes, eff⟩
def boolWrite (x : Sender) (k : Nat) (b : Bool) (codes : List Nat) (eff : State → State) : ObjWrite :=
  ⟨x, k, .bool, bytesLE 1 (ofBool b), codes, eff⟩

/-- The object write that a command is, where it is no more than that: the commands whose write has an answer to come (ENTER_OPERATE)
or a sequel (CONFIG_REVERT, UPDATE_VERIFY), and OBJECT_WRITE, which may be any of these, stand apart. -/
def writeOf (s : State) : Instr → Option ObjWrite
  | .enterPreop x => some (byteWrite x Ob.opStateCommand 1 (stateCodes s 1) (stateEff 1))
  | .enterSafe x => some (byteWrite x Ob.opStateCommand 3 (stateCodes s 3) (stateEff 3))
  | .restart x => some (byteWrite x Ob.opStateCommand 4 (stateCodes s 4) (stateEff 4))
  | .acknowledge x => some (byteWrite x Ob.opStateCommand 5 (stateCodes s 5) (stateEff 5))
  | .fieldOutputValueWrite x c v =>
    some ⟨x, Ob.chanValue c, .f32, bytesLE 4 v.toNat, dryerCodesOf s (0x2000 + c) 1, valueEff c v.toNat⟩
  | .operatorValueWrite x c v =>
    some ⟨x, Ob.chanValue c, .f32, bytesLE 4 v.toNat, dryerCodesOf s (0x2000 + c) 1, valueEff c v.toNat⟩
  | .wcTimeWrite x v => some ⟨x, Ob.wcTime, .u64, bytesLE 8 v.toNat, wcTimeCodes s, wcTimeEff v.toNat⟩
  | .entryEnableWrite x e (.enable on) => some (boolWrite x (Ob.entryEnable e) on [] (entryEnableEff e on))
  | .entryEnableWrite x e (.target v) =>
    some ⟨x, Ob.entryTarget e, .u64, bytesLE 8 v.toNat, targetCodes s e v.toNat, entryTargetEff e v.toNat⟩
  | .pathEnable x p on => some (boolWrite x (Ob.pathEnable p) on (pathEnableCodes s p (ofBool on)) (pathEnableEff p (ofBool on)))
  | .purge x p => some (byteWrite x (Ob.pathPurge p) 1 (purgeCodes s) (fun s => purgePath s p))
  | .adjustAdd x b => some (byteWrite x (Ob.binAdjustCommand b) 1 (adjustCodes s b 1) (adjustEff b 1))
  | .adjustRemove x b => some (byteWrite x (Ob.binAdjustCommand b) 2 (adjustCodes s b 2) (adjustEff b 2))
  | .adjustEmpty x b => some (byteWrite x (Ob.binAdjustCommand b) 3 (adjustCodes s b 3) (adjustEff b 3))
  | .ledgerReset x => some (byteWrite x Ob.ledgerLedgerReset 1 (ledgerResetCodes s) Machine.ledgerReset)
  | .calCaptureEmpty x c => some (byteWrite x (Ob.cellCalCommand c) 1 (calCodes s c 1) (calStart 1 c))
  | .calCaptureReference x c => some (byteWrite x (Ob.cellCalCommand c) 2 (calCodes s c 2) (calStart 2 c))
  | .calAccept x c => some (byteWrite x (Ob.cellCalCommand c) 3 (calCodes s c 3) (Machine.calAccept c))
  | .calDiscard x c => some (byteWrite x (Ob.cellCalCommand c) 4 (calCodes s c 4) (Machine.calDiscard c))
  | .caldataWrite x c d => some ⟨x, Ob.calDataCalData c, .domain, d, calDataCodes d, calDataEff c d⟩
  | .loopActivate x n => some (boolWrite x (Ob.loopActive n) true (activeCodes s n 1) (activeEff n 1))
  | .loopDeactivate x n => some (boolWrite x (Ob.loopActive n) false (activeCodes s n 0) (activeEff n 0))
  | .coeffApply x n => some (byteWrite x (Ob.loopCoeffApply n) 1 [] (coeffApplyEff n))
  | .regionApply x n v => some (byteWrite x (Ob.profRegionApply n) v.toNat [] (regionApplyEff n v.toNat))
  | .injectionStart x d => some (byteWrite x (Ob.injCommand d) 1 (injCodes s d 1) (injEff d 1))
  | .injectionEnd x d => some (byteWrite x (Ob.injCommand d) 2 (injCodes s d 2) (injEff d 2))
  | .injectionRelease x d => some (byteWrite x (Ob.injCommand d) 3 (injCodes s d 3) (injEff d 3))
  | .traceEnable x t => some (boolWrite x (Ob.traceEnable t) true [] (traceEnableEff t true))
  | .traceRearm x t => some (byteWrite x (Ob.traceCommand t) 1 [] (traceCommandEff t 1))
  | .traceTriggerNow x t => some (byteWrite x (Ob.traceCommand t) 2 [] (traceCommandEff t 2))
  | .chainStart x k => some (byteWrite x (Ob.chainCommand k) 1 (chainCodes s k 1) (chainLatch k 1))
  | .chainStop x k => some (byteWrite x (Ob.chainCommand k) 2 (chainCodes s k 2) (chainLatch k 2))
  | .chainReset x k => some (byteWrite x (Ob.chainCommand k) 3 (chainCodes s k 3) (chainLatch k 3))
  | .dryerStart x d => some (byteWrite x (Ob.dryerCommand d) 1 (dryerCodes s d 1) (dryerLatch d 1))
  | .dryerStop x d => some (byteWrite x (Ob.dryerCommand d) 2 (dryerCodes s d 2) (dryerLatch d 2))
  | .dryerEmpty x d => some (byteWrite x (Ob.dryerCommand d) 3 (dryerCodes s d 3) (dryerLatch d 3))
  | .dryerReset x d => some (byteWrite x (Ob.dryerCommand d) 4 (dryerCodes s d 4) (dryerLatch d 4))
  | .aerationModeWrite x b m =>
    some (byteWrite x (Ob.aerMode b) m.toNat (aerModeCodes s b m.toNat) (fun s => s.put (Ob.aerMode b) m.toNat))
  | .aerationReset x b => some (byteWrite x (Ob.aerCommand b) 1 (aerCodes s b) (aerLatch b))
  | .busEnable x n => some (boolWrite x (Ob.busEnable n) true (busEnableCodes s n) (busEnableEff n))
  | .busDisable x n => some (boolWrite x (Ob.busEnable n) false [] (busDisableEff n))
  | .rawTxFrame x n d => some ⟨x, Ob.busTxRawTxFrame n, .domain, d, rawTxCodes s n d, rawTxEff n (originOf x) d⟩
  | .rawTxCancel x n => some (byteWrite x (Ob.busTxRawTxCancel n) 1 [] (rawCancelEff n))
  | .recoveryCommand x n => some (byteWrite x (Ob.busRecoveryCommand n) 1 (recoveryCodes s n) (fun s => recoveryRequest s n))
  | .pinReset x i => some (byteWrite x (Ob.pinPinReset i) 1 [] (fun s => clearLatch s i))
  | .groupReset x g => some (byteWrite x (Ob.groupGroupReset g) 1 (groupResetCodes s g) (groupResetEff g))
  | .trimDriveLow x o => some (byteWrite x (Ob.aoTrimCommand o) 1 (trimCodes s o 1) (trimEff o 1))
  | .trimDriveHigh x o => some (byteWrite x (Ob.aoTrimCommand o) 2 (trimCodes s o 2) (trimEff o 2))
  | .trimApply x o => some (byteWrite x (Ob.aoTrimCommand o) 3 (trimCodes s o 3) (trimEff o 3))
  | .trimCancel x o => some (byteWrite x (Ob.aoTrimCommand o) 4 (trimCodes s o 4) (trimEff o 4))
  | .trimMeasuredWrite x o v =>
    some ⟨x, Ob.aoTrimMeasured o, .f32, bytesLE 4 v.toNat, trimMeasuredCodes s o, trimMeasuredEff o v.toNat⟩
  | .fanReset x f => some (byteWrite x (Ob.fanFanReset f) 1 [] (fanResetEff f))
  | .winterCommand x => some (byteWrite x Ob.seasonWinterCommand 1 (winterCodes s) winterEff)
  | .configCommit x => some (byteWrite x Ob.configConfigCommand 1 (configCodes s 1) (configEff (originOf x) 1))
  | .enableWrite x p v =>
    some (byteWrite x (enableKey p) v.toNat (valueCodes s 0x9010 (p + 1) v.toNat) (fun s => s.put (enableKey p) v.toNat))
  | .updateBegin x => some (byteWrite x Ob.updateUpdateCommand 1 (updateCodes s 1) (updateEff 1))
  | .updateBlock x d => some ⟨x, Ob.updateUpdateBlock, .domain, d, updateBlockCodes s, updateBlockEff d⟩
  | .updateActivate x => some (byteWrite x Ob.updateUpdateCommand 3 (updateCodes s 3) (updateEff 3))
  | .updateAbandon x => some (byteWrite x Ob.updateUpdateCommand 4 (updateCodes s 4) (updateEff 4))
  | .eraseArm x v => some ⟨x, Ob.eraseEraseArm, .u16, bytesLE 2 v.toNat, eraseArmCodes s, eraseArmEff⟩
  | .eraseCommand x v => some (byteWrite x Ob.eraseEraseCommand v.toNat (eraseCodes s) eraseEff)
  | _ => none

/-- A request the server takes in (R331, R336, R337): it hears the asker, the priority is a request's, none like it is in progress or
was answered within the last second, and a place is left among the 64. -/
def NewRequest (s : State) (a : Asker) : Prop :=
  hears s a = true ∧ badPrio a = false ∧ s.net.inProgress.any (fun x => sameAsker x a) = false ∧
  s.net.served.find? (fun x => sameAsker x.who a && decide (s.osc < x.at_ + 1000000)) = none ∧ s.net.inProgress.length < 64

/-- The state with the request in progress. -/
def taken (s : State) (a : Asker) : State := { s with net := { s.net with inProgress := a :: s.net.inProgress } }

/-- A figure of the command lies beyond the absolute maximum ratings of R519, past which the spec warrants nothing. -/
def beyondRating (s : State) : Instr → Bool
  | .tickBoundary _ meas => meas.any (beyondMax (nextTick s))
  | .overvolt k volts => supplyBeyond s k volts.toNat
  | .housekeepingRound _ base => policyRuns s && baseBeyond base.toNat
  | .conversionWindow r => readingBeyond s r
  | .cfgEnSample volts => keyBeyond volts.toNat
  | _ => false

/-- Every output line off: no pin driven, no current, no fan voltage (R437). -/
def OutputsAtRest (s : State) : Prop :=
  (∀ i : Fin 32, s.pins[i].drive = false) ∧ (∀ o : Fin 8, s.ao[o].applied = 0) ∧ (∀ f : Fin 8, s.fans[f].applied = 0)

/-- The safe states: outside the running module every output line is off, or goes off at the next tick boundary, a reset that was asked for
has been carried out, and every event that was raised has been routed. -/
def Safe (s : State) : Prop := (s.phase ≠ .run → linesStand s = false → OutputsAtRest s) ∧ s.sec.resetDue = none ∧ s.router.raised = []

end Sys2Proof.Machine
end

