-- ==== Sys2Proof/Certificates/Slice0/Obligations.lean ====
section
/-! DEFINITION. The statements for the provers. `Leaves c s t` says that command `c` on `s` answers the next state that `t` becomes at the
end of every command (`after`); `t` is given whole, so what it does not name is unchanged. -/
open Sys2Proof Sys2Proof.Machine

/-! ### The machine -/

/-- One step takes the command at the front of the queue and runs it on the state with the queue's rest. -/
def Obligations.StepRunsFrontCommand : Prop :=
  ∀ (c : Instr) (rest : List Instr) (s : State), s.pending = c :: rest → step s = exec c { s with pending := rest }

/-- On an empty queue the module idles: the model's choice (log entry 5). -/
def Obligations.EmptyQueueIdles : Prop := ∀ s : State, s.pending = [] → step s = .next s

/-- No command touches the queue: what waits stays in order, so every step takes exactly one command from it. -/
def Obligations.CommandsLeaveTheQueue : Prop := ∀ (c : Instr) (s t : State), exec c s = .next t → t.pending = s.pending

/-- Every command answers a next state, on every state, but for a supply, field supply, MS input, AI pin, CFG_EN# or base plate measured
beyond its absolute maximum, past which the spec warrants nothing (R519): those faults, and nothing else, stop. -/
def Obligations.OnlyBeyondRatingStops : Prop :=
  ∀ (c : Instr) (s : State),
    (beyondRating s c = false ∧ ∃ t, exec c s = .next t) ∨ (beyondRating s c = true ∧ exec c s = .fault .absoluteMaximum)

/-- Every step keeps the module safe: outside the running module every output line is off, or goes off at the next tick boundary, no event
waits to be routed, and no reset that was asked for is outstanding (R26, R416, R423, R437). -/
def Obligations.StepKeepsSafe : Prop := ∀ s t : State, Safe s → step s = .next t → Safe t

/-- What reset leaves (R73, R97, R440): BOOT at its first step, WC 0, nothing in the queue, the module safe with
no output driven, and the object store in its canonical form. -/
def Obligations.ResetState : Prop :=
  State.reset.phase = .boot 0 ∧ State.reset.wc = 0 ∧ State.reset.pending = [] ∧ State.reset.opState = 0 ∧
  State.reset.storeQ = [] ∧ Safe State.reset ∧ OutputsAtRest State.reset ∧ cellsWf State.reset.objs = true ∧ bytesWf State.reset.strs = true

/-! ### The store -/

/-- The abort reported is the first in the order of classes, and within one class the one with the lowest detail (R55). -/
def Obligations.AbortReportedIsFirst : Prop :=
  (∀ l : List Nat, pickAbort l = none ↔ l = []) ∧
  (∀ (l : List Nat) (c : Nat), pickAbort l = some c →
    c ∈ l ∧ ∀ d ∈ l, classRank c < classRank d ∨ (classRank c = classRank d ∧ c % 2 ^ 16 ≤ d % 2 ^ 16)) ∧
  [1, 6, 3, 2, 5, 4, 7].map (fun k => classRank (k * 2 ^ 16)) = [0, 1, 2, 3, 4, 5, 6]

/-- The write of an object, whichever command it is, that is served and meets no abort is applied whole and leaves one record. -/
def Obligations.WritesAreAppliedAndRecorded : Prop :=
  ∀ (c : Instr) (s : State) (w : ObjWrite), writeOf s c = some w →
    Writes c s w.x w.k w.ty w.data w.codes w.eff

/-- The write of an object that aborts leaves every object but the abort objects, every byte string, every output line, every channel
and everything else as it was, and one journal record of kind 2 with the code (R53, R55, R56). -/
def Obligations.AbortedWriteChangesNothingElse : Prop :=
  ∀ (c : Instr) (s : State) (w : ObjWrite) (code : Nat), writeOf s c = some w → Ready s → Admitted s w.x →
    pickAbort (writeCodes s w.req w.codes w.eff) = some code →
    ∃ t, exec c s = .next t ∧
      t.ob Ob.abortLastAbortCode = code ∧ t.ob Ob.abortLastAbortObject = w.k / 256 * 2 ^ 16 + w.k % 256 * 2 ^ 8 ∧
      t.ob Ob.abortLastAbortInterface = ifaceCode w.x.iface ∧ t.ob Ob.abortAbortCount = wrap 32 (s.ob Ob.abortAbortCount + 1) ∧
      (∀ k, k ∉ [Ob.abortLastAbortCode, Ob.abortLastAbortObject, Ob.abortLastAbortInterface, Ob.abortAbortCount] →
        t.ob k = s.ob k) ∧
      (∃ r : JRec, t.staging.staged = s.staging.staged ++ [r] ∧ r.kind = 2 ∧ r.code = code ∧ r.index = w.k / 256 ∧ r.sub = w.k % 256) ∧
      { t with objs := s.objs, staging := s.staging } = s

/-- No object access is served in BOOT (R75): no write and no request over Worust, whether named as a request or carried by a bus frame or
a datagram, changes anything, so none is answered or journaled; nor is one in Winter, in HALT or without power. A datagram in recovery is
no object access (R473) and stands apart. -/
def Obligations.NothingServedOutsideRun : Prop :=
  ∀ (c : Instr) (s : State), Safe s → s.phase ≠ .run →
    ((writeOf s c).isSome = true ∨
      (∃ x idx sub ty d, c = .objectWrite x idx sub ty d) ∨ (∃ x, c = .enterOperate x) ∨ (∃ x, c = .configRevert x) ∨
      (∃ x, c = .updateVerify x) ∨ (∃ q idx sub, c = .worustRead q idx sub) ∨
      (∃ q idx sub ty d, c = .worustWrite q idx sub ty d) ∨ (∃ q idx sub ty wr n, c = .segopen q idx sub ty wr n) ∨
      (∃ q sq l d, c = .segment q sq l d) ∨ (∃ q crc, c = .segend q crc) ∨ (∃ q idx, c = .indexSnapshotRead q idx) ∨
      (∃ q code, c = .worustAbort q code) ∨ (∃ q n, c = .segmentAck q n) ∨
      (recoveryRuns s = false ∧ ∃ e a p d, c = .udpDatagram e a p d) ∨
      (∃ n f age off, c = .frameReceived n f age off) ∨ (∃ n, c = .queueRelease n)) →
    exec c s = .next s

/-- Where staging is full (R58, R461), a write that reaches the store: one from outside that finds no free record among the first 704
is neither applied nor answered, only counted; a write by interface 0x00 that finds all 768 taken waits at the head of the store, and a write that arrives after a
waiting one waits behind it. -/
def Obligations.FullStagingTurnsAwayOrWaits : Prop :=
  (∀ (c : Instr) (s : State) (w : ObjWrite), writeOf s c = some w → s.phase = .run → reaches s w.x = true →
    ifaceCode w.x.iface ≠ 0 → 704 ≤ placesUsed s →
    Leaves c s (s.inc Ob.worustRequestsDropped)) ∧
  (∀ (c : Instr) (s : State) (w : ObjWrite), writeOf s c = some w → s.phase = .run → ifaceCode w.x.iface = 0 → 768 ≤ placesUsed s →
    Leaves c s { s with storeQ := s.storeQ ++ [arrived s w.req] }) ∧
  (∀ (c : Instr) (s : State) (w : ObjWrite), writeOf s c = some w → s.phase = .run → reaches s w.x = true → s.storeQ ≠ [] →
    (ifaceCode w.x.iface ≠ 0 → placesUsed s < 704) → Leaves c s { s with storeQ := s.storeQ ++ [arrived s w.req] })

/-- OBJECT_WRITE (R53): a write that is served and meets no abort has the effect of the object it names, and one record. The commands
with a sequel of their own (StateCommand 2, ConfigCommand 2, UpdateCommand 2) are stated with their own rows. -/
def Parts.ObjectWriteApplies : Prop :=
  ∀ (x : Sender) (idx : BitVec 16) (sub type : Byte) (data : List Byte) (s : State),
    let w : WReq := ⟨⟨originOf x, x.port.toNat, 0, false⟩, false, idx.toNat, sub.toNat, type.toNat, data, none, []⟩
    key idx.toNat sub.toNat ∉ [Ob.opStateCommand, Ob.configConfigCommand, Ob.updateUpdateCommand] → Admitted s x →
    writeCodes s w (extraOf s w.idx w.sub w.data) (effOf w.who.o w.idx w.sub w.data) = [] →
    Leaves (.objectWrite x idx sub type data) s
      (recordWrite (effOf w.who.o w.idx w.sub w.data s) w (oldBytes s w.idx w.sub))

/-! ### Operating states -/

/-- The state commands (R74, R76, R438): where its write is served and meets no abort, each has its result. -/
def Parts.StateCommandsComplete : Prop :=
  (∀ x s, Writes (.enterPreop x) s x Ob.opStateCommand .u8 [1] (stateCodes s 1) (fun s => enterPreop s 1)) ∧
  (∀ x s, Writes (.enterSafe x) s x Ob.opStateCommand .u8 [3] (stateCodes s 3) (fun s => enterSafe s 1 0)) ∧
  (∀ x s, Writes (.restart x) s x Ob.opStateCommand .u8 [4] (stateCodes s 4)
    (fun s => { s with sec := { s.sec with resetDue := some (2, true) } })) ∧
  (∀ x s, Writes (.acknowledge x) s x Ob.opStateCommand .u8 [5] (stateCodes s 5) acknowledge)

/-- A command sent in a state in which R76 does not accept it meets 0x0003_0002, and in one in which it does, it does not. -/
def Obligations.StateCommandsAcceptedIn : Prop :=
  ∀ s : State, s.phase = .run → checking s = false → commitRuns s = false →
    ((stateCodes s 1 = [] ↔ s.opState = 2 ∨ s.opState = 3) ∧
     (stateCodes s 2 = [] ↔ s.opState = 1 ∨ s.opState = 3 ∧ s.ob Ob.opSafeCause = 0) ∧
     (stateCodes s 3 = [] ↔ s.opState = 1 ∨ s.opState = 2) ∧
     (stateCodes s 4 = [] ↔ s.opState = 1 ∨ s.opState = 3) ∧
     (stateCodes s 5 = [] ↔ s.opState = 3)) ∧
    (∀ v, stateCodes s v = [] ∨ stateCodes s v = [0x00030002])

/-- RESTART as a whole (R76, R436–R438): the module is in BOOT with LastResetCause 2, and the next tick boundary finds it there and leaves
every output line off. -/
def Obligations.RestartResetsTheModule : Prop :=
  ∀ (x : Sender) (s : State), Applies s x Ob.opStateCommand .u8 [4] (stateCodes s 4) (stateEff 4) →
    ∃ t, exec (.restart x) s = .next t ∧ t.phase = .boot 0 ∧ t.ob Ob.resetLastResetCause = 2 ∧
      t.pending = s.pending ∧ t.factory = s.factory ∧ t.straps = s.straps ∧
      ∀ downOk, ∃ u, exec (.tickBoundary downOk []) t = .next u ∧ u.phase = .boot 0 ∧ OutputsAtRest u

/-- ENTER_OPERATE (R77): a request that is served and meets no abort starts the check, whose verdict covers the working values as they
stand; it is neither recorded nor answered yet. -/
def Parts.EnterOperateStartsTheCheck : Prop :=
  ∀ (x : Sender) (s : State), Admitted s x →
    baseCodes s (writeReq x Ob.opStateCommand .u8 [2]) false ++ stateCodes s 2 = [] →
    Leaves (.enterOperate x) s
      { s with check := some ⟨some (writeReq x Ob.opStateCommand .u8 [2]), false, firstFault (violations s)⟩ }

/-- CONSISTENCY_CHECK_END (R77): a check that passed, and that no trip cause ended, makes OPERATE due at the next tick boundary (that
ConsistencyFault then reads 0 is the model's choice, log entry 77); one that fails names the first failing object, and is aborted with
0x0005_0006, or raises event 212 for AutoOperate. -/
def Parts.CheckEndDecides : Prop :=
  ∀ (s : State) (c : Check), s.phase = .run → s.check = some c → s.operateDue = false → c.ended = false →
    (c.verdict = 0 → Leaves .consistencyCheckEnd s { s.put Ob.opConsistencyFault 0 with operateDue := true }) ∧
    (c.verdict ≠ 0 → c.asker.isSome = true →
      Leaves .consistencyCheckEnd s (checkFails (s.put Ob.opConsistencyFault c.verdict) c 0x00050006)) ∧
    (c.verdict ≠ 0 → c.asker = none →
      Leaves .consistencyCheckEnd s
        (raise (checkFails (s.put Ob.opConsistencyFault c.verdict) c 0x00050006) 212 c.verdict))

/-- The state commands, the start of the check of R77 and its end complete (R74, R76, R77, R438). -/
def Obligations.StateCommandsComplete : Prop :=
  Parts.StateCommandsComplete ∧ Parts.EnterOperateStartsTheCheck ∧ Parts.CheckEndDecides

/-- The Value of a field output channel and of an operator-value channel (R67, R68): a write that is served and meets no abort gives the
channel the value, VALID, and the time of the write. -/
def Parts.ValueWritesComplete : Prop :=
  (∀ x (c : Fin 4096) (v : Word) s, Writes (.fieldOutputValueWrite x c v) s x (Ob.chanValue c) .f32 (bytesLE 4 v.toNat)
    (dryerCodesOf s (0x2000 + c) 1) (fun s => writeChan s c v.toNat (setBit (s.ob (Ob.chanStatus c)) 0 true) s.wc)) ∧
  (∀ x (c : Fin 4096) (v : Word) s, Writes (.operatorValueWrite x c v) s x (Ob.chanValue c) .f32 (bytesLE 4 v.toNat)
    (dryerCodesOf s (0x2000 + c) 1) (fun s => writeChan s c v.toNat (setBit (s.ob (Ob.chanStatus c)) 0 true) s.wc))

/-- OBJECT_WRITE and the two writes of a channel's Value complete (R53, R67, R68). -/
def Obligations.ObjectAndValueWritesComplete : Prop :=
  Parts.ObjectWriteApplies ∧ Parts.ValueWritesComplete

/-- A write of a field output channel's Value is accepted in OPERATE alone, while no active loop, sequencing object or schedule entry
drives it; elsewhere it meets 0x0003_0002 (R67). -/
def Obligations.FieldOutputAcceptedInOperate : Prop :=
  ∀ (s : State) (n : Nat), chanType s n = 2 →
    chanValueCodes s n =
      if s.inOperate = true ∧ drivenByLoop s n = false ∧ drivenElse s n = false then [] else [0x00030002]

/-! ### The tick, the field link, the memories -/

/-- The commands of the tick (R24, R35, R36, R83, R440): a boundary of the running module and one in the last step of BOOT, a complete
upstream frame 8 µs after it, a channel that the cache lacks or a sample waits for fetched and counted as a miss, and the scrubber's counts.
R440 says only that field link frames run in the last step of BOOT; that TICK_BOUNDARY is accepted there, up to 4.5 s, and is the tick of the
field link alone (`bootTick`), is the model's choice (log entry 51). That a corrected error is a fault that counts as not yet masked at that
instant, and lapses condition S of R489 where another is not yet masked (`maskedFault`), is its reading of R480 and R489 (log entry 104).
That a boundary brings the figures of the shutdown comparator's junctions (`takeJunctions`) is its choice (log entry 112). -/
def Obligations.TickCommandsComplete : Prop :=
  (∀ downOk meas s, s.phase = .run → meas.any (beyondMax (nextTick s)) = false →
    Leaves (.tickBoundary downOk meas) s (runTick (takeJunctions s meas) downOk meas)) ∧
  (∀ downOk meas s, s.phase = .boot 8 → s.osc + 10 ≤ 4500000 → meas.any (beyondMax (nextTick s)) = false →
    Leaves (.tickBoundary downOk meas) s (bootTick { takeJunctions s meas with linesHeld := false } downOk meas)) ∧
  (∀ s, clocksRun s = true → s.link.upOpen = true →
    Leaves (.upstreamFrameComplete true) s
      (let t := validFrame (reach s 8)
       releaseAwaited { t with link := { t.link with latch := [], upOpen := false } })) ∧
  (∀ s, clocksRun s = true → s.link.upOpen = true →
    Leaves (.upstreamFrameComplete false) s
      (let t := discardFrame (reach s 8)
       releaseAwaited { t with link := { t.link with latch := [], upOpen := false } })) ∧
  (∀ (c : Fin 4096) s, s.phase = .run → s.cache.contains c.val = false ∨ s.service.any (fun v => v.missing.contains c.val) = true →
    Leaves (.channelFetch c) s
      (let t := touchChan (s.inc Ob.faultChannelCacheMisses) c
       { t with service := t.service.map (fun (v : InService) => { v with missing := v.missing.filter (fun m => m != c.val) }) })) ∧
  (∀ a b d s, railsUp s = true →
    Leaves (.sramScrub a b d) s
      (let t := if a + b + d = 0 then s else maskedFault s 0 0
       ((t.incBy Ob.faultSramCorrected a).incBy Ob.faultDramCorrected b).incBy Ob.faultNandCorrected d))

/-! ### Requests over Worust -/

/-- READ and WRITE (R336, R337): a request taken in is answered with the type code and the value, or, once the store has applied the
write, with its outcome. -/
def Parts.ReadAndWriteRequestsComplete : Prop :=
  (∀ (q : Request) (idx : BitVec 16) (sub : Byte) s ty v, NewRequest s (askerOf q) →
    readShort (taken s (askerOf q)) idx.toNat sub.toNat = .ok (ty, v) →
    Leaves (.worustRead q idx sub) s (answerReq (taken s (askerOf q)) (askerOf q) 5 (bytesLE 1 ty ++ v))) ∧
  (∀ (q : Request) (idx : BitVec 16) (sub type : Byte) data s t, NewRequest s (askerOf q) →
    writeObj (taken s (askerOf q)) ⟨askerOf q, true, idx.toNat, sub.toNat, type.toNat, data, none, []⟩ = (t, .done) →
    Leaves (.worustWrite q idx sub type data) s (answerReq t (askerOf q) 5 []))

/-- Segmented transfers (R61–R64, R338, R339): the opening of a write and of a read, a segment in sequence, the end that makes the object
change as one write, the acknowledgement that lets more segments go or closes the read with its CRC, the abort, the time-out, and
the snapshot of an index. Two clauses hold the model's own choices: the opening of a read ignores the type code of its request (log entry
49), and a client's ABORT ends what it has open and raises event 200 but leaves no abort record of R54 (log entry 44). -/
def Parts.TransferRequestsComplete : Prop :=
  (∀ (q : Request) (idx : BitVec 16) (sub type : Byte) (n : BitVec 32) s, NewRequest s (askerOf q) →
    openCodes (taken s (askerOf q)) (askerOf q) idx.toNat sub.toNat type.toNat n.toNat = [] →
    Leaves (.segopen q idx sub type true n) s
      (answerReq (putXfers (taken s (askerOf q)) (s.net.xfers ++
        [⟨askerOf q, idx.toNat, sub.toNat, true, type.toNat, n.toNat, [], 0, 0, false, s.osc, 0, 0, false⟩]))
        (askerOf q) 5 [16])) ∧
  (∀ (q : Request) (idx : BitVec 16) (sub type : Byte) (n : BitVec 32) s ty v, NewRequest s (askerOf q) →
    ¬(sub.toNat = 0xFF ∧ type.toNat = 12 ∧ n.toNat = 0) → s.net.xfers.length < 8 →
    readOb (taken s (askerOf q)) idx.toNat sub.toNat = .ok (ty, v) →
    Leaves (.segopen q idx sub type false n) s
      (let x : Xfer := ⟨askerOf q, idx.toNat, sub.toNat, false, 0, v.length, v, 0, 0, false, s.osc, 0, 0, false⟩
       sendMore (answerReq (putXfers (taken s (askerOf q)) (s.net.xfers ++ [x])) (askerOf q) 5 (bytesLE 4 v.length ++ [16])) x)) ∧
  (∀ (q : Request) (idx : BitVec 16) s v, NewRequest s (askerOf q) → s.net.xfers.length < 8 →
    snapshot (taken s (askerOf q)) idx.toNat = .ok v →
    Leaves (.indexSnapshotRead q idx) s
      (let x : Xfer := ⟨askerOf q, idx.toNat, 0xFF, false, 0, v.length, v, 0, 0, false, s.osc, 0, 0, false⟩
       sendMore (answerReq (putXfers (taken s (askerOf q)) (s.net.xfers ++ [x])) (askerOf q) 5 (bytesLE 4 v.length ++ [16])) x)) ∧
  (∀ (q : Request) (sq : BitVec 7) last data s x, hears s (askerOf q) = true → findXfer s (askerOf q) true = some x →
    let d := unpad (askerOf q) x last data
    x.got + d.length ≤ x.total → (last = true → x.total ≤ x.got + d.length) → sq.toNat % 128 = x.nextSeq % 128 → x.last = false →
    Leaves (.segment q sq last data) s
      (let t := setXfer s { x with buf := x.buf ++ d, got := x.got + d.length, nextSeq := x.nextSeq + 1, last := last, lastAt := s.osc }
       if (x.nextSeq + 1) % 16 = 0 ∨ last = true then sendTo t (askerOf q) 5 (bytesLE 1 ((x.nextSeq + 1) % 128)) else t)) ∧
  (∀ (q : Request) (crc : BitVec 32) s x t, hears s (askerOf q) = true → findXfer s (askerOf q) true = some x → x.got = x.total →
    crc32 x.buf = crc.toNat →
    (let w : WReq := ⟨x.who, true, x.idx, x.sub, x.ty, x.buf, some x.total, []⟩
     let u := dropXfer s (askerOf q)
     writeObj { u with net := { u.net with inProgress := x.who :: u.net.inProgress } } w = (t, .done)) →
    Leaves (.segend q crc) s (answerReq t x.who 5 [])) ∧
  (∀ (q : Request) s x, serverUp s = true →
    s.net.xfers.find? (fun x => sameAsker x.who (askerOf q) && decide (x.lastAt + 1000000 < s.osc)) = some x →
    Leaves (.segmentTimeout q) s (abortOpen s x 0x00020006)) ∧
  (∀ (q : Request) (code : BitVec 32) s, hears s (askerOf q) = true →
    s.net.xfers.any (fun x => sameAsker x.who (askerOf q)) = true →
    Leaves (.worustAbort q code) s (raise (cancelSegs (dropXfer s (askerOf q)) (askerOf q)) 200 code.toNat)) ∧
  (∀ (q : Request) (next : BitVec 7) s x, hears s (askerOf q) = true → findXfer s (askerOf q) false = some x →
    let k := x.acked + (next.toNat + 128 - x.acked % 128) % 128
    x.acked < k → k ≤ x.sentTo →
    Leaves (.segmentAck q next) s
      (if k = segCount x then dropXfer (sendTo s x.who 9 (bytesLE 4 (crc32 x.buf))) (askerOf q)
       else sendMore (setXfer s { x with acked := k, lastAt := s.osc }) { x with acked := k, lastAt := s.osc }))

/-- A sound UDP datagram for the module's address and port with a whole Worust header (R340) is counted, its sender's address learned, and
its message served; one whose frame was not sound, or too long for any frame, is counted as an error (R350). The reserved upper half of the
KIND byte is ignored, which is the model's choice (log entry 46). -/
def Parts.DatagramIsServed : Prop :=
  (∀ (e : Fin 2) (addr : BitVec 32) (port : BitVec 16) (d : Datagram) (s : State),
    s.phase = .run → linked s e.val = true → d.sound = true → d.bytes.length ≤ datagramMost →
    let t := (learnAddress s d.mac.toNat e.val).inc (Ob.ethRxFrames e.val)
    let u := arpHeard t addr.toNat d.mac.toNat
    let kind := leAt d.bytes 1 1 % 16
    ipUp t = true → d.toAddr.toNat = t.ob Ob.ipAddress → d.toPort.toNat = t.ob Ob.worustUdpPort → serverUp u = true →
    8 ≤ d.bytes.length → leAt d.bytes 0 1 = 1 → 0 < kind → kind < 12 → leAt d.bytes 4 2 = d.bytes.length - 8 →
    Leaves (.udpDatagram e addr port d) s
      (serveMessage u ⟨⟨0x20 + e.val, addr.toNat, port.toNat⟩, leAt d.bytes 2 2, 0, false⟩ kind (d.bytes.drop 8))) ∧
  (∀ (e : Fin 2) (addr : BitVec 32) (port : BitVec 16) (d : Datagram) (s : State),
    s.phase = .run → linked s e.val = true → (d.sound = false ∨ datagramMost < d.bytes.length) →
    Leaves (.udpDatagram e addr port d) s (s.inc (Ob.ethRxErrors e.val)))

/-- The requests over Worust complete (R61–R64, R336–R340). -/
def Obligations.WorustRequestsComplete : Prop :=
  Parts.ReadAndWriteRequestsComplete ∧ Parts.TransferRequestsComplete ∧ Parts.DatagramIsServed

/-! ### Timebases, schedule and event router -/

/-- The grain clocks (R86–R91): a change of the lines is given to the filter, which judges it FilterTime later; a pulse of an enabled clock
that it rejects counts as a glitch and no more, an edge that it accepts counts by the direction; the rate of 10 ms, the stall, the loss
and the return of the signal, and the end of QERR. -/
def Parts.GrainClockCommandsComplete : Prop :=
  (∀ (k : Fin 8) line held (m : EdgeMoment) s, clocksRun s = true →
    Leaves (.gcEdge k line held m) s (gcEdgeAt (reach s m.off) k line held m.ns)) ∧
  (∀ (k : Fin 8) (c : GcChange) s, s.flag (Ob.gcEnable k) = true → ¬(s.ob (Ob.gcCountMode k) = 2 ∧ c.line = .b) → c.line ≠ .both →
    (c.verdict = .glitch → gcJudge s k c = s.inc (Ob.gcGlitchCount k)) ∧
    (c.verdict = .counts → gcJudge s k c =
      match gcDirection (gcAccept s k 1 c.due) k (c.line != .b) c.a c.b with
      | some fwd => gcCount (gcAccept s k 1 c.due) k fwd c.due
      | none => gcAccept s k 1 c.due)) ∧
  (∀ (k : Fin 8) s, clocksRun s = true → s.flag (Ob.gcEnable k) = true → s.due (.gcRate k) 10000 = true →
    Leaves (.gcRateUpdate k) s (gcUpdate s k)) ∧
  (∀ (k : Fin 8) s, clocksRun s = true →
    s.flag (Ob.gcEnable k) = true → s.stBit (Ob.gcStatus k) 4 = false → s.gc[k].lastEdge + s.micros (Ob.gcStallTime k) ≤ s.osc →
    Leaves (.gcStall k) s (raise (gcPutRate (s.putBit (Ob.gcStatus k) 4 true) k 0) (224 + k.val) 2)) ∧
  (∀ (k : Fin 8) s, clocksRun s = true → s.stBit (Ob.gcStatus k) 1 = false →
    Leaves (.gcSignalLoss k) s (raise (s.putBit (Ob.gcStatus k) 1 true) (224 + k.val) 3)) ∧
  (∀ (k : Fin 8) s, clocksRun s = true → s.stBit (Ob.gcStatus k) 1 = true →
    Leaves (.gcSignalReturn k) s (s.putBit (Ob.gcStatus k) 1 false)) ∧
  (∀ (k : Fin 8) s, clocksRun s = true → s.stBit (Ob.gcStatus k) 2 = true → s.gc[k].qerrAt + 1000000 ≤ s.osc →
    Leaves (.qerrExpiry k) s (s.putBit (Ob.gcStatus k) 2 false))

/-- SIGLOSS follows the receiver (R91): the loss sets it and raises event 224 + k with cause 3 once; a second loss, or a return with none
before it, changes nothing. -/
def Obligations.SignalLossReportedOnce : Prop :=
  ∀ (k : Fin 8) (s : State), Safe s → clocksRun s = true →
    (s.stBit (Ob.gcStatus k) 1 = true → exec (.gcSignalLoss k) s = .next s) ∧
    (s.stBit (Ob.gcStatus k) 1 = false → exec (.gcSignalReturn k) s = .next s)

/-- The mains-phase tracker (R93–R95): a crossing an enabled tracker takes, the miss that starts the flywheel, and its end. -/
def Parts.MainsPhaseCommandsComplete : Prop :=
  (∀ (off : Fin 10) s, clocksRun s = true → s.flag Ob.mpEnable = true → Leaves (.mpCrossing off) s (mpCross (reach s off))) ∧
  (∀ s, clocksRun s = true → mpMissDue s = true → Leaves .mpMiss s (mpMissNow s)) ∧
  (∀ s, clocksRun s = true → mpLostDue s = true → Leaves .mpLost s (mpLostNow s))

/-- A miss is due when no valid crossing came within one and a half periods of the last (R94), while the tracker is enabled, has taken a
crossing, knows its period, and neither flies nor is lost. -/
def Obligations.MissDueAfterOneAndAHalfPeriods : Prop :=
  ∀ s : State, mpMissDue s = true ↔
    s.flag Ob.mpEnable = true ∧ s.stBit Ob.mpStatus 2 = false ∧ s.mp.hasValid = true ∧ s.mp.period ≠ 0 ∧ s.mp.missAt = 0 ∧
    2 * s.mp.lastValid + 3 * s.mp.period ≤ 2 * s.osc

/-- The wall clock (R97–R102): one step of 1 µs of a slew, of the rate correction, the step to a written time, and the loss of its
source. -/
def Parts.WallClockCommandsComplete : Prop :=
  (∀ s, clocksRun s = true → s.wcs.slew ≠ 0 → s.wcs.slewAt + 2000 ≤ s.osc → Leaves .wcSlewStep s (slewStep s)) ∧
  (∀ s, clocksRun s = true → rateDue s = true → Leaves .wcRateStep s (rateStep s)) ∧
  (∀ x (v : BitVec 64) s, Writes (.wcTimeWrite x v) s x Ob.wcTime .u64 (bytesLE 8 v.toNat)
    (if s.inPreop = true then [] else [0x00030002]) (fun s => wcStepNow s ((v.toNat : Int) - (s.wc : Int)))) ∧
  (∀ s, s.phase = .run → s.stBit Ob.wcSyncStatus 1 = true → s.wcs.lastMsg + s.micros Ob.wcSyncLossTime ≤ s.osc →
    Leaves .syncLoss s
      (raise { s.putBit Ob.wcSyncStatus 1 false with wcs := { s.wcs with goodRun := 0, hasMeas := false } } 234 0))

/-- The commands of the grain clocks, the mains phase and the wall clock complete (R86–R102). -/
def Obligations.TimebaseCommandsComplete : Prop :=
  Parts.GrainClockCommandsComplete ∧ Parts.MainsPhaseCommandsComplete ∧ Parts.WallClockCommandsComplete

/-- Enable and Target of a schedule entry (R111): setting Enable from 0 to 1 lets the entry arm at the next tick, clearing it disarms it,
and a Target written to an enabled entry acts at the next tick. -/
def Obligations.EntryWritesComplete : Prop :=
  (∀ x (e : Fin 1024) s, Writes (.entryEnableWrite x e (.enable true)) s x (Ob.entryEnable e) .bool [1] []
    (fun s => if s.flag (Ob.entryEnable e) = true then s.put (Ob.entryEnable e) 1
      else
        let t := s.put (Ob.entryEnable e) 1
        setEntry t e { entryDyn t e with arming := true, armed := false })) ∧
  (∀ x (e : Fin 1024) s, Writes (.entryEnableWrite x e (.enable false)) s x (Ob.entryEnable e) .bool [0] []
    (fun s =>
      let t := s.put (Ob.entryEnable e) 0
      setEntry t e { entryDyn t e with arming := false, armed := false })) ∧
  (∀ x (e : Fin 1024) (v : BitVec 64) s, Writes (.entryEnableWrite x e (.target v)) s x (Ob.entryTarget e) .u64 (bytesLE 8 v.toNat)
    (targetCodes s e v.toNat)
    (fun s =>
      let t := s.put (Ob.entryTarget e) v.toNat
      if t.flag (Ob.entryEnable e) = true then setEntry t e { entryDyn t e with arming := true } else t))

/-- EVENT_RECORD_READ (R117): firmware takes the oldest record it holds, and nothing else changes; its source's credit is free again,
since a credit is out exactly while its record waits. -/
def Parts.RecordReadReturnsTheCredit : Prop :=
  (∀ s, s.phase = .run → s.appDown = false →
    Leaves .eventRecordRead s { s with router := { s.router with cores := s.router.cores.drop 1 } }) ∧
  (∀ (s : State) (e : EvRec) (rest : List EvRec), s.router.cores = e :: rest →
    coresOut s e.source = coresOut { s with router := { s.router with cores := rest } } e.source + 1)

/-- Credits (R117, R118): a raise queues one record to module firmware where the source has a credit left there, and otherwise queues none
and adds 1 to the lost count; never more records wait than the source has credits. -/
def Parts.RaiseObeysTheCredits : Prop :=
  ∀ (s : State) (time src payload : Nat),
    (coresOut s src < bits (srcConfig s src) 7 0 →
      (routeTo s 0 time src payload).1.router.cores = s.router.cores ++ [mkRec s 0 time src payload] ∧
      (routeTo s 0 time src payload).2.1 = true) ∧
    (bits (srcConfig s src) 7 0 ≤ coresOut s src →
      (routeTo s 0 time src payload).1.router.cores = s.router.cores ∧ (routeTo s 0 time src payload).2.1 = false ∧
      lostCount (routeTo s 0 time src payload).1 0 src = lostCount s 0 src + 1) ∧
    (coresOut s src ≤ bits (srcConfig s src) 7 0 →
      coresOut (routeTo s 0 time src payload).1 src ≤ bits (srcConfig s src) 7 0)

/-- The credits of the event router (R117, R118) and EVENT_RECORD_READ, which returns one. -/
def Obligations.CreditsBoundTheRecords : Prop := Parts.RecordReadReturnsTheCredit ∧ Parts.RaiseObeysTheCredits

/-! ### Parcels, ledger, model -/

/-- Paths and bins (R130, R145–R147): enabling and disabling a path, its purge, the three adjustments of a bin, the reset of the
ledger. That the last five are refused while the engines accept no update (`stillCodes`) is the model's choice (log entry 89). -/
def Parts.PathAndBinCommandsComplete : Prop :=
  (∀ x (p : Fin 16) s, Writes (.pathEnable x p true) s x (Ob.pathEnable p) .bool [1] (pathEnableCodes s p 1)
    (fun s => if s.ob (Ob.pathEnable p) = 1 then s else syncStepClock (allocPath (s.put (Ob.pathEnable p) 1) p true) p)) ∧
  (∀ x (p : Fin 16) s, Writes (.pathEnable x p false) s x (Ob.pathEnable p) .bool [0] (pathEnableCodes s p 0)
    (fun s => if s.ob (Ob.pathEnable p) = 0 then s else syncStepClock ((releasePath s p).put (Ob.pathEnable p) 0) p)) ∧
  (∀ x (p : Fin 16) s, Writes (.purge x p) s x (Ob.pathPurge p) .u8 [1] ((if s.inOperate = true then [0x00030002] else []) ++ stillCodes s)
    (fun s => purgePath s p)) ∧
  (∀ x (b : Fin 64) s, Writes (.adjustAdd x b) s x (Ob.binAdjustCommand b) .u8 [1]
    (stillCodes s ++ if s.ob (Ob.binAdjustDry b) = 0 then [0x00050002] else []) (fun s => adjustAdd s b)) ∧
  (∀ x (b : Fin 64) s, Writes (.adjustRemove x b) s x (Ob.binAdjustCommand b) .u8 [2]
    (stillCodes s ++ if binDry s b < s.ob (Ob.binAdjustDry b) then [0x00050001] else []) (fun s => adjustRemove s b)) ∧
  (∀ x (b : Fin 64) s, Writes (.adjustEmpty x b) s x (Ob.binAdjustCommand b) .u8 [3] (stillCodes s) (fun s => adjustEmpty s b)) ∧
  (∀ x s, Writes (.ledgerReset x) s x Ob.ledgerLedgerReset .u8 [1]
    ((if s.inPreop = true ∧ noGrain s = true then [] else [0x00030002]) ++ stillCodes s)
    Machine.ledgerReset)

/-- LEDGER_RESET (R145, R146): every account of the ledger, of every path, and DryReceived and DryUnloaded of every bin read 0 when it
ends; BALANCED is set and CHECKFAIL cleared, and NAND, the parcels and the bins are as before. -/
def Obligations.LedgerResetZeroesTheAccounts : Prop :=
  ∀ (x : Sender) (s : State), Applies s x Ob.ledgerLedgerReset .u8 [1] (ledgerResetCodes s) Machine.ledgerReset → Ready s →
    ∃ t, exec (.ledgerReset x) s = .next t ∧
      (∀ i < 13, t.ob (key 0x4000 (1 + i)) = 0) ∧ (∀ p < 16, ∀ i < 8, t.ob (key (0x4080 + p) (1 + i)) = 0) ∧
      (∀ b < 64, t.ob (Ob.binDryReceived b) = 0 ∧ t.ob (Ob.binDryUnloaded b) = 0) ∧
      t.stBit Ob.ledgerLedgerStatus 0 = true ∧ t.stBit Ob.ledgerLedgerStatus 1 = false ∧
      t.nand = s.nand ∧ t.plant = s.plant

/-- The archive and the checkpoints (R149, R152, R153): a page of archive records goes to NAND; at each Period a checkpoint begins and the
next is due a Period later; a checkpoint becomes valid, and behind one of a power failure the journal and the counters follow (R462, R493);
behind that of a Winter entry they follow as Winter is reached (R432). -/
def Parts.CheckpointCommandsComplete : Prop :=
  (∀ s, s.phase = .run → Leaves .archivePageWrite s (archivePageWrite s)) ∧
  (∀ s, checkpointDue s = true →
    Leaves .checkpointPeriodic s
      (let t := ckptStart s 1
       { t with plant := { t.plant with ckptDue := s.plant.ckptDue + s.micros Ob.ckptPeriod } })) ∧
  (∀ s r, s.phase = .run → s.plant.ckptRun = some r → r.kind ≠ 2 → Leaves .checkpointValid s (ckptFinish s)) ∧
  (∀ s r, s.phase = .run → s.plant.ckptRun = some r → r.kind = 2 → s.winter.stage ≠ 2 →
    Leaves .checkpointValid s (saveCounters (flushJournal (ckptFinish s)))) ∧
  (∀ s r, s.phase = .run → s.plant.ckptRun = some r → r.kind = 2 → s.winter.stage = 2 →
    Leaves .checkpointValid s (ckptFinish s))

/-- A checkpoint becomes valid (R151, R152): it stands in NAND behind the others with the next number and the digest of its body, and
Sequence and LastTime report it. That the number is 1 where no valid checkpoint is held, and the bytes that the digest runs over
(`ckptBytes`), are the model's choices (log entry 79). -/
def Obligations.ValidCheckpointIsReported : Prop :=
  ∀ (s : State) (r : CkptRun), s.plant.ckptRun = some r →
    let n := ((ckptNewest s).map (fun c => c.seq + 1)).getD 1 % 2 ^ 32
    (ckptFinish s).ob Ob.ckptSequence = n ∧ (ckptFinish s).ob Ob.ckptLastTime = r.wc ∧
    (ckptFinish s).plant.ckptRun = none ∧
    (s.nand.ckpts.length < 16 → (ckptFinish s).nand.ckpts = s.nand.ckpts ++ [⟨n, r.kind, sha256 (ckptBytes r.body), r.body⟩])

/-- The drying model (R158, R178): a step at each StepPeriod in timed mode, one counted as skipped while the last still runs, the
fallback step of displacement mode after 10 s, and the publication of a completed step. That the 10 s are counted in oscillator time is
the model's choice (log entry 108). -/
def Parts.ModelCommandsComplete : Prop :=
  (∀ (p : Fin 16) s, s.phase = .run → (pathSt s p).clockOn = true → s.ob (Ob.pmodelStepMode p) = 0 →
    (pathSt s p).nextStep ≤ s.ticks → modelHeld s = false →
    let t := setPath s p (fun x => { x with nextStep := x.nextStep + stepTicks s p })
    ((pathSt s p).run = none → Leaves (.modelStepTimed p) s (modelStep t p)) ∧
    ((pathSt s p).run.isSome = true →
      Leaves (.modelStepTimed p) s ((t.putBit (Ob.pmodelModelStatus p) 1 true).inc Ob.modelStepsSkipped))) ∧
  (∀ (p : Fin 16) s, s.phase = .run → (pathSt s p).clockOn = true → s.ob (Ob.pmodelStepMode p) = 1 →
    (pathSt s p).since + 10000000 ≤ s.osc → modelHeld s = false → (pathSt s p).run = none →
    Leaves (.modelStepFallback p) s (modelStep s p)) ∧
  (∀ (p : Fin 16) s r, s.phase = .run → (pathSt s p).run = some r → Leaves (.modelStepEnd p) s (modelPublish s p))

/-- The commands of paths, bins, the ledger, checkpoints and the drying model complete (R130, R145–R158, R178). -/
def Obligations.PlantCommandsComplete : Prop :=
  Parts.PathAndBinCommandsComplete ∧ Parts.CheckpointCommandsComplete ∧ Parts.ModelCommandsComplete

/-! ### The dielectric front end -/

/-- The measurement (R187, R197): a cycle starts at a WC multiple of its period on a module with ports fitted; the slot of a cell that is
fitted and enabled starts once in it; the sweep that has ended is corrected and published, or taken into a capture. That a fault of the DSP
engine counts as not yet masked for the rest of its slot (`maskedFault`, `slotLeft`) is the model's reading of R480 and R489 (log entry 104).
That LOCKED, a bit of the front end's Status that R203 only names, tells at each reading whether the synthesiser stayed in lock is the
model's choice (log entry 80). -/
def Parts.DielectricCommandsComplete : Prop :=
  (∀ s, s.phase = .run → 0 < s.ob Ob.identFittedCellPorts → s.wc % cyclePeriod s = 0 →
    (s.diel.cycleOn = true → s.diel.cycleLen ≤ cycleTime s) → Leaves .dielectricCycle s (cycleStart s)) ∧
  (∀ (c : Fin 4) s, s.phase = .run → s.diel.cycleOn = true → cellFitted s c.val = true → s.flag (Ob.cellEnable c.val) = true →
    s.diel.served.contains c.val = false →
    let at_ := c.val * 50000
    at_ ≤ cycleTime s → cycleTime s < at_ + 50000 →
    Leaves (.dielectricSlot c) s
      (let t := { s with diel := { s.diel with served := s.diel.served ++ [c.val] } }
       updCell t c (fun x => { x with
         slot := some ⟨s.diel.cycleAt + at_, s.ob Ob.feFrequencyCount, if x.sweeps < 16 then x.capture else 3, false, none⟩ }))) ∧
  (∀ (c : Fin 4) sweep x engine s r, s.phase = .run → s.diel.cells[c].slot = some r → (r.wc : Int) + r.n * 2500 ≤ s.wc - s.diel.stepped →
    let meas := corrected s r.n sweep
    let t := s.putBit Ob.feStatus 0 (!x.unlocked)
    let t := if x.unlocked = true ∨ x.overload = true then t.inc Ob.feFrontEndFaults else t
    let t := if engine = true then maskedFault (t.inc Ob.faultDspFaults) 0 (slotLeft t r) else t
    (r.kind = 0 → Leaves (.dielectricReading c sweep x engine) s (publishReading t c r meas (x.unlocked || x.overload) engine)) ∧
    (r.kind ≠ 0 → Leaves (.dielectricReading c sweep x engine) s (captureSweep t c r meas (x.unlocked || x.overload) engine)))

/-- Calibration (R192–R194): the two captures start, the 16 sweeps of one become its result, the pending record replaces CalData or is
dropped, and a written CalData replaces the calibration. That a start or a discard turns the slot in progress into an ordinary one, and the
calibration begins behind it (`ordinarySlot`), is the model's reading of R193; that a start begins anew where a capture runs, that a discard
ends a capture, and that a written CalData keeps a pending record and a capture, are its choices (all log entry 80). -/
def Parts.CalibrationCommandsComplete : Prop :=
  (∀ x (c : Fin 4) s, Writes (.calCaptureEmpty x c) s x (Ob.cellCalCommand c) .u8 [1] (calCodes s c 1)
    (fun s => updCell s c (fun y => { ordinarySlot y with capture := 1, sweeps := 0, sums := [] }))) ∧
  (∀ x (c : Fin 4) s, Writes (.calCaptureReference x c) s x (Ob.cellCalCommand c) .u8 [2] (calCodes s c 2)
    (fun s => updCell s c (fun y => { ordinarySlot y with capture := 2, sweeps := 0, sums := [] }))) ∧
  (∀ (c : Fin 4) s, s.phase = .run → s.diel.cells[c].capture ≠ 0 → 16 ≤ s.diel.cells[c].sweeps →
    Leaves (.calCaptureDone c) s (captureDone s c)) ∧
  (∀ x (c : Fin 4) s p l, s.diel.cells[c].pend = some p → s.diel.cells[c].leff = some l →
    Applies s x (Ob.cellCalCommand c) .u8 [3] (calCodes s c 3) (Machine.calAccept c) →
    Leaves (.calAccept x c) s (recorded s x (Ob.cellCalCommand c) .u8 [3]
      ((updCell (s.putBytes (Ob.calDataCalData c) (calBytes p.1 l p.2)) c (fun y => { y with pend := none, leff := none })).put
        (Ob.cellCalStatus c) 3))) ∧
  (∀ x (c : Fin 4) s, Writes (.calDiscard x c) s x (Ob.cellCalCommand c) .u8 [4] (calCodes s c 4)
    (fun s => (updCell s c (fun y => { ordinarySlot y with capture := 0, sweeps := 0, sums := [], pend := none, leff := none })).put
      (Ob.cellCalStatus c) (calRest s c))) ∧
  (∀ x (c : Fin 4) (d : List Byte) s, Writes (.caldataWrite x c d) s x (Ob.calDataCalData c) .domain d (calDataCodes d)
    (fun s =>
      let t := s.putBytes (Ob.calDataCalData c) d
      t.put (Ob.cellCalStatus c) (calRest t c)))

/-- The commands of the dielectric front end complete (R187–R197). LOCKED in the clause of a reading, and what a calibration command does to a
slot or a capture in progress, are the model's choices of log entry 80. -/
def Obligations.MoistureCommandsComplete : Prop :=
  Parts.DielectricCommandsComplete ∧ Parts.CalibrationCommandsComplete

/-! ### Loops, tests, traces, engines -/

/-- A sample (R213, R214), at its instant of the tick (`reach`): an engine with a free slot pulls the next queued one, and its commit is one
update; a commit more than 20 µs after the pull, but for the cache-miss wait, is the failure of the engine (R481). -/
def Parts.SampleCommandsComplete : Prop :=
  (∀ (e : Fin 18) (off : Fin 10) s q l,
    let t := reach s off
    t.inOperate = true → engineServes t e = true → (t.service.filter (fun v => v.engine == e.val)).length < 12 → nextSample t = some q →
    loopOf t q.loop = some l →
    Leaves (.samplePull e off) s
      (let u := { t.tickFree with
         queue := t.queue.filter (fun x => x.loop != q.loop), service := t.service ++ [pulledSample t l e q] }
       ((loopReads t q.loop).filter (fun c => t.cache.contains c)).foldl touchChan u)) ∧
  (∀ (n : Fin 512) sv ms (off : Fin 10) s v l,
    let t := reach s off
    t.inOperate = true → inService t n.val = some v → v.missing = [] → loopOf t n = some l →
    (sv - ms ≤ 20000 → Leaves (.sampleCommit n sv ms off) s (commitSample t v l sv ms)) ∧
    (20000 < sv - ms → Leaves (.sampleCommit n sv ms off) s (engineFails t (Fin.ofNat 18 v.engine))))

/-- Loops (R209, R223, R243): Active taken and returned, and the shadow sets marked for loading at the next sample. -/
def Parts.LoopCommandsComplete : Prop :=
  (∀ x (n : Fin 512) s, Writes (.loopActivate x n) s x (Ob.loopActive n) .bool [1] (loopActivateCodes s n)
    (fun s => loopActivateEff n s)) ∧
  (∀ x (n : Fin 512) s, Writes (.loopDeactivate x n) s x (Ob.loopActive n) .bool [0] [] (fun s => loopDeactivateEff n s)) ∧
  (∀ x (n : Fin 512) s l, loopOf s n = some l → Applies s x (Ob.loopCoeffApply n) .u8 [1] [] (coeffApplyEff n) →
    Leaves (.coeffApply x n) s (recorded s x (Ob.loopCoeffApply n) .u8 [1]
      (setLoop s { l with coeffPend := true, coeffAgain := s.service.any (fun v => v.loop == n.val) }))) ∧
  (∀ x (n : Fin 512) (v : Byte) s l, loopOf s n = some l →
    Applies s x (Ob.profRegionApply n) .u8 [v] [] (regionApplyEff n v.toNat) →
    let m := if v.toNat = 0xFF then 0xFE else 2 ^ v.toNat
    Leaves (.regionApply x n v) s (recorded s x (Ob.profRegionApply n) .u8 [v]
      (setLoop s { l with
        pendMask := l.pendMask ||| m, maskAgain := if s.service.any (fun y => y.loop == n.val) then l.maskAgain ||| m else 0 })))

/-- Injection tests and traces (R260, R265, R266): their commands where their writes are served and meet no abort. -/
def Parts.TestAndTraceCommandsComplete : Prop :=
  (∀ x (d : Fin 32) s, Writes (.injectionStart x d) s x (Ob.injCommand d) .u8 [1] (injCodes s d 1) (fun s => injStart d s)) ∧
  (∀ x (d : Fin 32) s, Writes (.injectionEnd x d) s x (Ob.injCommand d) .u8 [2] [] (fun s => injEnd d s)) ∧
  (∀ x (d : Fin 32) s, Writes (.injectionRelease x d) s x (Ob.injCommand d) .u8 [3]
    (if injBusy s d = true then [0x00030002] else []) (fun s => injRelease d s)) ∧
  (∀ x (t : Fin 8) s, Writes (.traceEnable x t) s x (Ob.traceEnable t) .bool [1] []
    (fun s => traceRestart t (s.put (Ob.traceEnable t) 1))) ∧
  (∀ x (t : Fin 8) s, Writes (.traceRearm x t) s x (Ob.traceCommand t) .u8 [1] []
    (fun s => if traceActs s t 1 = true then traceCmdEff t 1 s else s)) ∧
  (∀ x (t : Fin 8) s, Writes (.traceTriggerNow x t) s x (Ob.traceCommand t) .u8 [2] []
    (fun s => if traceActs s t 2 = true then traceCmdEff t 2 s else s))

/-- A trace slot starts anew by command 1 only in State 2 or 3, and is triggered by command 2 only in State 1 (R266). -/
def Parts.TraceCommandsActIn : Prop :=
  ∀ (s : State) (t : Fin 8), (traceActs s t 1 = true ↔ s.ob (Ob.traceState t) = 2 ∨ s.ob (Ob.traceState t) = 3) ∧
    (traceActs s t 2 = true ↔ s.ob (Ob.traceState t) = 1)

/-- The engines (R269, R481): the load over the last second, taken at tick boundaries (`loadOver`, the model's choice, log entry 110), above 1.0 with event 18, with the engines that have become slow retired, and a failed
engine, which in BOOT may fail once the loop contexts are loaded (`pairUp`, the model's choice, log entry 106). -/
def Parts.EngineCommandsComplete : Prop :=
  (∀ s, s.phase = .run → s.due .loopLoad 1000000 = true → FX.gt (loadOver s) FX.one = false →
    Leaves .loopLoadCheck s (retireSlow 18 ((s.put Ob.engLoopLoad (loadOver s).toBits32).ran .loopLoad 1000000))) ∧
  (∀ s, s.phase = .run → s.due .loopLoad 1000000 = true → FX.gt (loadOver s) FX.one = true →
    Leaves .loopLoadCheck s
      (raise (retireSlow 18 ((s.put Ob.engLoopLoad (loadOver s).toBits32).ran .loopLoad 1000000)) 18
        (match loadOver s with
         | .inf _ => 65535
         | x => min 65535 (FX.mul x (FX.ofNat 1000)).floor.toNat))) ∧
  (∀ (e : Fin 18) s, pairUp s .app = true → s.ob (Ob.engStateEngineState e) ≠ 4 → Leaves (.loopEngineFailure e) s (engineFails s e))

/-- The commands of loops, tests, traces and engines complete (R209–R269, R481). -/
def Obligations.LoopCommandsComplete : Prop :=
  Parts.SampleCommandsComplete ∧ Parts.LoopCommandsComplete ∧ Parts.TestAndTraceCommandsComplete ∧ Parts.TraceCommandsActIn ∧
  Parts.EngineCommandsComplete

/-! ### Sequencing -/

/-- Rounds and evaluations (R271, R292): a round at a WC multiple of 10 ms, counted as an overrun while the last still runs, and the
aeration of all bins at a WC multiple of 10 s. -/
def Parts.RoundCommandsComplete : Prop :=
  (∀ took s, s.inOperate = true → s.appDown = false → s.wc % 10000 = 0 → s.seq.busyTo ≤ s.osc →
    Leaves (.sequencingRound took) s (sequencingRound s took)) ∧
  (∀ took s, s.inOperate = true → s.appDown = false → s.wc % 10000 = 0 → s.osc < s.seq.busyTo →
    Leaves (.sequencingRound took) s (s.inc Ob.seqRoundOverruns)) ∧
  (∀ s, s.inOperate = true → s.appDown = false → s.wc % 10000000 = 0 → s.seq.first = false → s.seq.lastWc = s.wc →
    Leaves .aerationEvaluate s ((List.range 64).foldl aerEvaluate s))

/-- The commands of chains, dryers and aerated bins (R279–R281, R285, R294, R295): each is held for the next round. -/
def Parts.SequencerCommandsComplete : Prop :=
  (∀ x (k : Fin 8) s, Writes (.chainStart x k) s x (Ob.chainCommand k) .u8 [1] (chainCodes s k 1)
    (fun s => setChain s k (fun c => { c with cmd := 1 }))) ∧
  (∀ x (k : Fin 8) s, Writes (.chainStop x k) s x (Ob.chainCommand k) .u8 [2] (chainCodes s k 2)
    (fun s => setChain s k (fun c => { c with cmd := 2 }))) ∧
  (∀ x (k : Fin 8) s, Writes (.chainReset x k) s x (Ob.chainCommand k) .u8 [3] (chainCodes s k 3)
    (fun s => setChain s k (fun c => { c with cmd := 3 }))) ∧
  (∀ x (d : Fin 4) s, Writes (.dryerStart x d) s x (Ob.dryerCommand d) .u8 [1] (dryerCodes s d 1)
    (fun s => setDryer s d (fun y => { y with cmd := 1 }))) ∧
  (∀ x (d : Fin 4) s, Writes (.dryerStop x d) s x (Ob.dryerCommand d) .u8 [2] (dryerCodes s d 2)
    (fun s => setDryer s d (fun y => { y with cmd := 2 }))) ∧
  (∀ x (d : Fin 4) s, Writes (.dryerEmpty x d) s x (Ob.dryerCommand d) .u8 [3] (dryerCodes s d 3)
    (fun s => setDryer s d (fun y => { y with cmd := 3 }))) ∧
  (∀ x (d : Fin 4) s, Writes (.dryerReset x d) s x (Ob.dryerCommand d) .u8 [4] (dryerCodes s d 4)
    (fun s => setDryer s d (fun y => { y with cmd := 4 }))) ∧
  (∀ x (b : Fin 64) (m : Byte) s, Writes (.aerationModeWrite x b m) s x (Ob.aerMode b) .u8 [m]
    (if 1 ≤ m.toNat ∧ m.toNat ≤ 4 ∧ s.ob (Ob.aerFanRunChannel b) = 0xFFFF then [0x00050006] else [])
    (fun s => s.put (Ob.aerMode b) m.toNat)) ∧
  (∀ x (b : Fin 64) s, Writes (.aerationReset x b) s x (Ob.aerCommand b) .u8 [1]
    (if s.ob (Ob.aerState b) = 2 then [] else [0x00030002]) (fun s => setAer s b (fun y => { y with cmd := 1 })))

/-- The commands of the sequencer complete (R271–R295). -/
def Obligations.SequencingCommandsComplete : Prop :=
  Parts.RoundCommandsComplete ∧ Parts.SequencerCommandsComplete

/-- The chain commands are accepted only in OPERATE and in the states R281 lists, a start and a reset only while no PlugChannel of a
member is active; elsewhere they meet 0x0003_0002. -/
def Obligations.ChainCommandsAcceptedIn : Prop :=
  ∀ (s : State) (k : Fin 8),
    let plug := (chainMembers s k).any (fun c => inActive s (Ob.convPlugChannel c))
    (chainCodes s k 1 = [] ↔ s.inOperate = true ∧ s.ob (Ob.chainState k) = 0 ∧ plug = false) ∧
    (chainCodes s k 2 = [] ↔ s.inOperate = true ∧ (s.ob (Ob.chainState k) = 1 ∨ s.ob (Ob.chainState k) = 2)) ∧
    (chainCodes s k 3 = [] ↔ s.inOperate = true ∧ s.ob (Ob.chainState k) = 4 ∧
      (chainMembers s k).all (fun c => !(convSt s c).on) = true ∧ plug = false) ∧
    (∀ v, chainCodes s k v = [] ∨ chainCodes s k v = [0x00030002])

/-! ### The message bus -/

/-- A controller's start and stop (R298–R300, R310): Enable written, integration done, the written mode taken while no frame is chosen,
and the choice of the next frame. That the choice comes with its instant and the start-of-frame of the frame chosen (R311), here and at the end
of recovery, is the model's reading (log entry 63). -/
def Parts.BusControlCommandsComplete : Prop :=
  (∀ x (n : Fin 4) s, Writes (.busEnable x n) s x (Ob.busEnable n) .bool [1]
    (if (timingFault s n).isSome = true then [0x00050006] else [])
    (fun s =>
      let t := s.put (Ob.busEnable n) 1
      if t.bus[n].started = true then t else startBus t n)) ∧
  (∀ x (n : Fin 4) s, Writes (.busDisable x n) s x (Ob.busEnable n) .bool [0] [] (busDisableEff n)) ∧
  (∀ (n : Fin 4) s, s.phase = .run → s.bus[n].started = true → busBit s n 8 = true → busBit s n 11 = false →
    Leaves (.integrationDone n) s
      (winterOn (busIdle (setBusBit (setBusBit (setBusBit s n 8 false) n 13 false) n 1 true) n))) ∧
  (∀ (n : Fin 4) s, s.phase = .run → s.bus[n].started = true → s.bus[n].chosen = none →
    Leaves (.busModeApply n) s (setBus s n { s.bus[n] with mode := s.ob (Ob.busOperatingMode n) })) ∧
  (∀ (n : Fin 4) (off : Fin 10) (sof : Int) s, s.phase = .run → s.bus[n].started = true →
    Leaves (.txChoice ⟨n, off, sof⟩) s (winterOn (txChoice (reach s off) n sof)))

/-- The receive queue of a controller that is not started when Enable is cleared is empty, and no other controller changes (R300). -/
def Obligations.DisabledControllerQueueIsEmpty : Prop :=
  ∀ (n : Fin 4) (s : State), s.bus[n].started = false →
    (busDisableEff n s).ob (Ob.busEnable n) = 0 ∧ (busDisableEff n s).bus[n].rxq = [] ∧ (busDisableEff n s).bus[n].started = false ∧
    ∀ m : Fin 4, m ≠ n → (busDisableEff n s).bus[m] = s.bus[m]

/-- Frames on the bus (R298, R306, R310, R311, R314, R315, R321): the chosen frame is sent or loses arbitration, an error or a protocol
exception is met, a frame is received, and firmware takes the oldest entry it finds. -/
def Parts.BusFrameCommandsComplete : Prop :=
  (∀ (n : Fin 4) tdc s b, s.phase = .run → onBus s n = true → activeBuf s n = some b →
    Leaves (.frameSent n tdc) s (winterOn (frameSent s n b tdc))) ∧
  (∀ (n : Fin 4) s b, s.phase = .run → onBus s n = true → activeBuf s n = some b →
    Leaves (.arbitrationLost n) s (winterOn
      (let t := s.inc (Ob.busTxArbLostCount n)
       let t := setBus t n { t.bus[n] with chosen := none }
       if bufStatus t n b = 6 then feedBus (bufCancelled t n b) n else t.put (Ob.busTxBufferStatus n b) 1))) ∧
  (∀ (n : Fin 4) lec (pl : ErrorPlace) e p k tdc s, s.phase = .run → onBus s n = true →
    Leaves (.busError n lec pl e p k tdc) s (winterOn (busError (tdcMeasure s n tdc) n lec pl.data e p k pl.site))) ∧
  (∀ (n : Fin 4) s, s.phase = .run → onBus s n = true → s.bus[n].mode ≠ 3 →
    Leaves (.protocolException n) s
      (if s.bus[n].protExc = true then
         busRaise (setBusBit (setBusBit (setBusBit s n 13 true) n 8 true) n 1 false) n 6 0
       else busError s n 2 false false false 0 .frame)) ∧
  (∀ (n : Fin 4) f age (off : Fin 10) s, s.phase = .run → hearsFrame (reach s off) n (carriedFrame f) = true →
    Leaves (.frameReceived n f age off) s
      (wakeDuringEntry (frameReceived (reach s off) n (carriedFrame f) age) n (carriedFrame f))) ∧
  (∀ (n : Fin 4) s e t, s.phase = .run → s.appDown = false → releaseEntry s n = some (e, t) →
    (isWorust e = true → serverUp t = true → Leaves (.queueRelease n) s (busFrame t n e.frame e.time e.at_)) ∧
    (isWorust e = false → Leaves (.queueRelease n) s (toRawRing t n e)))

/-- The raw path, recovery and transceiver reports (R312, R323, R324, R327). -/
def Parts.RawAndRecoveryCommandsComplete : Prop :=
  (∀ x (n : Fin 4) (d : List Byte) s, Writes (.rawTxFrame x n d) s x (Ob.busTxRawTxFrame n) .domain d (rawTxCodes s n d)
    (fun s => loadBuf s n 2 [rawFrameOf d] (originOf x) 0 0)) ∧
  (∀ x (n : Fin 4) s, Writes (.rawTxCancel x n) s x (Ob.busTxRawTxCancel n) .u8 [1] [] (fun s => cancelBuf s n 2)) ∧
  (∀ x (n : Fin 4) s, Writes (.recoveryCommand x n) s x (Ob.busRecoveryCommand n) .u8 [1]
    (if busBit s n 11 = true then [] else [0x00030002]) (fun s => recoveryRequest s n)) ∧
  (∀ (n : Fin 4) s, s.phase = .run → s.appDown = false → busBit s n 11 = true → s.ob (Ob.busRecoveryMode n) = 1 →
    s.bus[n].recovReq = false → s.bus[n].busOffAt + s.micros (Ob.busRecoveryDelay n) ≤ s.osc →
    Leaves (.recoveryDelay n) s
      (let t := s.put (Ob.busRecoveryProgress n) 0
       setBusBit (setBus t n { t.bus[n] with recovReq := true, recovAt := t.osc }) n 12 true)) ∧
  (∀ (n : Fin 4) (off : Fin 10) (sof : Int) s, s.phase = .run → s.bus[n].started = true → busBit s n 12 = true → 128 ≤ recoveryRunsMost (reach s off) n →
    Leaves (.recoveryComplete ⟨n, off, sof⟩) s (txChoice (recoveryComplete (reach s off) n) n sof)) ∧
  (∀ (n : Fin 4) u s, s.phase = .run → busBit s n (if u = true then 14 else 15) = false →
    Leaves (.transceiverFault n u true) s
      (busRaise (setBusBit s n (if u = true then 14 else 15) true) n 9 (if u = true then 2 else 1))) ∧
  (∀ (n : Fin 4) u s, s.phase = .run → busBit s n (if u = true then 14 else 15) = true →
    Leaves (.transceiverFault n u false) s (setBusBit s n (if u = true then 14 else 15) false))

/-- The commands of the message bus controllers complete (R298–R327). -/
def Obligations.BusCommandsComplete : Prop :=
  Parts.BusControlCommandsComplete ∧ Parts.BusFrameCommandsComplete ∧ Parts.RawAndRecoveryCommandsComplete

/-- A request for recovery while one is already made does nothing; in bus-off the first sets RECOVERING and starts the count at 0
(R323). -/
def Obligations.RepeatedRecoveryRequestDoesNothing : Prop :=
  ∀ (n : Fin 4) (s : State),
    (s.bus[n].recovReq = true → recoveryRequest s n = s) ∧
    (s.bus[n].recovReq = false →
      (recoveryRequest s n).ob (Ob.busRecoveryProgress n) = 0 ∧ busBit (recoveryRequest s n) n 12 = true ∧
      recoveryRequest (recoveryRequest s n) n = recoveryRequest s n)

/-! ### Points, publications, time, addresses, wake -/

/-- Points and publications, and the first frames that wait for a CONT (R333, R342, R343). -/
def Parts.PointCommandsComplete : Prop :=
  (∀ (n : Fin 4) s, s.phase = .run → s.appDown = false →
    Leaves (.contTimeout n) s
      (setBus s n { s.bus[n] with conts := s.bus[n].conts.filter (fun c => decide (s.osc ≤ c.at_ + 100000) || contQueued s n c) })) ∧
  (∀ (n : Fin 4) (node : BitVec 7) (point : BitVec 16) v (fl : Byte) age s, serverUp s = true → s.bus[n].started = true →
    Leaves (.pointReceived n node point v fl age) s
      (Machine.pointReceived s n node.toNat (point.toNat % 256) v.toNat fl.toNat (s.wc - age))) ∧
  (∀ (n : Fin 4) (point : BitVec 16) s, s.phase = .run →
    let late := (boundChans s 8 0x0B n.val point.toNat).filter (fun c => match assoc s.net.points c with
      | some t => decide (t + s.micros Ob.worustPointTimeout ≤ s.osc)
      | none => false)
    late ≠ [] →
    Leaves (.pointTimeout n point) s
      (raise (late.foldl (fun s c =>
        let s := feedBit s c 0 false
        { s with net := { s.net with points := assocDrop s.net.points c } }) s)
        199 (n.val * 2 ^ 16 + point.toNat))) ∧
  (∀ (q : Fin 32) s, pubDue s q = true →
    Leaves (.publicationPeriod q) s
      (publish { s with net := { s.net with pubAt := s.net.pubAt.set q s.osc } } q)) ∧
  (∀ (q : Fin 32) s, s.phase = .run → s.due (.publication q) 10000 = true →
    (pubMoved s q = true → Leaves (.publicationDeltaCheck q) s (publish (s.ran (.publication q) 10000) q)) ∧
    (pubMoved s q = false → Leaves (.publicationDeltaCheck q) s (s.ran (.publication q) 10000)))

/-- Time (R345, R346): the sync frame of a master, a sync frame and its follow-up on the sync channel, the poll of the Ethernet server and
its reply. That the offset of a reply, half of an odd sum, is rounded down is the model's choice (log entry 30). -/
def Parts.TimeCommandsComplete : Prop :=
  (∀ (n : Fin 4) s, s.phase = .run → s.appDown = false → masterDue s n = true → Leaves (.syncInterval n) s (syncMaster s n)) ∧
  (∀ (n : Fin 4) (sq : Byte) age (off : Fin 10) s, s.phase = .run → s.appDown = false → s.bus[n].started = true →
    followsBus (reach s off) n = true →
    Leaves (.timeSync n sq age off) s
      (let t := reach s off
       let kept := t.bus[n].held.filter (fun h => h.1 != sq.toNat && decide (t.osc ≤ h.2.2 + 1000000))
       setBus t n { t.bus[n] with held := kept ++ [(sq.toNat, t.wc - age, t.osc)] })) ∧
  (∀ (n : Fin 4) (sq : Byte) (master : BitVec 64) s time at_, s.phase = .run → s.appDown = false → s.bus[n].started = true →
    followsBus s n = true →
    s.bus[n].held.find? (fun h => h.1 == sq.toNat && decide (s.osc ≤ h.2.2 + 1000000)) = some (sq.toNat, time, at_) →
    Leaves (.timeFollowUp n sq master) s
      (timeMeasured (setBus s n { s.bus[n] with held := s.bus[n].held.filter (fun h => h.1 != sq.toNat) })
        ((master.toNat : Int) - (time : Int)) false)) ∧
  (∀ s, s.phase = .run → ipUp s = true → pollDue s = true → Leaves .timePoll s (timePoll s)) ∧
  (∀ (tid : BitVec 16) (t2 t3 : BitVec 64) (off : Fin 10) s, s.phase = .run → s.appDown = false →
    s.ob Ob.wcSyncSource = 1 → s.net.pollOpen = true → tid.toNat = s.net.pollTid →
    let u := reach s off
    let delay : Int := ((u.wc : Int) - (s.net.pollT1 : Int)) - ((t3.toNat : Int) - (t2.toNat : Int))
    delay ≤ 10000 →
    Leaves (.timeReply tid t2 t3 off) s
      (timeMeasured (u.putF Ob.tsyncLastDelay (FX.to32 (FX.div (FX.ofInt delay) (FX.ofNat 1000000))))
        ((((t2.toNat : Int) - (s.net.pollT1 : Int)) + ((t3.toNat : Int) - (u.wc : Int))) / 2) true))

/-- Ports and addresses (R348–R350): a port takes a link its setting admits, with event 192 + e; a lease is bound, lapses with UP cleared
and event 195, and is asked for again; a claimed address sets CONFLICT with event 196; dropped broadcasts are counted, with event
203. That a DHCP frame of the module goes out by every linked port and counts in its TxFrames (`sendAll`, at a bound lease and at a retry) is
the model's choice, presumed of RFC 2131 (log entry 69). -/
def Parts.AddressCommandsComplete : Prop :=
  (∀ (e : Fin 2) (st : Fin 6) s, s.phase = .run → s.flag (Ob.ethEnable e) = true →
    linkAdmits (s.ob (Ob.ethLinkMode e)) st = true → s.winter.stage ≤ 1 → s.ob (Ob.ethLinkStatus e) ≠ st.val →
    Leaves (.linkChange e st) s (ipFollow (raise (s.put (Ob.ethLinkStatus e) st.val) (192 + e.val) st.val))) ∧
  (∀ (e : Fin 2) s, s.phase = .run → s.ob (Ob.ethLinkStatus e) ≠ 0 →
    Leaves (.linkChange e 0) s (ipFollow (raise (s.put (Ob.ethLinkStatus e) 0) (192 + e.val) 0))) ∧
  (∀ s, s.phase = .run → ipBit s 1 = true → s.net.leaseEnd ≤ s.osc →
    Leaves .dhcpLeaseLapse s
      (let t := putAddress (s.putBit Ob.ipIpStatus 1 false) 0 0
       raise (ipFollow { t with net := { t.net with retryAt := t.osc } }) 195 0)) ∧
  (∀ s, s.phase = .run → s.ob Ob.ipAddressMode = 1 → ipBit s 1 = false → s.net.retryAt + 10000000 ≤ s.osc →
    Leaves .dhcpRetry s (sendAll { s with net := { s.net with retryAt := s.osc } })) ∧
  (∀ (a m secs : BitVec 32) s, s.phase = .run → s.ob Ob.ipAddressMode = 1 → (linked s 0 || linked s 1) = true →
    Leaves (.dhcpBound a m secs) s
      (let t := (putAddress (sendAll s) a.toNat m.toNat).putBit Ob.ipIpStatus 1 true
       ipFollow { t with net := { t.net with leaseEnd := t.osc + secs.toNat * 1000000 } })) ∧
  (∀ (a : BitVec 32) s, s.phase = .run → s.ob Ob.ipAddress ≠ 0 →
    Leaves (.addressConflict a) s (raise (s.putBit Ob.ipIpStatus 2 true) 196 a.toNat)) ∧
  (∀ (e : Fin 2) d s, s.phase = .run → 0 < d → s.net.stormSeen = false ∨ s.net.stormAt + 1000000 ≤ s.osc →
    Leaves (.broadcastStorm e d) s
      (let t := s.incBy (Ob.ethStormDrops e) d
       let last := (t.osc, d) :: t.net.drops.filter (fun x => decide (t.osc < x.1 + 1000000))
       raise { t with net := { t.net with drops := last, stormSeen := true, stormAt := t.osc } } 203 (sumBy last (·.2)))) ∧
  (∀ (e : Fin 2) d s, s.phase = .run → 0 < d → s.net.stormSeen = true → s.osc < s.net.stormAt + 1000000 →
    Leaves (.broadcastStorm e d) s
      (let t := s.incBy (Ob.ethStormDrops e) d
       { t with net := { t.net with drops := (t.osc, d) :: t.net.drops.filter (fun x => decide (t.osc < x.1 + 1000000)) } }))

/-- The commands of points, publications, time and addresses complete (R333, R342–R350); that the module's DHCP frames go out by every linked
port and count in TxFrames is the model's choice (log entry 69), and so is that the offset of TIME_REPLY is rounded down (log entry 30). -/
def Obligations.NetworkCommandsComplete : Prop :=
  Parts.PointCommandsComplete ∧ Parts.TimeCommandsComplete ∧ Parts.AddressCommandsComplete

/-- The wake detectors in Winter (R351, R352): the pattern wakes a channel in WakeMode 0, a matching frame one in WakeMode 1; a decoding
error or a correct frame moves the error count, which wakes at 32. -/
def Obligations.WakeCommandsComplete : Prop :=
  (∀ (n : Fin 4) s, armed s n 0 = true → Leaves (.wakePattern n) s (wakeUp s n 1)) ∧
  (∀ (n : Fin 4) f s, armed s n 1 = true → wakeMatches s n (carriedFrame f) = true → Leaves (.wakeFrame n f) s (wakeUp s n 2)) ∧
  (∀ (n : Fin 4) s, armed s n 1 = true → 32 ≤ s.bus[n].errCount → Leaves (.wakeFrameErrors n) s (wakeUp s n 3)) ∧
  (∀ (n : Fin 4) good s, armed s n 1 = true →
    Leaves (.wakeFrameDecoded n good) s
      (setBus s n { s.bus[n] with
        errCount := if good = true then s.bus[n].errCount - 1 else min 32 (s.bus[n].errCount + 1) }))

/-- A wake is a reset of cause 3 (R434, R436): the module is in BOOT, LastResetCause reads 3, LastWakeChannel and LastWakeCause name the
wake, and every output line is off. -/
def Obligations.WakeIsAResetOfCauseThree : Prop :=
  ∀ (n : Fin 4) (s : State), armed s n 0 = true →
    ∃ t, exec (.wakePattern n) s = .next t ∧ t.phase = .boot 0 ∧ t.ob Ob.resetLastResetCause = 3 ∧
      t.ob Ob.seasonLastWakeChannel = n.val ∧ t.ob (Ob.wakeLastWakeCause n) = 1 ∧ OutputsAtRest t

/-! ### Field interfaces -/

/-- Digital pins (R360–R362, R365, R366): an input's edge, the rate of 10 ms, WIREBREAK set and cleared, an overload, its retry, the reset
of a pin, and an open load. -/
def Parts.PinCommandsComplete : Prop :=
  (∀ (i : Fin 32) (c : LevelChange) s, s.phase = .run → s.micros (Ob.pinFilterTime i) ≤ c.held →
    Leaves (.pinEdge i c) s (pinEdge (reach s c.off) i)) ∧
  (∀ (i : Fin 32) s, s.phase = .run → s.due (.pulseRate i) 10000 = true →
    Leaves (.pulseRateUpdate i) s (((s.putF (Ob.pinPulseRate i) (pulseRate s i)).ran (.pulseRate i) 10000).tickFree)) ∧
  (∀ (i : Fin 32) s, s.phase = .run → wireWatched s i = true → pinBit s i 3 = false →
    Leaves (.wirebreakSet i) s (pinRaise (setPinBit s i 3 true) i 3)) ∧
  (∀ (i : Fin 32) s, s.phase = .run → wireWatched s i = true → pinBit s i 3 = true →
    Leaves (.wirebreakClear i) s (pinRaise (setPinBit s i 3 false) i 4)) ∧
  (∀ (i : Fin 32) s, s.phase = .run → s.pins[i].drive = true → Leaves (.outputOverload i) s (overload s i)) ∧
  (∀ (i : Fin 32) s, s.phase = .run → pinBit s i 5 = true → pinBit s i 6 = false → pinAsked s i.val = true →
    s.pins[i].overAt + 100000 ≤ s.osc →
    Leaves (.overloadRetry i) s
      (let t := setPinBit s i 5 false
       pinApply (setPin t i { t.pins[i] with retryAt := t.osc, retrying := true }) i)) ∧
  (∀ x (i : Fin 32) s, Writes (.pinReset x i) s x (Ob.pinPinReset i) .u8 [1] []
    (fun s =>
      if pinBit s i 6 = true then
        let t := setPinBit (setPinBit s i 6 false) i 5 false
        pinRaise (setPin t i { t.pins[i] with fails := 0, retrying := false, offTicks := 0 }) i 15
      else s)) ∧
  (∀ (i : Fin 32) s, s.phase = .run → s.flag (Ob.pinOpenLoadEnable i) = true → s.pins[i].drive = true → pinBit s i 7 = false →
    Leaves (.openLoad i) s (pinRaise (setPinBit s i 7 true) i 7))

/-- A pulse shorter than FilterTime is rejected (R360): it changes nothing. -/
def Obligations.ShortPulseIsRejected : Prop :=
  ∀ (i : Fin 32) (c : LevelChange) (s : State), Safe s → c.held < s.micros (Ob.pinFilterTime i) →
    exec (.pinEdge i c) s = .next s

/-- PIN_RESET on a pin that is not LATCHED (R365): the pin goes on as it was, an overload between its retries included; the record of the
write apart nothing changes. -/
def Obligations.PinResetFrame : Prop :=
  ∀ (x : Sender) (i : Fin 32) (s : State), Ready s → pinBit s i 6 = false →
    Applies s x (Ob.pinPinReset i) .u8 [1] [] (fun s => clearLatch s i) →
    ∃ t, exec (.pinReset x i) s = .next t ∧ { t with staging := s.staging } = s ∧
      t.staging.staged = s.staging.staged ++
        [writeRec s (originOf x) 1 (tyCode .u8) (Ob.pinPinReset i / 256) (Ob.pinPinReset i % 256) 0
          (oldBytes s (Ob.pinPinReset i / 256) (Ob.pinPinReset i % 256)) [1]]

/-- Field supplies, group latches and logic silence (R369, R371–R373). AllOffTime counts from SilenceState 1, and the outputs go all off at its
end where no valid frame has come in it; that silence is declared anew where single frames have come and then none for SilenceTime is the
model's reading (log entry 72). That a field supply warning and trip lapse condition E is the model's reading of R489 and R520 (log entry
16). -/
def Parts.GroupAndSilenceCommandsComplete : Prop :=
  (∀ (k : Fin 2) s, clocksRun s = true → groupBit s (2 * k) 0 = false →
    Leaves (.fieldSupplyWarning k) s (fieldPairE (groupRaise (groupBits s k [0] true) k [8]) k true)) ∧
  (∀ (k : Fin 2) s, clocksRun s = true → groupBit s (2 * k) 1 = false →
    Leaves (.fieldSupplyTrip k) s
      (let t := (supplyGroups k).foldl (fun s g => s.inc (Ob.groupTripCount g)) (groupBits s k [1, 2, 3] true)
       fieldPairE (groupRaise ((supplyPins k).foldl pinApply t) k [10]) k true)) ∧
  (∀ (k : Fin 2) s, clocksRun s = true → restorable s k = true → Leaves (.fieldSupplyRestore k) s (supplyRestore s k)) ∧
  (∀ x (g : Fin 4) s, Writes (.groupReset x g) s x (Ob.groupGroupReset g) .u8 [1]
    (if groupBit s g 1 = true then [0x00030002] else []) (groupResetEff g)) ∧
  (∀ s, s.phase = .run → s.ob Ob.silenceSilenceState = 0 → s.link.downAt + s.micros Ob.silenceSilenceTime ≤ s.osc →
    Leaves .silenceDeclared s
      (let t := checkCopy (capturePre s)
       if copyOk t = true then toSilence t 1 12 else toSilence t 2 13)) ∧
  (∀ s, s.phase = .run → s.ob Ob.silenceSilenceState = 1 →
    s.link.downAt ≤ s.silenceAt → s.silenceAt + s.micros Ob.silenceAllOffTime ≤ s.osc →
    Leaves .silenceAllOff s (toSilence s 2 13)) ∧
  (∀ s, s.phase = .run → s.ob Ob.silenceSilenceState = 1 → s.silenceAt < s.link.downAt →
    s.link.downAt + s.micros Ob.silenceSilenceTime ≤ s.osc →
    Leaves .silenceDeclared s
      (let t := checkCopy s
       if copyOk t = true then { t with silenceAt := t.osc } else toSilence t 2 13)) ∧
  (∀ s, s.phase = .run → s.ob Ob.silenceSilenceState ≠ 0 → 100 ≤ s.link.downRun →
    Leaves .silenceEnd s (toSilence (s.inc Ob.silenceSilenceCount) 0 14)) ∧
  (∀ s, s.phase = .run → s.due .safeCopy 10000 = true →
    Leaves (.safeCopyCheck false) s ((s.put Ob.silenceSafeConfigValid (ofBool (copyOk s))).ran .safeCopy 10000)) ∧
  (∀ s, s.phase = .run → s.due .safeCopy 10000 = true →
    Leaves (.safeCopyCheck true) s
      (let t := { s with safeCrc := s.safeCrc ^^^ 1 }
       (t.put Ob.silenceSafeConfigValid (ofBool (copyOk t))).ran .safeCopy 10000))

/-- The commands of the digital pins, their groups and logic silence complete (R360–R372). -/
def Obligations.DigitalCommandsComplete : Prop :=
  Parts.PinCommandsComplete ∧ Parts.GroupAndSilenceCommandsComplete

/-- Current loops and RTD inputs (R377, R380, R386, R390, R391): a completed window of an enabled converter, a confirmed condition,
NOTACH, OPENLOOP, and the stage's thermal switch-off with its retry. -/
def Parts.AnalogCommandsComplete : Prop :=
  (∀ (a : Fin 16) (r : Word) s, s.phase = .run → s.flag (Ob.aiEnable a) = true → s.ai[a].win.endAt ≤ s.osc →
    readingBeyond s (.ai a r) = false →
    Leaves (.conversionWindow (.ai a r)) s (aiConverted s a r.toNat)) ∧
  (∀ (c : Fin 8) (o l : Word) a b s, s.phase = .run → s.flag (Ob.rtEnable c) = true → s.rt[c].win.endAt ≤ s.osc →
    Leaves (.conversionWindow (.rt c o l a b)) s (rtConverted s c o.toNat l.toNat a b)) ∧
  (∀ (a : Fin 16) c s v, s.phase = .run → s.flag (Ob.aiEnable a) = true → condDue s a c = some v →
    Leaves (.aiFaultConfirm a c) s (aiPutBit s a (condBit c) (condCause c) v)) ∧
  (∀ (o : Fin 8) s, s.phase = .run → aoBit s o 1 = false → 3 ≤ s.ao[o].shortTicks →
    Leaves (.aoNotach o) s (aoRaise ((setAoBit s o 1 true).inc (Ob.aoNotAchCount o)) o 1)) ∧
  (∀ (o : Fin 8) s, s.phase = .run → aoBit s o 1 = true → 3 ≤ s.ao[o].clearTicks →
    Leaves (.aoNotach o) s (aoRaise (setAoBit s o 1 false) o 2)) ∧
  (∀ (o : Fin 8) s, s.phase = .run → aoBit s o 5 = false → s.ao[o].lowSince ≠ 0 → s.ao[o].lowSince + 100000 ≤ s.osc →
    Leaves (.aoOpenloop o) s (aoRaise (setAoBit s o 5 true) o 3)) ∧
  (∀ (o : Fin 8) s, s.phase = .run → aoBit s o 6 = false →
    Leaves (.aoOvertemp o) s
      (let t := setAoBit s o 6 true
       aoRaise (aoApply { t with ao := t.ao.set o { t.ao[o] with overAt := t.osc } } o) o 5)) ∧
  (∀ (o : Fin 8) s, s.phase = .run → aoBit s o 6 = true → s.ao[o].overAt + 1000000 ≤ s.osc →
    Leaves (.aoOvertempRetry o) s (aoRaise (aoApply (setAoBit s o 6 false) o) o 6))

/-- The trim (R389): its four commands and the measured figures. -/
def Parts.TrimCommandsComplete : Prop :=
  (∀ x (o : Fin 8) s, Writes (.trimDriveLow x o) s x (Ob.aoTrimCommand o) .u8 [1] (trimCodes s o 1)
    (fun s => setAoBit (s.put (Ob.aoTrimStatus o) 1) o 7 true)) ∧
  (∀ x (o : Fin 8) s, Writes (.trimDriveHigh x o) s x (Ob.aoTrimCommand o) .u8 [2] (trimCodes s o 2)
    (fun s => s.put (Ob.aoTrimStatus o) 3)) ∧
  (∀ x (o : Fin 8) s, Writes (.trimApply x o) s x (Ob.aoTrimCommand o) .u8 [3] (trimCodes s o 3)
    (fun s => setAoBit (((s.putF (Ob.aoTrimGain o) (trimGain s o)).putF (Ob.aoTrimOffset o) (trimOffset s o)).put
      (Ob.aoTrimStatus o) 0) o 7 false)) ∧
  (∀ x (o : Fin 8) s, Writes (.trimCancel x o) s x (Ob.aoTrimCommand o) .u8 [4] (trimCodes s o 4)
    (fun s => setAoBit (s.put (Ob.aoTrimStatus o) 0) o 7 false)) ∧
  (∀ x (o : Fin 8) (v : Word) s, s.ob (Ob.aoTrimStatus o) = 1 →
    Applies s x (Ob.aoTrimMeasured o) .f32 (bytesLE 4 v.toNat) (trimMeasuredCodes s o) (trimMeasuredEff o v.toNat) →
    Leaves (.trimMeasuredWrite x o v) s (recorded s x (Ob.aoTrimMeasured o) .f32 (bytesLE 4 v.toNat)
      (let t := (s.put (Ob.aoTrimMeasured o) v.toNat).put (Ob.aoTrimStatus o) 2
       { t with ao := t.ao.set o { t.ao[o] with m1 := v.toNat } }))) ∧
  (∀ x (o : Fin 8) (v : Word) s, s.ob (Ob.aoTrimStatus o) = 3 →
    Applies s x (Ob.aoTrimMeasured o) .f32 (bytesLE 4 v.toNat) (trimMeasuredCodes s o) (trimMeasuredEff o v.toNat) →
    Leaves (.trimMeasuredWrite x o v) s (recorded s x (Ob.aoTrimMeasured o) .f32 (bytesLE 4 v.toNat)
      (let t := (s.put (Ob.aoTrimMeasured o) v.toNat).put (Ob.aoTrimStatus o) 4
       { t with ao := t.ao.set o { t.ao[o] with m2 := v.toNat } })))

/-- The commands of the current loops, the RTD inputs and the trim complete (R377–R391). -/
def Obligations.AnalogAndTrimCommandsComplete : Prop :=
  Parts.AnalogCommandsComplete ∧ Parts.TrimCommandsComplete

/-- A trim command is accepted in PREOP alone and in the TrimStatus R389 lists; elsewhere it meets 0x0003_0002. -/
def Obligations.TrimCommandsAcceptedIn : Prop :=
  ∀ (s : State) (o : Fin 8),
    (trimCodes s o 1 = [] ↔ s.inPreop = true) ∧ (trimCodes s o 4 = [] ↔ s.inPreop = true) ∧
    (trimCodes s o 2 = [] ↔ s.inPreop = true ∧ s.ob (Ob.aoTrimStatus o) = 2) ∧
    (0x00030002 ∈ trimCodes s o 3 ↔ ¬(s.inPreop = true ∧ s.ob (Ob.aoTrimStatus o) = 4)) ∧
    (∀ c, c ≠ 3 → trimCodes s o c = [] ∨ trimCodes s o c = [0x00030002])

/-- Fans (R399, R401–R403): regulation, a kick that did not prove, the next kick, a stall, an overload with its retry, the reset, the
learned pair. -/
def Parts.FanCommandsComplete : Prop :=
  (∀ (f : Fin 8) s, s.phase = .run → regulates s f = true → s.due (.fanSpeed f) 10000 = true →
    Leaves (.fanSpeedRegulate f) s (fanApply (regulate (s.ran (.fanSpeed f) 10000) f) f)) ∧
  (∀ (f : Fin 8) s k, s.phase = .run → kickExpired s f = some k → Leaves (.fanKickTimeout f) s (kickFailed s f k)) ∧
  (∀ (f : Fin 8) s k, s.phase = .run → retryKick s f = some k → Leaves (.fanRetry f) s (fanApply (beginKick s f k) f)) ∧
  (∀ (f : Fin 8) s, s.phase = .run → stallDue s f = true → Leaves (.fanStall f) s (fanApply (beginStart s f) f)) ∧
  (∀ (f : Fin 8) s, s.phase = .run → fanBit s f 0 = true → fanBit s f 4 = false → Leaves (.fanOverload f) s (fanOverload s f)) ∧
  (∀ (f : Fin 8) s, s.phase = .run → fanBit s f 4 = true → fanBit s f 3 = false → s.fans[f].overAt + 1000000 ≤ s.osc →
    Leaves (.fanOverloadRetry f) s
      (fanApply (setFanBit (setFan s f { s.fans[f] with retryAt := s.osc }) f 4 false) f)) ∧
  (∀ x (f : Fin 8) s, Writes (.fanReset x f) s x (Ob.fanFanReset f) .u8 [1] [] (fanResetEff f)) ∧
  (∀ (f : Fin 8) s, s.phase = .run → learnDue s f = true → Leaves (.fanLearn f) s (learnEnd s f))

/-- FAN_RESET on a channel with nothing latched (R402): FAULT, OVERLOAD, TACHFAULT and the learned pair read cleared, no event is raised,
and no object but those of the channel changes. -/
def Obligations.FanResetFrame : Prop :=
  ∀ (x : Sender) (f : Fin 8) (s : State), Ready s → fanBit s f 3 = false → fanBit s f 4 = false → fanBit s f 5 = false →
    Applies s x (Ob.fanFanReset f) .u8 [1] [] (fanResetEff f) →
    ∃ t, exec (.fanReset x f) s = .next t ∧
      (∀ b ∈ [3, 4, 5, 6], fanBit t f b = false) ∧ t.ob (Ob.fanFaultCause f) = 0 ∧
      t.ob (Ob.fanLearnedVoltage f) = 0 ∧ t.ob (Ob.fanLearnedCurrent f) = 0 ∧
      (∀ k, k ∉ [Ob.fanFanStatus f, Ob.fanFaultCause f, Ob.fanLearnedVoltage f, Ob.fanLearnedCurrent f] → t.ob k = s.ob k) ∧
      (∀ g, g ≠ f → t.fans[g] = s.fans[g]) ∧ t.fans[f].applied = s.fans[f].applied ∧
      { t with objs := s.objs, fans := s.fans, staging := s.staging } = s

/-- Tachometers (R398, R404, R405): an edge, a loss and its judgement, and a shortfall that has lasted. That the shortfall of R405 counts as
speed supervision, which runs with a tachometer alone, is the model's choice (log entry 111). -/
def Parts.TachCommandsComplete : Prop :=
  (∀ (f : Fin 8) (off : Fin 10) s, s.phase = .run → Leaves (.tachEdge f off) s (tachEdge (reach s off) f)) ∧
  (∀ (f : Fin 8) s, s.phase = .run → tachLossDue s f = true →
    Leaves (.tachLoss f) s
      (let t := setFanBit (s.put (Ob.fanSpeed f) 0) f 8 true
       fanApply (setFan t f { t.fans[f] with lossAt := t.osc, curSum := 0, curCount := 0, learnAt := 0 }) f)) ∧
  (∀ (f : Fin 8) s, s.phase = .run → s.ob (Ob.fanTachPulses f) ≠ 0 → fanBit s f 8 = true → s.fans[f].lossAt + 500000 ≤ s.osc →
    Leaves (.tachJudge f) s (tachJudge s f)) ∧
  (∀ (f : Fin 8) s, s.phase = .run → s.ob (Ob.fanTachPulses f) ≠ 0 → s.fans[f].lagSince ≠ 0 → s.fans[f].lagSince + 3000000 ≤ s.osc →
    fanBit s f 2 = false →
    Leaves (.fanNotachTimeout f) s (fanRaise (setFanBit s f 2 true) f 5))

/-- The commands of the fans complete (R398–R405). -/
def Obligations.FanCommandsComplete : Prop :=
  Parts.FanCommandsComplete ∧ Parts.TachCommandsComplete

/-! ### Thermal management, supplies, seasons, start-up -/

/-- The thermal policy (R407–R414), while the module runs and in Spring (R430): a round, a fast sample, and in a round the end of GraceTime,
a LevelInterval in either direction, and a sensor still failed after 60 s; the comparator's trip, for a junction above the threshold for
1 ms (`comparatorTrips`), and its clearing (R416). R416 says that the
trip sends the power-fail warning to the core die: that the checkpoint (R153), the journal (R462) and the counters (R493) are then in NAND as
the module halts is the model's reading (log entry 23). -/
def Obligations.ThermalCommandsComplete : Prop :=
  (∀ reads (base : Word) s, policyRuns s = true → baseBeyond base.toNat = false → s.lastRun .thermalRound ≠ s.wc / 250000 →
    Leaves (.housekeepingRound reads base) s (housekeeping (s.ranAtWc .thermalRound 250000) reads base.toNat)) ∧
  (∀ reads s, policyRuns s = true → fastRuns s = true → s.lastRun .fastSample ≠ s.wc / 10000 →
    Leaves (.fastSample reads) s (fastSample (s.ranAtWc .fastSample 10000) reads)) ∧
  (∀ s, policyRuns s = true → graceDue s = true → Leaves .graceEnd s (throttleTo (setThermBit s 3 false) 1)) ∧
  (∀ s, policyRuns s = true → levelDue s = true → 2 ≤ s.ob Ob.thermThermalState → Leaves .levelInterval s (levelUp s)) ∧
  (∀ s, policyRuns s = true → levelDue s = true → s.ob Ob.thermThermalState < 2 →
    Leaves .levelInterval s
      (let t := throttleTo s (s.ob Ob.thermThrottleLevel - 1)
       if t.ob Ob.thermThrottleLevel = 0 then withdraw t else t)) ∧
  (∀ s, policyRuns s = true → s.therm.roundAt = some s.osc → thermBit s 5 = true → s.therm.holdAt + 60000000 ≤ s.osc →
    Leaves .substholdTimeout s (levelUp (setThermBit s 5 false))) ∧
  (∀ s, s.phase = .run → comparatorTrips s = true →
    Leaves .thermalShutdown s
      (let t := saveCounters (flushJournal (ckptFinish (ckptStart (warnCommit s) 2)))
       { t with phase := .halt, supply := { t.supply with latch := true } })) ∧
  (∀ s, s.phase = .halt →
    Leaves .haltClear s { s with phase := .off, linesHeld := false, supply := { s.supply with latch := false, upCause := 0 } })

/-- The comparator's trip (R415, R416, R513), in every powered state and season, once a junction has been above the strapped threshold for
1 ms as last measured: the module is in HALT with the latch set and every output line off, and both supplies below 3.0 V clear the latch. That
the junctions' figures come with TICK_BOUNDARY is the model's choice (log entry 112). -/
def Obligations.ShutdownHaltsTheModule : Prop :=
  ∀ s : State, Safe s → powered s = true →
    (∃ j ∈ s.supply.junctions.toList, 1000 ≤ j.held ∧
      FX.gt (FX.ofBits32 j.celsius.toNat) (FX.ofNat (115 + 5 * s.straps.tsel)) = true) →
    ∃ t u, exec .thermalShutdown s = .next t ∧ t.phase = .halt ∧ t.supply.latch = true ∧ OutputsAtRest t ∧ t.pending = s.pending ∧
      exec .haltClear t = .next u ∧ u.phase = .off ∧ u.supply.latch = false ∧ OutputsAtRest u

/-- The latch of the comparator clears only once both supplies have been below 3.0 V (R416): in HALT no other command ends it. -/
def Obligations.OnlyHaltClearEndsHalt : Prop :=
  ∀ (c : Instr) (s t : State), Safe s → s.phase = .halt → c ≠ .haltClear → exec c s = .next t →
    t.phase = .halt ∧ t.supply.latch = s.supply.latch

/-- The supplies (R420–R425): VM and VB confirmed lost and good, an overvoltage, the source selected again during hold-up, where a Winter entry
that the warning met is abandoned (R432), the end of hold-up, and the daily test of the store. Four things are the model's choice at the end
of hold-up: records staged since the warning are in NAND too, and it ends the BOOT of a reset taken on the store in the same way (log entry
27); and with HOLDUPFAULT, where R425 says only that completion is not assured, nothing more is written then (log entry 85). Where VM or VB is lost and the other supply takes over, R480 masks the fault: that it counts as not
yet masked for the 100 µs before (`maskedFault`, condition S of R489) is the model's reading (log entry 104), and so is that a loss of VB takes
VB out of its range in R520 and lapses condition E of R489, until VB is there again (`rangeE`, `lowEnds`, log entry 16). -/
def Obligations.SupplyCommandsComplete : Prop :=
  (∀ b s, powered s = true → sourceOf s ≠ 0 → Leaves (.vmFail b) s (setSupplyBit s 1 false)) ∧
  (∀ b s, powered s = true → sourceOf (setSupplyBit s 1 false) = 0 → supplyBit (setSupplyBit s 1 false) 2 = true →
    Leaves (.vmFail b) s (switchSource (maskedFault (setSupplyBit s 1 false) 100 0) 1 [])) ∧
  (∀ b s, powered s = true → sourceOf (setSupplyBit s 1 false) = 0 → supplyBit (setSupplyBit s 1 false) 2 = false →
    Leaves (.vmFail b) s (enterHoldup (setSupplyBit s 1 false) b [])) ∧
  (∀ s, powered s = true → sourceOf (setSupplyBit s 1 true) = 1 → Leaves .vmGood s (switchSource (setSupplyBit s 1 true) 0 [])) ∧
  (∀ s, powered s = true → sourceOf (setSupplyBit s 1 true) ≠ 1 → Leaves .vmGood s (setSupplyBit s 1 true)) ∧
  (∀ a b s, powered s = true → supplyBit s 2 = true →
    let t := rangeE (setSupplyBit s 2 false) (.supply 1) true
    (sourceOf t = 1 → Leaves (.vbLost true b) s (switchSource (maskedFault t 100 0) 0 [(135, 0)]) ∧
      Leaves (.vbLost false b) s (enterHoldup t b [(135, 0)])) ∧
    (sourceOf t ≠ 1 → Leaves (.vbLost a b) s (coreRaises t [(135, 0)]))) ∧
  (∀ s, powered s = true → supplyBit s 2 = false →
    Leaves .vbAvailable s (coreRaises (lowEnds (setSupplyBit s 2 true) (.supply 1) (s.ob Ob.supplyVbVoltage)) [(135, 1)])) ∧
  (∀ (k : Fin 2) (v : Word) s, supplyBeyond s k v.toNat = false → Leaves (.overvolt k v) s (overVolt s k v.toNat)) ∧
  (∀ vm s, railsUp s = true → sourceOf s = 2 → (∀ r, s.plant.ckptRun = some r → r.kind ≠ 2) →
    Leaves (.holdupSupplyReturn vm) s
      (let t := raise (setSupplyBit (takeSource s (if vm = true then 0 else 1)) 3 false) 137 (if vm = true then 0 else 1)
       if s.winter.stage = 0 then t else abandonWinter t 2 [])) ∧
  (∀ vm s r, railsUp s = true → sourceOf s = 2 → s.plant.ckptRun = some r → r.kind = 2 →
    Leaves (.holdupSupplyReturn vm) s
      (let t := saveCounters (flushJournal (ckptFinish s))
       let u := raise (setSupplyBit (takeSource t (if vm = true then 0 else 1)) 3 false) 137 (if vm = true then 0 else 1)
       if s.winter.stage = 0 then u else abandonWinter u 2 [])) ∧
  (∀ s r, railsUp s = true → sourceOf s = 2 → supplyBit s 6 = false → s.plant.ckptRun = some r → r.kind = 2 →
    Leaves .holdupEnd s
      (let t := saveCounters (flushJournal (ckptFinish s))
       powerOff (if chains t = true then flushJournal t else t) 1)) ∧
  (∀ s, railsUp s = true → sourceOf s = 2 → supplyBit s 6 = false → (∀ r, s.plant.ckptRun = some r → r.kind ≠ 2) →
    Leaves .holdupEnd s (powerOff (if chains s = true then flushJournal s else s) 1)) ∧
  (∀ s, railsUp s = true → sourceOf s = 2 → supplyBit s 6 = true → Leaves .holdupEnd s (powerOff s 1)) ∧
  (∀ (c : Word) s, s.phase = .run → sourceOf s ≠ 2 → s.supply.testAt + 86400000000 ≤ s.osc →
    Leaves (.holdupTest c) s (judgeHoldup s c.toNat true))

/-- Winter entry (R351, R431, R432): its write is accepted, the wait for the buffers ends, and Winter is reached, where what still waits for a
controller is withdrawn and counted (R18, R347) and the counters are saved (R493). -/
def Parts.WinterCommandsComplete : Prop :=
  (∀ x s, Writes (.winterCommand x) s x Ob.seasonWinterCommand .u8 [1] (winterCodes s) (fun s => { s with winter := ⟨1, s.osc, false⟩ })) ∧
  (∀ s, s.phase = .run → s.winter.stage = 1 → s.winter.cancelled = false → s.winter.at_ + 100000 ≤ s.osc →
    Leaves .winterBufferWaitEnd s
      (let t := (List.finRange 4).foldl (fun s (n : Fin 4) =>
         if s.bus[n].started then
           let s := cancelAll s n
           setBus s n { s.bus[n] with stopping := true }
         else s) s
       winterOn { t with winter := { t.winter with cancelled := true } })) ∧
  (∀ s, s.phase = .run → s.winter.stage = 2 →
    Leaves .winterReached s
      (let t := (List.finRange 4).foldl withdrawWaiting (flushJournal (ckptFinish s))
       let t := setSeason (saveCounters (t.inc Ob.seasonWinterCount)) 3
       { t with phase := .winter, winter := ⟨0, 0, false⟩, bus := t.bus.map (fun b => { b with asleep := true, errCount := 0 }) }))

/-- Winter is entered only from PREOP, with no power failing, a channel both enabled and able to wake (R351, R431), and no commit running
(R452); and with no check of R77 running, the model's reading of R16 (log entry 75). -/
def Obligations.WinterAcceptedIn : Prop :=
  ∀ s : State, winterCodes s = [] ↔
    s.inPreop = true ∧ supplyBit s 3 = false ∧ s.check = none ∧ s.sec.commit = none ∧
    ∃ n < 4, s.flag (Ob.busEnable n) = true ∧ s.flag (Ob.wakeWakeEnable n) = true

/-- Start-up (R425, R436, R439, R440, R443, R511): a supply qualifies and BOOT begins, a rail out of tolerance resets the module, a step of
BOOT completes, the charging of the store after its 2.0 s where it stays below 45.0 V, and BOOT ends. -/
def Parts.StartUpCommandsComplete : Prop :=
  (∀ vm vb t0 t1 key s, s.phase = .off → (vm || vb) = true → Leaves (.powerOn vm vb t0 t1 key) s (powerOn s vm vb t0 t1 key)) ∧
  (∀ s, railsUp s = true → Leaves .railFault s (resetNow s 6 s.straps [])) ∧
  (∀ us (cap volts : Word) s k, s.phase = .boot k → k < 8 → s.boot.recovery = false →
    let left := (bootLimits[k]?).getD 0 - s.osc
    let lasts := if k = 4 ∧ FX.lt (FX.ofBits32 volts.toNat) (FX.ofNat 45) = true then left else min us left
    let t := bootDo ({ s with linesHeld := false }.elapse lasts) k cap.toNat volts.toNat
    (t.boot.recovery = false → Leaves (.bootStep us cap volts) s { t with phase := .boot (k + 1) }) ∧
    (t.boot.recovery = true → Leaves (.bootStep us cap volts) s t)) ∧
  (∀ us s, s.phase = .boot 8 → Leaves (.endOfBoot us) s (endOfBoot s us))

/-- The commands of Winter entry and start-up complete (R351, R431–R443). -/
def Obligations.SeasonAndStartUpCommandsComplete : Prop :=
  Parts.WinterCommandsComplete ∧ Parts.StartUpCommandsComplete

/-- A power-on from an unpowered module (R423, R436, R439, R511, R512): BOOT begins from the supply that met its condition, VM
first, with cause 0, or with cause 1 after a power loss, and the straps take the class held by four of the seven reads, an indeterminate one
reading as the safe side. -/
def Obligations.PowerOnSamplesTheStraps : Prop :=
  ∀ (vm vb : Bool) (t0 t1 key : List Nat) (s : State), s.phase = .off → s.supply.upCause ≤ 1 → (vm || vb) = true →
    ∃ t, exec (.powerOn vm vb t0 t1 key) s = .next t ∧ t.phase = .boot 0 ∧ t.ob Ob.resetLastResetCause = s.supply.upCause ∧
      t.ob Ob.supplySource = (if vm = true then 0 else 1) ∧ OutputsAtRest t ∧
      t.straps.tsel = (if strapClass t0 = 0 then 1 else 0) + (if strapClass t1 = 0 then 2 else 0) ∧
      t.straps.key = !decide (strapClass key = 1) ∧
      t.straps.indet = (if strapClass t0 = 2 then 1 else 0) + (if strapClass t1 = 2 then 2 else 0) + (if strapClass key = 2 then 4 else 0)

/-- The class of a strap (R511): set, open or indeterminate by the resistance of each of seven reads; it is held by at least four of them,
and where no class holds four the strap is indeterminate. -/
def Obligations.StrapClassHeldByFour : Prop :=
  ∀ reads : List Nat, reads.length = 7 →
    (strapClass reads = 0 ↔ 4 ≤ reads.countP (fun x => decide (x ≤ 100))) ∧
    (strapClass reads = 1 ↔ 4 ≤ reads.countP (fun x => decide (100000 ≤ x))) ∧
    (strapClass reads = 2 ↔
      reads.countP (fun x => decide (x ≤ 100)) < 4 ∧ reads.countP (fun x => decide (100000 ≤ x)) < 4)

/-- RAIL_FAULT (R436, R437): the module is in BOOT with LastResetCause 6; no checkpoint is written, so NAND is as it was where no commit was
writing, and straps and factory area stand. The output lines of a module that ran stand until the next tick boundary, which switches
every one off; where no tick runs they are off at once. -/
def Obligations.RailFaultResetsWithoutCheckpoint : Prop :=
  ∀ s : State, railsUp s = true → s.router.raised = [] → s.sec.commit = none →
    ∃ t, exec .railFault s = .next t ∧ t.phase = .boot 0 ∧ t.ob Ob.resetLastResetCause = 6 ∧ t.nand = s.nand ∧
      t.straps = s.straps ∧ t.factory = s.factory ∧ t.wc = 0 ∧ t.pending = s.pending ∧
      (s.phase ≠ .run → OutputsAtRest t) ∧
      (s.phase = .run → (∀ i : Fin 32, t.pins[i].drive = s.pins[i].drive) ∧ (∀ o : Fin 8, t.ao[o].applied = s.ao[o].applied) ∧
        ∀ f : Fin 8, t.fans[f].applied = s.fans[f].applied) ∧
      ∀ downOk, ∃ u, exec (.tickBoundary downOk []) t = .next u ∧ u.phase = .boot 0 ∧ OutputsAtRest u

/-! ### Configuration, journal, security, fault masking -/

/-- The configuration store and the journal (R451, R453, R456, R457, R460, R462, R514). -/
def Parts.ConfigurationCommandsComplete : Prop :=
  (∀ x s, Writes (.configCommit x) s x Ob.configConfigCommand .u8 [1] (configCodes s 1) (fun s => commitEff (originOf x) s)) ∧
  (∀ s c, s.phase = .run → s.sec.commit = some c → s.mgmtDown = false →
    Leaves (.commitDone true) s (commitSwitch s c) ∧ Leaves (.commitDone false) s (commitFails s c false 1)) ∧
  (∀ x s, Applies s x Ob.configConfigCommand .u8 [2] (configCodes s 2) (revertEff (originOf x)) →
    Leaves (.configRevert x) s
      (let t := recorded s x Ob.configConfigCommand .u8 [2] (revertEff (originOf x) s)
       configAction t 3 (t.ob Ob.configActiveSequence))) ∧
  (∀ x (p : Fin 3) (v : Byte) s, Writes (.enableWrite x p v) s x (key 0x9010 (p.val + 1)) .u8 [v] (valueCodes s 0x9010 (p + 1) v.toNat)
    (fun s => s.put (key 0x9010 (p.val + 1)) v.toNat)) ∧
  (∀ (volts : Word) s, railsUp s = true → s.due .keySample 1000 = true → keyBeyond volts.toNat = false →
    Leaves (.cfgEnSample volts) s
      (let t := s.ran .keySample 1000
       let v := FX.ofBits32 volts.toNat
       let low := FX.le v FX.one = true ∨ FX.lt v (FX.ratio 5 2) = true ∧ 0 < t.sec.keyLow
       let n := if low then min 10 (t.sec.keyLow + 1) else 0
       { t.putFlag Ob.enableKeyAsserted (decide (n = 10)) with sec := { t.sec with keyLow := n } })) ∧
  (∀ s, chains s = true → Leaves .journalChain s (chainNext s)) ∧
  (∀ s, chains s = true →
    Leaves .journalPageWrite s
      (let out := s.staging.chained.take (pageRoom s.nand)
       formLoss { s with nand := out.foldl writeRecord s.nand
                         staging := { s.staging with chained := s.staging.chained.drop (pageRoom s.nand) } }))

/-- CFG_EN# counts as asserted once the last ten samples of 1 ms all lie at or below 1.0 V, and as not asserted where one of them lies at or
above 2.5 V, whatever was sampled before (R456, R514). -/
def Obligations.KeyNeedsTenLowSamples : Prop :=
  ∀ (s : State) (l : List Nat), 10 ≤ l.length →
    ((∀ v ∈ l.drop (l.length - 10), FX.le (FX.ofBits32 v) FX.one = true) → (l.foldl sampleKey s).flag Ob.enableKeyAsserted = true) ∧
    ((∃ v ∈ l.drop (l.length - 10), FX.le (FX.ofBits32 v) FX.one = false ∧ FX.lt (FX.ofBits32 v) (FX.ratio 5 2) = false) →
      (l.foldl sampleKey s).flag Ob.enableKeyAsserted = false)

/-- A management-plane object is refused to outside interfaces with 0x0001_0005 while the key is in force and not asserted, and the key
bears on no object of another plane and on no access by interface 0x00 (R456). -/
def Obligations.KeyGuardsTheManagementPlane : Prop :=
  ∀ (s : State) (o : Origin) (idx : Nat),
    0x00010005 ∈ admitCodes s o idx ↔
      o.iface ≠ 0 ∧ ownerOf idx = 0 ∧ s.flag Ob.enableKeyStrap = true ∧ s.flag Ob.enableKeyAsserted = false

/-- Images and recovery (R472, R473): the commands of an update, those of the recovery image, and its operations as the boot ROM reads them
from datagrams at its fixed address and port on ETH0. That Begin clears UpdateFailCause, and that Abandon erases the target and sets
UpdateTarget 0xFF, is the model's reading (log entry 26). -/
def Parts.UpdateCommandsComplete : Prop :=
  (∀ x s, Writes (.updateBegin x) s x Ob.updateUpdateCommand .u8 [1] (updateCodes s 1)
    (fun s =>
      let b := s.ob Ob.imageRunningImage != 1
      (putImage s b (.flash [])).puts [(Ob.updateUpdateTarget, ofBool b), (Ob.updateUpdateState, 1), (Ob.updateBytesWritten, 0),
        (Ob.updateUpdateFailCause, 0)])) ∧
  (∀ x (d : List Byte) s, Writes (.updateBlock x d) s x Ob.updateUpdateBlock .domain d
    (if s.ob Ob.updateUpdateState = 1 then [] else [0x00030002]) (updateBlockEff d)) ∧
  (∀ x s, Applies s x Ob.updateUpdateCommand .u8 [2] (updateCodes s 2) updateVerify →
    Leaves (.updateVerify x) s (recorded s x Ob.updateUpdateCommand .u8 [2]
      (raise (s.put Ob.updateUpdateState 2) 218 (imageVersion s (updateTarget s))))) ∧
  (∀ x s, Writes (.updateActivate x) s x Ob.updateUpdateCommand .u8 [3] (updateCodes s 3)
    (fun s => { setBootRec s ⟨updateTarget s, true, false⟩ with sec := { s.sec with resetDue := some (5, true) } })) ∧
  (∀ x s, Writes (.updateAbandon x) s x Ob.updateUpdateCommand .u8 [4] (updateCodes s 4)
    (fun s => (putImage s (updateTarget s) (.flash [])).puts [(Ob.updateUpdateState, 0), (Ob.updateUpdateTarget, 0xFF)])) ∧
  (∀ (a : BitVec 32) (p : BitVec 16) s, recoveryRuns s = true →
    Leaves (.recoveryImageStart a p) s
      (let t := putImage s false (.flash [])
       recoveryReply { t with boot := { t.boot with recovNext := some 0 } } 1 0 a.toNat p.toNat)) ∧
  (∀ (a : BitVec 32) (p : BitVec 16) (off : BitVec 32) (d : List Byte) s chunks, recoveryRuns s = true → d.length ≤ 1024 →
    s.boot.recovNext = some off.toNat → off.toNat + d.length ≤ slotBytes → s.nand.imageA = .flash chunks →
    Leaves (.recoveryImageData a p off d) s
      (let t := putImage s false (.flash ((off.toNat, d) :: chunks))
       recoveryReply { t with boot := { t.boot with recovNext := some (off.toNat + d.length) } } 2 0 a.toNat p.toNat)) ∧
  (∀ (a : BitVec 32) (p : BitVec 16) s, recoveryRuns s = true → (imageInfo s false).isSome = true →
    Leaves (.recoveryImageEnd a p) s
      (let t := setBootRec s ⟨false, true, false⟩
       recoveryReply { t with sec := { t.sec with resetDue := some (5, false) } } 3 0 a.toNat p.toNat)) ∧
  (∀ (a : BitVec 32) (p : BitVec 16) (d : Datagram) s, recoveryRuns s = true → d.sound = true → d.toAddr.toNat = recoveryAddress →
    d.toPort.toNat = recoveryPort → a.toNat / 256 = recoveryAddress / 256 → d.bytes.length = 12 + leAt d.bytes 8 2 →
    leAt d.bytes 8 2 ≤ 1024 →
    (leAt d.bytes 0 1 = 1 → Leaves (.udpDatagram 0 a p d) s (recoveryStart s a.toNat p.toNat)) ∧
    (leAt d.bytes 0 1 = 2 →
      Leaves (.udpDatagram 0 a p d) s (recoveryData s (leAt d.bytes 4 4) (d.bytes.drop 12) a.toNat p.toNat)) ∧
    (leAt d.bytes 0 1 = 3 → Leaves (.udpDatagram 0 a p d) s (recoveryEnd s a.toNat p.toNat)))

/-- The update commands are accepted in the UpdateState, and Activate in the operating state, that R472 lists. -/
def Obligations.UpdateCommandsAcceptedIn : Prop :=
  ∀ s : State,
    (updateCodes s 1 = [] ↔ s.sec.commit = none ∧ s.ob Ob.updateUpdateState ≠ 1) ∧
    (updateCodes s 2 = [] ↔ s.ob Ob.updateUpdateState = 1 ∧ (imageInfo s (updateTarget s)).isSome = true) ∧
    (updateCodes s 3 = [] ↔ s.inPreop = true ∧ s.ob Ob.updateUpdateState = 2) ∧
    (updateCodes s 4 = [] ↔ s.ob Ob.updateUpdateState ≠ 0)

/-- The secure erase (R475): the arm, the command, after which nothing encrypted can be read and the media key and EraseCount have moved on,
and the blocks verified blank after the BOOT that follows. That LastEraseTime then reads the WC of ERASE_BLANK is the model's reading (log
entry 26). -/
def Parts.EraseCommandsComplete : Prop :=
  (∀ x (v : BitVec 16) s, Writes (.eraseArm x v) s x Ob.eraseEraseArm .u16 (bytesLE 2 v.toNat)
    (if s.inPreop = true then [] else [0x00030002]) (fun s => { s with sec := { s.sec with armAt := some s.osc } })) ∧
  (∀ x (v : Byte) s, Writes (.eraseCommand x v) s x Ob.eraseEraseCommand .u8 [v] (eraseCodes s) eraseEff) ∧
  (∀ s, (eraseEff s).nand.areas = noAreas ∧ (eraseEff s).nand.mediaKey = s.nand.mediaKey + 1 ∧
    (eraseEff s).nand.eraseCount = s.nand.eraseCount + 1 ∧ (eraseEff s).nand.old.map Sealed.cipher = some s.nand.store.cipher) ∧
  (∀ s, s.phase = .run → s.nand.old.isSome = true →
    Leaves .eraseBlank s (raise ({ s with nand := { s.nand with old := none } }.put Ob.secLastEraseTime s.wc) 222 0))

/-- The commands of the configuration store, the journal, images and the secure erase complete (R451–R475). What Begin and Abandon do to
UpdateFailCause, UpdateTarget and the target slot, and the figure of LastEraseTime, are the model's reading (log entry 26). -/
def Obligations.StoreCommandsComplete : Prop :=
  Parts.ConfigurationCommandsComplete ∧ Parts.UpdateCommandsComplete ∧ Parts.EraseCommandsComplete

/-- An EraseCommand is accepted in PREOP within 10 s of its arm, and elsewhere meets 0x0003_0002 (R475). -/
def Obligations.EraseNeedsACurrentArm : Prop :=
  ∀ s : State,
    (eraseCodes s = [] ↔ s.inPreop = true ∧ ∃ t, s.sec.armAt = some t ∧ s.osc ≤ t + 10000000) ∧
    (eraseCodes s = [] ∨ eraseCodes s = [0x00030002])

/-- Fault masking (R482–R487, R493): a parcel engine fails, a lockstep pair retries or restarts and comes back, an uncorrectable error is
handled by its content, an internal fault is reported once, and the counters are saved. A pair fails and restarts in BOOT as in the running
module, the management pair from when the boot ROM runs on it (15 ms) and the application pair from when its firmware runs (`pairUp`, R440);
that BOOT goes on meanwhile, and that a parcel engine may fail in BOOT once its microcode is loaded, is the model's choice (log entry 106). The times that a fault
counts as not yet masked (`maskedFault`) are the model's reading of R480 and R489 (log entry 104). -/
def Obligations.FaultCommandsComplete : Prop :=
  (∀ s, pairUp s .app = true → 1 < s.ob Ob.modelEnginesWorking →
    Leaves .parcelEngineFailure s
      (maskedFault ((s.put Ob.modelEnginesWorking (s.ob Ob.modelEnginesWorking - 1)).inc Ob.faultParcelEngineFaults) 0 50)) ∧
  (∀ s, pairUp s .app = true → s.ob Ob.modelEnginesWorking = 1 →
    Leaves .parcelEngineFailure s (beyondMasking (maskedFault ((s.put Ob.modelEnginesWorking 0).inc Ob.faultParcelEngineFaults) 0 50) 1)) ∧
  (∀ p b s, pairUp s p = true → pairDown s p = false → (pairRetry s p = false ∨ b = true) →
    Leaves (.lockstepMismatch p b) s
      (let t := maskedFault s 0 60
       match p with
       | .app => { t.inc Ob.faultAppLockstepRetries with pairs := { t.pairs with appRetry := true } }
       | .mgmt => { t.inc Ob.faultMgmtLockstepRetries with pairs := { t.pairs with mgmtRetry := true } })) ∧
  (∀ p s, pairUp s p = true → pairDown s p = false → pairRetry s p = true →
    Leaves (.lockstepMismatch p false) s (pairRestart (maskedFault s 0 60) p)) ∧
  (∀ p s, railsUp s = true → pairDown s p = true → Leaves (.pairRestartDone p) s (pairDone s p)) ∧
  (∀ m s, railsUp s = true → Leaves (.uncorrectableError m) s (uncorrectable s m)) ∧
  (∀ k b s, s.phase = .run → (k, b) ∈ [(InternalKind.noLoopEngine, 0), (.noParcelEngine, 1), (.link, 2), (.recordLost, 3)] →
    s.stBit Ob.faultFaultStatus b = false → Leaves (.internalFault k) s (beyondMasking s b)) ∧
  (∀ p s, s.phase = .run → pairDown s p = true →
    (match p with | .app => s.pairs.appDownAt | .mgmt => s.pairs.mgmtDownAt) + 5000000 ≤ s.osc →
    Leaves (.internalFault (.restartOverrun p)) s (internalReset s p)) ∧
  (∀ s, s.phase = .run → s.mgmtDown = false → s.due .counterSave 60000000 = true →
    Leaves .counterSave s ((saveCounters s).ran .counterSave 60000000))

/-- COUNTER_SAVE (R493): NAND then holds every counter it keeps at its present value, and nothing but the saved counters changes. -/
def Obligations.CounterSaveKeepsEveryCount : Prop :=
  ∀ s : State, Ready s → s.mgmtDown = false → s.due .counterSave 60000000 = true →
    ∃ t, exec .counterSave s = .next t ∧
      (∀ k ∈ nandKeys, (lookCell t.nand.counters k).getD 0 = s.ob k) ∧
      { t with nand := { t.nand with counters := s.nand.counters }, dues := s.dues } = s

/-- The encoder supply pins (R506): a pin in limit switches off, and on again a second later; where that retry finds the overload again the next
second counts from the retry. No other pin and nothing else changes. R506 gives the 10 ms and the second; that a limit within 20 ms of
`offAt` is the overload of that retry, and that `offAt` 0 is no retry at all, is the model's choice (log entry 105). -/
def Obligations.EncoderSupplyCommandsComplete : Prop :=
  ∀ (k : Fin 8) (s : State), Ready s →
    (s.enc[k].off = false →
      ∃ t, exec (.enc24CurrentLimit k) s = .next t ∧ t.enc[k].off = true ∧
        t.enc[k].offAt = (if s.enc[k].offAt ≠ 0 ∧ s.osc < s.enc[k].offAt + 20000 then s.enc[k].offAt else s.osc) ∧
        (∀ j, j ≠ k → t.enc[j] = s.enc[j]) ∧ { t with enc := s.enc } = s) ∧
    (s.enc[k].off = true → s.enc[k].offAt + 1000000 ≤ s.osc →
      ∃ t, exec (.enc24Retry k) s = .next t ∧ t.enc[k].off = false ∧ t.enc[k].offAt = s.osc ∧
        (∀ j, j ≠ k → t.enc[j] = s.enc[j]) ∧ { t with enc := s.enc } = s)
end

