-- ==== Sys2Proof/Laws/State.lean ====
section
/-! SUPPORT. What each shared update of the state leaves as it was: one lemma per field and update, so that no proof unfolds a record
update. The other writers of objects are `put` of a computed value, and are rewritten to it. -/
namespace Sys2Proof.Machine

/-! ### Writers of objects that are `put` of a computed value -/

@[simp] theorem putF_eq (s : State) (k : Nat) (x : FX) : s.putF k x = s.put k x.toBits32 := rfl
@[simp] theorem putFlag_eq (s : State) (k : Nat) (b : Bool) : s.putFlag k b = s.put k (ofBool b) := rfl
@[simp] theorem putBit_eq (s : State) (k b : Nat) (v : Bool) : s.putBit k b v = s.put k (setBit (s.ob k) b v) := rfl
@[simp] theorem inc_eq (s : State) (k : Nat) : s.inc k = s.put k (wrap 32 (s.ob k + 1)) := rfl
@[simp] theorem incBy_eq (s : State) (k n : Nat) : s.incBy k n = s.put k (wrap 32 (s.ob k + n)) := rfl

/-! ### State.put -/

@[simp] theorem put_phase (s : State) (k v : Nat) : (s.put k v).phase = s.phase := rfl
@[simp] theorem put_osc (s : State) (k v : Nat) : (s.put k v).osc = s.osc := rfl
@[simp] theorem put_wc (s : State) (k v : Nat) : (s.put k v).wc = s.wc := rfl
@[simp] theorem put_tickWc (s : State) (k v : Nat) : (s.put k v).tickWc = s.tickWc := rfl
@[simp] theorem put_ticks (s : State) (k v : Nat) : (s.put k v).ticks = s.ticks := rfl
@[simp] theorem put_strs (s : State) (k v : Nat) : (s.put k v).strs = s.strs := rfl
@[simp] theorem put_router (s : State) (k v : Nat) : (s.put k v).router = s.router := rfl
@[simp] theorem put_staging (s : State) (k v : Nat) : (s.put k v).staging = s.staging := rfl
@[simp] theorem put_trips (s : State) (k v : Nat) : (s.put k v).trips = s.trips := rfl
@[simp] theorem put_check (s : State) (k v : Nat) : (s.put k v).check = s.check := rfl
@[simp] theorem put_operateDue (s : State) (k v : Nat) : (s.put k v).operateDue = s.operateDue := rfl
@[simp] theorem put_entries (s : State) (k v : Nat) : (s.put k v).entries = s.entries := rfl
@[simp] theorem put_late (s : State) (k v : Nat) : (s.put k v).late = s.late := rfl
@[simp] theorem put_gc (s : State) (k v : Nat) : (s.put k v).gc = s.gc := rfl
@[simp] theorem put_mp (s : State) (k v : Nat) : (s.put k v).mp = s.mp := rfl
@[simp] theorem put_wcs (s : State) (k v : Nat) : (s.put k v).wcs = s.wcs := rfl
@[simp] theorem put_link (s : State) (k v : Nat) : (s.put k v).link = s.link := rfl
@[simp] theorem put_pins (s : State) (k v : Nat) : (s.put k v).pins = s.pins := rfl
@[simp] theorem put_groups (s : State) (k v : Nat) : (s.put k v).groups = s.groups := rfl
@[simp] theorem put_safeCopy (s : State) (k v : Nat) : (s.put k v).safeCopy = s.safeCopy := rfl
@[simp] theorem put_safeCrc (s : State) (k v : Nat) : (s.put k v).safeCrc = s.safeCrc := rfl
@[simp] theorem put_linesHeld (s : State) (k v : Nat) : (s.put k v).linesHeld = s.linesHeld := rfl
@[simp] theorem put_silenceEv (s : State) (k v : Nat) : (s.put k v).silenceEv = s.silenceEv := rfl
@[simp] theorem put_silenceAt (s : State) (k v : Nat) : (s.put k v).silenceAt = s.silenceAt := rfl
@[simp] theorem put_ai (s : State) (k v : Nat) : (s.put k v).ai = s.ai := rfl
@[simp] theorem put_ao (s : State) (k v : Nat) : (s.put k v).ao = s.ao := rfl
@[simp] theorem put_rt (s : State) (k v : Nat) : (s.put k v).rt = s.rt := rfl
@[simp] theorem put_fans (s : State) (k v : Nat) : (s.put k v).fans = s.fans := rfl
@[simp] theorem put_therm (s : State) (k v : Nat) : (s.put k v).therm = s.therm := rfl
@[simp] theorem put_cache (s : State) (k v : Nat) : (s.put k v).cache = s.cache := rfl
@[simp] theorem put_pinned (s : State) (k v : Nat) : (s.put k v).pinned = s.pinned := rfl
@[simp] theorem put_sources (s : State) (k v : Nat) : (s.put k v).sources = s.sources := rfl
@[simp] theorem put_loops (s : State) (k v : Nat) : (s.put k v).loops = s.loops := rfl
@[simp] theorem put_queue (s : State) (k v : Nat) : (s.put k v).queue = s.queue := rfl
@[simp] theorem put_service (s : State) (k v : Nat) : (s.put k v).service = s.service := rfl
@[simp] theorem put_engines (s : State) (k v : Nat) : (s.put k v).engines = s.engines := rfl
@[simp] theorem put_satTimes (s : State) (k v : Nat) : (s.put k v).satTimes = s.satTimes := rfl
@[simp] theorem put_loads (s : State) (k v : Nat) : (s.put k v).loads = s.loads := rfl
@[simp] theorem put_inj (s : State) (k v : Nat) : (s.put k v).inj = s.inj := rfl
@[simp] theorem put_traces (s : State) (k v : Nat) : (s.put k v).traces = s.traces := rfl
@[simp] theorem put_bus (s : State) (k v : Nat) : (s.put k v).bus = s.bus := rfl
@[simp] theorem put_net (s : State) (k v : Nat) : (s.put k v).net = s.net := rfl
@[simp] theorem put_storeQ (s : State) (k v : Nat) : (s.put k v).storeQ = s.storeQ := rfl
@[simp] theorem put_appDown (s : State) (k v : Nat) : (s.put k v).appDown = s.appDown := rfl
@[simp] theorem put_mgmtDown (s : State) (k v : Nat) : (s.put k v).mgmtDown = s.mgmtDown := rfl
@[simp] theorem put_pairs (s : State) (k v : Nat) : (s.put k v).pairs = s.pairs := rfl
@[simp] theorem put_plant (s : State) (k v : Nat) : (s.put k v).plant = s.plant := rfl
@[simp] theorem put_paths (s : State) (k v : Nat) : (s.put k v).paths = s.paths := rfl
@[simp] theorem put_diel (s : State) (k v : Nat) : (s.put k v).diel = s.diel := rfl
@[simp] theorem put_seq (s : State) (k v : Nat) : (s.put k v).seq = s.seq := rfl
@[simp] theorem put_nand (s : State) (k v : Nat) : (s.put k v).nand = s.nand := rfl
@[simp] theorem put_factory (s : State) (k v : Nat) : (s.put k v).factory = s.factory := rfl
@[simp] theorem put_straps (s : State) (k v : Nat) : (s.put k v).straps = s.straps := rfl
@[simp] theorem put_supply (s : State) (k v : Nat) : (s.put k v).supply = s.supply := rfl
@[simp] theorem put_winter (s : State) (k v : Nat) : (s.put k v).winter = s.winter := rfl
@[simp] theorem put_boot (s : State) (k v : Nat) : (s.put k v).boot = s.boot := rfl
@[simp] theorem put_sec (s : State) (k v : Nat) : (s.put k v).sec = s.sec := rfl
@[simp] theorem put_enc (s : State) (k v : Nat) : (s.put k v).enc = s.enc := rfl
@[simp] theorem put_badChans (s : State) (k v : Nat) : (s.put k v).badChans = s.badChans := rfl
@[simp] theorem put_badArchive (s : State) (k v : Nat) : (s.put k v).badArchive = s.badArchive := rfl
@[simp] theorem put_dues (s : State) (k v : Nat) : (s.put k v).dues = s.dues := rfl
@[simp] theorem put_fresh (s : State) (k v : Nat) : (s.put k v).fresh = s.fresh := rfl
@[simp] theorem put_pending (s : State) (k v : Nat) : (s.put k v).pending = s.pending := rfl

/-! ### State.putBytes -/

@[simp] theorem putBytes_phase (s : State) (k : Nat) (v : List Byte) : (s.putBytes k v).phase = s.phase := rfl
@[simp] theorem putBytes_osc (s : State) (k : Nat) (v : List Byte) : (s.putBytes k v).osc = s.osc := rfl
@[simp] theorem putBytes_wc (s : State) (k : Nat) (v : List Byte) : (s.putBytes k v).wc = s.wc := rfl
@[simp] theorem putBytes_tickWc (s : State) (k : Nat) (v : List Byte) : (s.putBytes k v).tickWc = s.tickWc := rfl
@[simp] theorem putBytes_ticks (s : State) (k : Nat) (v : List Byte) : (s.putBytes k v).ticks = s.ticks := rfl
@[simp] theorem putBytes_objs (s : State) (k : Nat) (v : List Byte) : (s.putBytes k v).objs = s.objs := rfl
@[simp] theorem putBytes_router (s : State) (k : Nat) (v : List Byte) : (s.putBytes k v).router = s.router := rfl
@[simp] theorem putBytes_staging (s : State) (k : Nat) (v : List Byte) : (s.putBytes k v).staging = s.staging := rfl
@[simp] theorem putBytes_trips (s : State) (k : Nat) (v : List Byte) : (s.putBytes k v).trips = s.trips := rfl
@[simp] theorem putBytes_check (s : State) (k : Nat) (v : List Byte) : (s.putBytes k v).check = s.check := rfl
@[simp] theorem putBytes_operateDue (s : State) (k : Nat) (v : List Byte) : (s.putBytes k v).operateDue = s.operateDue := rfl
@[simp] theorem putBytes_entries (s : State) (k : Nat) (v : List Byte) : (s.putBytes k v).entries = s.entries := rfl
@[simp] theorem putBytes_late (s : State) (k : Nat) (v : List Byte) : (s.putBytes k v).late = s.late := rfl
@[simp] theorem putBytes_gc (s : State) (k : Nat) (v : List Byte) : (s.putBytes k v).gc = s.gc := rfl
@[simp] theorem putBytes_mp (s : State) (k : Nat) (v : List Byte) : (s.putBytes k v).mp = s.mp := rfl
@[simp] theorem putBytes_wcs (s : State) (k : Nat) (v : List Byte) : (s.putBytes k v).wcs = s.wcs := rfl
@[simp] theorem putBytes_link (s : State) (k : Nat) (v : List Byte) : (s.putBytes k v).link = s.link := rfl
@[simp] theorem putBytes_pins (s : State) (k : Nat) (v : List Byte) : (s.putBytes k v).pins = s.pins := rfl
@[simp] theorem putBytes_groups (s : State) (k : Nat) (v : List Byte) : (s.putBytes k v).groups = s.groups := rfl
@[simp] theorem putBytes_safeCopy (s : State) (k : Nat) (v : List Byte) : (s.putBytes k v).safeCopy = s.safeCopy := rfl
@[simp] theorem putBytes_safeCrc (s : State) (k : Nat) (v : List Byte) : (s.putBytes k v).safeCrc = s.safeCrc := rfl
@[simp] theorem putBytes_linesHeld (s : State) (k : Nat) (v : List Byte) : (s.putBytes k v).linesHeld = s.linesHeld := rfl
@[simp] theorem putBytes_silenceEv (s : State) (k : Nat) (v : List Byte) : (s.putBytes k v).silenceEv = s.silenceEv := rfl
@[simp] theorem putBytes_silenceAt (s : State) (k : Nat) (v : List Byte) : (s.putBytes k v).silenceAt = s.silenceAt := rfl
@[simp] theorem putBytes_ai (s : State) (k : Nat) (v : List Byte) : (s.putBytes k v).ai = s.ai := rfl
@[simp] theorem putBytes_ao (s : State) (k : Nat) (v : List Byte) : (s.putBytes k v).ao = s.ao := rfl
@[simp] theorem putBytes_rt (s : State) (k : Nat) (v : List Byte) : (s.putBytes k v).rt = s.rt := rfl
@[simp] theorem putBytes_fans (s : State) (k : Nat) (v : List Byte) : (s.putBytes k v).fans = s.fans := rfl
@[simp] theorem putBytes_therm (s : State) (k : Nat) (v : List Byte) : (s.putBytes k v).therm = s.therm := rfl
@[simp] theorem putBytes_cache (s : State) (k : Nat) (v : List Byte) : (s.putBytes k v).cache = s.cache := rfl
@[simp] theorem putBytes_pinned (s : State) (k : Nat) (v : List Byte) : (s.putBytes k v).pinned = s.pinned := rfl
@[simp] theorem putBytes_sources (s : State) (k : Nat) (v : List Byte) : (s.putBytes k v).sources = s.sources := rfl
@[simp] theorem putBytes_loops (s : State) (k : Nat) (v : List Byte) : (s.putBytes k v).loops = s.loops := rfl
@[simp] theorem putBytes_queue (s : State) (k : Nat) (v : List Byte) : (s.putBytes k v).queue = s.queue := rfl
@[simp] theorem putBytes_service (s : State) (k : Nat) (v : List Byte) : (s.putBytes k v).service = s.service := rfl
@[simp] theorem putBytes_engines (s : State) (k : Nat) (v : List Byte) : (s.putBytes k v).engines = s.engines := rfl
@[simp] theorem putBytes_satTimes (s : State) (k : Nat) (v : List Byte) : (s.putBytes k v).satTimes = s.satTimes := rfl
@[simp] theorem putBytes_loads (s : State) (k : Nat) (v : List Byte) : (s.putBytes k v).loads = s.loads := rfl
@[simp] theorem putBytes_inj (s : State) (k : Nat) (v : List Byte) : (s.putBytes k v).inj = s.inj := rfl
@[simp] theorem putBytes_traces (s : State) (k : Nat) (v : List Byte) : (s.putBytes k v).traces = s.traces := rfl
@[simp] theorem putBytes_bus (s : State) (k : Nat) (v : List Byte) : (s.putBytes k v).bus = s.bus := rfl
@[simp] theorem putBytes_net (s : State) (k : Nat) (v : List Byte) : (s.putBytes k v).net = s.net := rfl
@[simp] theorem putBytes_storeQ (s : State) (k : Nat) (v : List Byte) : (s.putBytes k v).storeQ = s.storeQ := rfl
@[simp] theorem putBytes_appDown (s : State) (k : Nat) (v : List Byte) : (s.putBytes k v).appDown = s.appDown := rfl
@[simp] theorem putBytes_mgmtDown (s : State) (k : Nat) (v : List Byte) : (s.putBytes k v).mgmtDown = s.mgmtDown := rfl
@[simp] theorem putBytes_pairs (s : State) (k : Nat) (v : List Byte) : (s.putBytes k v).pairs = s.pairs := rfl
@[simp] theorem putBytes_plant (s : State) (k : Nat) (v : List Byte) : (s.putBytes k v).plant = s.plant := rfl
@[simp] theorem putBytes_paths (s : State) (k : Nat) (v : List Byte) : (s.putBytes k v).paths = s.paths := rfl
@[simp] theorem putBytes_diel (s : State) (k : Nat) (v : List Byte) : (s.putBytes k v).diel = s.diel := rfl
@[simp] theorem putBytes_seq (s : State) (k : Nat) (v : List Byte) : (s.putBytes k v).seq = s.seq := rfl
@[simp] theorem putBytes_nand (s : State) (k : Nat) (v : List Byte) : (s.putBytes k v).nand = s.nand := rfl
@[simp] theorem putBytes_factory (s : State) (k : Nat) (v : List Byte) : (s.putBytes k v).factory = s.factory := rfl
@[simp] theorem putBytes_straps (s : State) (k : Nat) (v : List Byte) : (s.putBytes k v).straps = s.straps := rfl
@[simp] theorem putBytes_supply (s : State) (k : Nat) (v : List Byte) : (s.putBytes k v).supply = s.supply := rfl
@[simp] theorem putBytes_winter (s : State) (k : Nat) (v : List Byte) : (s.putBytes k v).winter = s.winter := rfl
@[simp] theorem putBytes_boot (s : State) (k : Nat) (v : List Byte) : (s.putBytes k v).boot = s.boot := rfl
@[simp] theorem putBytes_sec (s : State) (k : Nat) (v : List Byte) : (s.putBytes k v).sec = s.sec := rfl
@[simp] theorem putBytes_enc (s : State) (k : Nat) (v : List Byte) : (s.putBytes k v).enc = s.enc := rfl
@[simp] theorem putBytes_badChans (s : State) (k : Nat) (v : List Byte) : (s.putBytes k v).badChans = s.badChans := rfl
@[simp] theorem putBytes_badArchive (s : State) (k : Nat) (v : List Byte) : (s.putBytes k v).badArchive = s.badArchive := rfl
@[simp] theorem putBytes_dues (s : State) (k : Nat) (v : List Byte) : (s.putBytes k v).dues = s.dues := rfl
@[simp] theorem putBytes_fresh (s : State) (k : Nat) (v : List Byte) : (s.putBytes k v).fresh = s.fresh := rfl
@[simp] theorem putBytes_pending (s : State) (k : Nat) (v : List Byte) : (s.putBytes k v).pending = s.pending := rfl
@[simp] theorem putBytes_ob (s : State) (k : Nat) (v : List Byte) (j : Nat) : (s.putBytes k v).ob j = s.ob j := rfl

/-! ### State.elapse -/

@[simp] theorem elapse_phase (s : State) (d : Nat) : (s.elapse d).phase = s.phase := rfl
@[simp] theorem elapse_tickWc (s : State) (d : Nat) : (s.elapse d).tickWc = s.tickWc := rfl
@[simp] theorem elapse_ticks (s : State) (d : Nat) : (s.elapse d).ticks = s.ticks := rfl
@[simp] theorem elapse_objs (s : State) (d : Nat) : (s.elapse d).objs = s.objs := rfl
@[simp] theorem elapse_strs (s : State) (d : Nat) : (s.elapse d).strs = s.strs := rfl
@[simp] theorem elapse_router (s : State) (d : Nat) : (s.elapse d).router = s.router := rfl
@[simp] theorem elapse_staging (s : State) (d : Nat) : (s.elapse d).staging = s.staging := rfl
@[simp] theorem elapse_trips (s : State) (d : Nat) : (s.elapse d).trips = s.trips := rfl
@[simp] theorem elapse_check (s : State) (d : Nat) : (s.elapse d).check = s.check := rfl
@[simp] theorem elapse_operateDue (s : State) (d : Nat) : (s.elapse d).operateDue = s.operateDue := rfl
@[simp] theorem elapse_entries (s : State) (d : Nat) : (s.elapse d).entries = s.entries := rfl
@[simp] theorem elapse_late (s : State) (d : Nat) : (s.elapse d).late = s.late := rfl
@[simp] theorem elapse_gc (s : State) (d : Nat) : (s.elapse d).gc = s.gc := rfl
@[simp] theorem elapse_mp (s : State) (d : Nat) : (s.elapse d).mp = s.mp := rfl
@[simp] theorem elapse_wcs (s : State) (d : Nat) : (s.elapse d).wcs = s.wcs := rfl
@[simp] theorem elapse_link (s : State) (d : Nat) : (s.elapse d).link = s.link := rfl
@[simp] theorem elapse_pins (s : State) (d : Nat) : (s.elapse d).pins = s.pins := rfl
@[simp] theorem elapse_groups (s : State) (d : Nat) : (s.elapse d).groups = s.groups := rfl
@[simp] theorem elapse_safeCopy (s : State) (d : Nat) : (s.elapse d).safeCopy = s.safeCopy := rfl
@[simp] theorem elapse_safeCrc (s : State) (d : Nat) : (s.elapse d).safeCrc = s.safeCrc := rfl
@[simp] theorem elapse_linesHeld (s : State) (d : Nat) : (s.elapse d).linesHeld = s.linesHeld := rfl
@[simp] theorem elapse_silenceEv (s : State) (d : Nat) : (s.elapse d).silenceEv = s.silenceEv := rfl
@[simp] theorem elapse_silenceAt (s : State) (d : Nat) : (s.elapse d).silenceAt = s.silenceAt := rfl
@[simp] theorem elapse_ai (s : State) (d : Nat) : (s.elapse d).ai = s.ai := rfl
@[simp] theorem elapse_ao (s : State) (d : Nat) : (s.elapse d).ao = s.ao := rfl
@[simp] theorem elapse_rt (s : State) (d : Nat) : (s.elapse d).rt = s.rt := rfl
@[simp] theorem elapse_fans (s : State) (d : Nat) : (s.elapse d).fans = s.fans := rfl
@[simp] theorem elapse_therm (s : State) (d : Nat) : (s.elapse d).therm = s.therm := rfl
@[simp] theorem elapse_cache (s : State) (d : Nat) : (s.elapse d).cache = s.cache := rfl
@[simp] theorem elapse_pinned (s : State) (d : Nat) : (s.elapse d).pinned = s.pinned := rfl
@[simp] theorem elapse_sources (s : State) (d : Nat) : (s.elapse d).sources = s.sources := rfl
@[simp] theorem elapse_loops (s : State) (d : Nat) : (s.elapse d).loops = s.loops := rfl
@[simp] theorem elapse_queue (s : State) (d : Nat) : (s.elapse d).queue = s.queue := rfl
@[simp] theorem elapse_service (s : State) (d : Nat) : (s.elapse d).service = s.service := rfl
@[simp] theorem elapse_engines (s : State) (d : Nat) : (s.elapse d).engines = s.engines := rfl
@[simp] theorem elapse_satTimes (s : State) (d : Nat) : (s.elapse d).satTimes = s.satTimes := rfl
@[simp] theorem elapse_loads (s : State) (d : Nat) : (s.elapse d).loads = s.loads := rfl
@[simp] theorem elapse_inj (s : State) (d : Nat) : (s.elapse d).inj = s.inj := rfl
@[simp] theorem elapse_traces (s : State) (d : Nat) : (s.elapse d).traces = s.traces := rfl
@[simp] theorem elapse_bus (s : State) (d : Nat) : (s.elapse d).bus = s.bus := rfl
@[simp] theorem elapse_net (s : State) (d : Nat) : (s.elapse d).net = s.net := rfl
@[simp] theorem elapse_storeQ (s : State) (d : Nat) : (s.elapse d).storeQ = s.storeQ := rfl
@[simp] theorem elapse_appDown (s : State) (d : Nat) : (s.elapse d).appDown = s.appDown := rfl
@[simp] theorem elapse_mgmtDown (s : State) (d : Nat) : (s.elapse d).mgmtDown = s.mgmtDown := rfl
@[simp] theorem elapse_pairs (s : State) (d : Nat) : (s.elapse d).pairs = s.pairs := rfl
@[simp] theorem elapse_plant (s : State) (d : Nat) : (s.elapse d).plant = s.plant := rfl
@[simp] theorem elapse_paths (s : State) (d : Nat) : (s.elapse d).paths = s.paths := rfl
@[simp] theorem elapse_diel (s : State) (d : Nat) : (s.elapse d).diel = s.diel := rfl
@[simp] theorem elapse_seq (s : State) (d : Nat) : (s.elapse d).seq = s.seq := rfl
@[simp] theorem elapse_nand (s : State) (d : Nat) : (s.elapse d).nand = s.nand := rfl
@[simp] theorem elapse_factory (s : State) (d : Nat) : (s.elapse d).factory = s.factory := rfl
@[simp] theorem elapse_straps (s : State) (d : Nat) : (s.elapse d).straps = s.straps := rfl
@[simp] theorem elapse_supply (s : State) (d : Nat) : (s.elapse d).supply = s.supply := rfl
@[simp] theorem elapse_winter (s : State) (d : Nat) : (s.elapse d).winter = s.winter := rfl
@[simp] theorem elapse_boot (s : State) (d : Nat) : (s.elapse d).boot = s.boot := rfl
@[simp] theorem elapse_sec (s : State) (d : Nat) : (s.elapse d).sec = s.sec := rfl
@[simp] theorem elapse_enc (s : State) (d : Nat) : (s.elapse d).enc = s.enc := rfl
@[simp] theorem elapse_badChans (s : State) (d : Nat) : (s.elapse d).badChans = s.badChans := rfl
@[simp] theorem elapse_badArchive (s : State) (d : Nat) : (s.elapse d).badArchive = s.badArchive := rfl
@[simp] theorem elapse_dues (s : State) (d : Nat) : (s.elapse d).dues = s.dues := rfl
@[simp] theorem elapse_fresh (s : State) (d : Nat) : (s.elapse d).fresh = s.fresh := rfl
@[simp] theorem elapse_pending (s : State) (d : Nat) : (s.elapse d).pending = s.pending := rfl
@[simp] theorem elapse_ob (s : State) (d : Nat) (j : Nat) : (s.elapse d).ob j = s.ob j := rfl

/-! ### State.tickFree -/

@[simp] theorem tickFree_phase (s : State) : (s.tickFree).phase = s.phase := rfl
@[simp] theorem tickFree_osc (s : State) : (s.tickFree).osc = s.osc := rfl
@[simp] theorem tickFree_wc (s : State) : (s.tickFree).wc = s.wc := rfl
@[simp] theorem tickFree_tickWc (s : State) : (s.tickFree).tickWc = s.tickWc := rfl
@[simp] theorem tickFree_ticks (s : State) : (s.tickFree).ticks = s.ticks := rfl
@[simp] theorem tickFree_objs (s : State) : (s.tickFree).objs = s.objs := rfl
@[simp] theorem tickFree_strs (s : State) : (s.tickFree).strs = s.strs := rfl
@[simp] theorem tickFree_router (s : State) : (s.tickFree).router = s.router := rfl
@[simp] theorem tickFree_staging (s : State) : (s.tickFree).staging = s.staging := rfl
@[simp] theorem tickFree_trips (s : State) : (s.tickFree).trips = s.trips := rfl
@[simp] theorem tickFree_check (s : State) : (s.tickFree).check = s.check := rfl
@[simp] theorem tickFree_operateDue (s : State) : (s.tickFree).operateDue = s.operateDue := rfl
@[simp] theorem tickFree_entries (s : State) : (s.tickFree).entries = s.entries := rfl
@[simp] theorem tickFree_late (s : State) : (s.tickFree).late = s.late := rfl
@[simp] theorem tickFree_gc (s : State) : (s.tickFree).gc = s.gc := rfl
@[simp] theorem tickFree_mp (s : State) : (s.tickFree).mp = s.mp := rfl
@[simp] theorem tickFree_wcs (s : State) : (s.tickFree).wcs = s.wcs := rfl
@[simp] theorem tickFree_link (s : State) : (s.tickFree).link = s.link := rfl
@[simp] theorem tickFree_pins (s : State) : (s.tickFree).pins = s.pins := rfl
@[simp] theorem tickFree_groups (s : State) : (s.tickFree).groups = s.groups := rfl
@[simp] theorem tickFree_safeCopy (s : State) : (s.tickFree).safeCopy = s.safeCopy := rfl
@[simp] theorem tickFree_safeCrc (s : State) : (s.tickFree).safeCrc = s.safeCrc := rfl
@[simp] theorem tickFree_linesHeld (s : State) : (s.tickFree).linesHeld = s.linesHeld := rfl
@[simp] theorem tickFree_silenceEv (s : State) : (s.tickFree).silenceEv = s.silenceEv := rfl
@[simp] theorem tickFree_silenceAt (s : State) : (s.tickFree).silenceAt = s.silenceAt := rfl
@[simp] theorem tickFree_ai (s : State) : (s.tickFree).ai = s.ai := rfl
@[simp] theorem tickFree_ao (s : State) : (s.tickFree).ao = s.ao := rfl
@[simp] theorem tickFree_rt (s : State) : (s.tickFree).rt = s.rt := rfl
@[simp] theorem tickFree_fans (s : State) : (s.tickFree).fans = s.fans := rfl
@[simp] theorem tickFree_therm (s : State) : (s.tickFree).therm = s.therm := rfl
@[simp] theorem tickFree_cache (s : State) : (s.tickFree).cache = s.cache := rfl
@[simp] theorem tickFree_pinned (s : State) : (s.tickFree).pinned = s.pinned := rfl
@[simp] theorem tickFree_sources (s : State) : (s.tickFree).sources = s.sources := rfl
@[simp] theorem tickFree_loops (s : State) : (s.tickFree).loops = s.loops := rfl
@[simp] theorem tickFree_queue (s : State) : (s.tickFree).queue = s.queue := rfl
@[simp] theorem tickFree_service (s : State) : (s.tickFree).service = s.service := rfl
@[simp] theorem tickFree_engines (s : State) : (s.tickFree).engines = s.engines := rfl
@[simp] theorem tickFree_satTimes (s : State) : (s.tickFree).satTimes = s.satTimes := rfl
@[simp] theorem tickFree_loads (s : State) : (s.tickFree).loads = s.loads := rfl
@[simp] theorem tickFree_inj (s : State) : (s.tickFree).inj = s.inj := rfl
@[simp] theorem tickFree_traces (s : State) : (s.tickFree).traces = s.traces := rfl
@[simp] theorem tickFree_bus (s : State) : (s.tickFree).bus = s.bus := rfl
@[simp] theorem tickFree_net (s : State) : (s.tickFree).net = s.net := rfl
@[simp] theorem tickFree_storeQ (s : State) : (s.tickFree).storeQ = s.storeQ := rfl
@[simp] theorem tickFree_appDown (s : State) : (s.tickFree).appDown = s.appDown := rfl
@[simp] theorem tickFree_mgmtDown (s : State) : (s.tickFree).mgmtDown = s.mgmtDown := rfl
@[simp] theorem tickFree_pairs (s : State) : (s.tickFree).pairs = s.pairs := rfl
@[simp] theorem tickFree_plant (s : State) : (s.tickFree).plant = s.plant := rfl
@[simp] theorem tickFree_paths (s : State) : (s.tickFree).paths = s.paths := rfl
@[simp] theorem tickFree_diel (s : State) : (s.tickFree).diel = s.diel := rfl
@[simp] theorem tickFree_seq (s : State) : (s.tickFree).seq = s.seq := rfl
@[simp] theorem tickFree_nand (s : State) : (s.tickFree).nand = s.nand := rfl
@[simp] theorem tickFree_factory (s : State) : (s.tickFree).factory = s.factory := rfl
@[simp] theorem tickFree_straps (s : State) : (s.tickFree).straps = s.straps := rfl
@[simp] theorem tickFree_supply (s : State) : (s.tickFree).supply = s.supply := rfl
@[simp] theorem tickFree_winter (s : State) : (s.tickFree).winter = s.winter := rfl
@[simp] theorem tickFree_boot (s : State) : (s.tickFree).boot = s.boot := rfl
@[simp] theorem tickFree_sec (s : State) : (s.tickFree).sec = s.sec := rfl
@[simp] theorem tickFree_enc (s : State) : (s.tickFree).enc = s.enc := rfl
@[simp] theorem tickFree_badChans (s : State) : (s.tickFree).badChans = s.badChans := rfl
@[simp] theorem tickFree_badArchive (s : State) : (s.tickFree).badArchive = s.badArchive := rfl
@[simp] theorem tickFree_dues (s : State) : (s.tickFree).dues = s.dues := rfl
@[simp] theorem tickFree_pending (s : State) : (s.tickFree).pending = s.pending := rfl
@[simp] theorem tickFree_ob (s : State) (j : Nat) : (s.tickFree).ob j = s.ob j := rfl

/-! ### stage -/

@[simp] theorem stage_phase (s : State) (r : JRec) : (stage s r).phase = s.phase := rfl
@[simp] theorem stage_osc (s : State) (r : JRec) : (stage s r).osc = s.osc := rfl
@[simp] theorem stage_wc (s : State) (r : JRec) : (stage s r).wc = s.wc := rfl
@[simp] theorem stage_tickWc (s : State) (r : JRec) : (stage s r).tickWc = s.tickWc := rfl
@[simp] theorem stage_ticks (s : State) (r : JRec) : (stage s r).ticks = s.ticks := rfl
@[simp] theorem stage_objs (s : State) (r : JRec) : (stage s r).objs = s.objs := rfl
@[simp] theorem stage_strs (s : State) (r : JRec) : (stage s r).strs = s.strs := rfl
@[simp] theorem stage_router (s : State) (r : JRec) : (stage s r).router = s.router := rfl
@[simp] theorem stage_trips (s : State) (r : JRec) : (stage s r).trips = s.trips := rfl
@[simp] theorem stage_check (s : State) (r : JRec) : (stage s r).check = s.check := rfl
@[simp] theorem stage_operateDue (s : State) (r : JRec) : (stage s r).operateDue = s.operateDue := rfl
@[simp] theorem stage_entries (s : State) (r : JRec) : (stage s r).entries = s.entries := rfl
@[simp] theorem stage_late (s : State) (r : JRec) : (stage s r).late = s.late := rfl
@[simp] theorem stage_gc (s : State) (r : JRec) : (stage s r).gc = s.gc := rfl
@[simp] theorem stage_mp (s : State) (r : JRec) : (stage s r).mp = s.mp := rfl
@[simp] theorem stage_wcs (s : State) (r : JRec) : (stage s r).wcs = s.wcs := rfl
@[simp] theorem stage_link (s : State) (r : JRec) : (stage s r).link = s.link := rfl
@[simp] theorem stage_pins (s : State) (r : JRec) : (stage s r).pins = s.pins := rfl
@[simp] theorem stage_groups (s : State) (r : JRec) : (stage s r).groups = s.groups := rfl
@[simp] theorem stage_safeCopy (s : State) (r : JRec) : (stage s r).safeCopy = s.safeCopy := rfl
@[simp] theorem stage_safeCrc (s : State) (r : JRec) : (stage s r).safeCrc = s.safeCrc := rfl
@[simp] theorem stage_linesHeld (s : State) (r : JRec) : (stage s r).linesHeld = s.linesHeld := rfl
@[simp] theorem stage_silenceEv (s : State) (r : JRec) : (stage s r).silenceEv = s.silenceEv := rfl
@[simp] theorem stage_silenceAt (s : State) (r : JRec) : (stage s r).silenceAt = s.silenceAt := rfl
@[simp] theorem stage_ai (s : State) (r : JRec) : (stage s r).ai = s.ai := rfl
@[simp] theorem stage_ao (s : State) (r : JRec) : (stage s r).ao = s.ao := rfl
@[simp] theorem stage_rt (s : State) (r : JRec) : (stage s r).rt = s.rt := rfl
@[simp] theorem stage_fans (s : State) (r : JRec) : (stage s r).fans = s.fans := rfl
@[simp] theorem stage_therm (s : State) (r : JRec) : (stage s r).therm = s.therm := rfl
@[simp] theorem stage_cache (s : State) (r : JRec) : (stage s r).cache = s.cache := rfl
@[simp] theorem stage_pinned (s : State) (r : JRec) : (stage s r).pinned = s.pinned := rfl
@[simp] theorem stage_sources (s : State) (r : JRec) : (stage s r).sources = s.sources := rfl
@[simp] theorem stage_loops (s : State) (r : JRec) : (stage s r).loops = s.loops := rfl
@[simp] theorem stage_queue (s : State) (r : JRec) : (stage s r).queue = s.queue := rfl
@[simp] theorem stage_service (s : State) (r : JRec) : (stage s r).service = s.service := rfl
@[simp] theorem stage_engines (s : State) (r : JRec) : (stage s r).engines = s.engines := rfl
@[simp] theorem stage_satTimes (s : State) (r : JRec) : (stage s r).satTimes = s.satTimes := rfl
@[simp] theorem stage_loads (s : State) (r : JRec) : (stage s r).loads = s.loads := rfl
@[simp] theorem stage_inj (s : State) (r : JRec) : (stage s r).inj = s.inj := rfl
@[simp] theorem stage_traces (s : State) (r : JRec) : (stage s r).traces = s.traces := rfl
@[simp] theorem stage_bus (s : State) (r : JRec) : (stage s r).bus = s.bus := rfl
@[simp] theorem stage_net (s : State) (r : JRec) : (stage s r).net = s.net := rfl
@[simp] theorem stage_storeQ (s : State) (r : JRec) : (stage s r).storeQ = s.storeQ := rfl
@[simp] theorem stage_appDown (s : State) (r : JRec) : (stage s r).appDown = s.appDown := rfl
@[simp] theorem stage_mgmtDown (s : State) (r : JRec) : (stage s r).mgmtDown = s.mgmtDown := rfl
@[simp] theorem stage_pairs (s : State) (r : JRec) : (stage s r).pairs = s.pairs := rfl
@[simp] theorem stage_plant (s : State) (r : JRec) : (stage s r).plant = s.plant := rfl
@[simp] theorem stage_paths (s : State) (r : JRec) : (stage s r).paths = s.paths := rfl
@[simp] theorem stage_diel (s : State) (r : JRec) : (stage s r).diel = s.diel := rfl
@[simp] theorem stage_seq (s : State) (r : JRec) : (stage s r).seq = s.seq := rfl
@[simp] theorem stage_nand (s : State) (r : JRec) : (stage s r).nand = s.nand := rfl
@[simp] theorem stage_factory (s : State) (r : JRec) : (stage s r).factory = s.factory := rfl
@[simp] theorem stage_straps (s : State) (r : JRec) : (stage s r).straps = s.straps := rfl
@[simp] theorem stage_supply (s : State) (r : JRec) : (stage s r).supply = s.supply := rfl
@[simp] theorem stage_winter (s : State) (r : JRec) : (stage s r).winter = s.winter := rfl
@[simp] theorem stage_boot (s : State) (r : JRec) : (stage s r).boot = s.boot := rfl
@[simp] theorem stage_sec (s : State) (r : JRec) : (stage s r).sec = s.sec := rfl
@[simp] theorem stage_enc (s : State) (r : JRec) : (stage s r).enc = s.enc := rfl
@[simp] theorem stage_badChans (s : State) (r : JRec) : (stage s r).badChans = s.badChans := rfl
@[simp] theorem stage_badArchive (s : State) (r : JRec) : (stage s r).badArchive = s.badArchive := rfl
@[simp] theorem stage_dues (s : State) (r : JRec) : (stage s r).dues = s.dues := rfl
@[simp] theorem stage_fresh (s : State) (r : JRec) : (stage s r).fresh = s.fresh := rfl
@[simp] theorem stage_pending (s : State) (r : JRec) : (stage s r).pending = s.pending := rfl
@[simp] theorem stage_ob (s : State) (r : JRec) (j : Nat) : (stage s r).ob j = s.ob j := rfl

/-! ### setGc -/

@[simp] theorem setGc_phase (s : State) (k : Fin 8) (g : GcSt) : (setGc s k g).phase = s.phase := rfl
@[simp] theorem setGc_osc (s : State) (k : Fin 8) (g : GcSt) : (setGc s k g).osc = s.osc := rfl
@[simp] theorem setGc_wc (s : State) (k : Fin 8) (g : GcSt) : (setGc s k g).wc = s.wc := rfl
@[simp] theorem setGc_tickWc (s : State) (k : Fin 8) (g : GcSt) : (setGc s k g).tickWc = s.tickWc := rfl
@[simp] theorem setGc_ticks (s : State) (k : Fin 8) (g : GcSt) : (setGc s k g).ticks = s.ticks := rfl
@[simp] theorem setGc_objs (s : State) (k : Fin 8) (g : GcSt) : (setGc s k g).objs = s.objs := rfl
@[simp] theorem setGc_strs (s : State) (k : Fin 8) (g : GcSt) : (setGc s k g).strs = s.strs := rfl
@[simp] theorem setGc_router (s : State) (k : Fin 8) (g : GcSt) : (setGc s k g).router = s.router := rfl
@[simp] theorem setGc_staging (s : State) (k : Fin 8) (g : GcSt) : (setGc s k g).staging = s.staging := rfl
@[simp] theorem setGc_trips (s : State) (k : Fin 8) (g : GcSt) : (setGc s k g).trips = s.trips := rfl
@[simp] theorem setGc_check (s : State) (k : Fin 8) (g : GcSt) : (setGc s k g).check = s.check := rfl
@[simp] theorem setGc_operateDue (s : State) (k : Fin 8) (g : GcSt) : (setGc s k g).operateDue = s.operateDue := rfl
@[simp] theorem setGc_entries (s : State) (k : Fin 8) (g : GcSt) : (setGc s k g).entries = s.entries := rfl
@[simp] theorem setGc_late (s : State) (k : Fin 8) (g : GcSt) : (setGc s k g).late = s.late := rfl
@[simp] theorem setGc_mp (s : State) (k : Fin 8) (g : GcSt) : (setGc s k g).mp = s.mp := rfl
@[simp] theorem setGc_wcs (s : State) (k : Fin 8) (g : GcSt) : (setGc s k g).wcs = s.wcs := rfl
@[simp] theorem setGc_link (s : State) (k : Fin 8) (g : GcSt) : (setGc s k g).link = s.link := rfl
@[simp] theorem setGc_pins (s : State) (k : Fin 8) (g : GcSt) : (setGc s k g).pins = s.pins := rfl
@[simp] theorem setGc_groups (s : State) (k : Fin 8) (g : GcSt) : (setGc s k g).groups = s.groups := rfl
@[simp] theorem setGc_safeCopy (s : State) (k : Fin 8) (g : GcSt) : (setGc s k g).safeCopy = s.safeCopy := rfl
@[simp] theorem setGc_safeCrc (s : State) (k : Fin 8) (g : GcSt) : (setGc s k g).safeCrc = s.safeCrc := rfl
@[simp] theorem setGc_linesHeld (s : State) (k : Fin 8) (g : GcSt) : (setGc s k g).linesHeld = s.linesHeld := rfl
@[simp] theorem setGc_silenceEv (s : State) (k : Fin 8) (g : GcSt) : (setGc s k g).silenceEv = s.silenceEv := rfl
@[simp] theorem setGc_silenceAt (s : State) (k : Fin 8) (g : GcSt) : (setGc s k g).silenceAt = s.silenceAt := rfl
@[simp] theorem setGc_ai (s : State) (k : Fin 8) (g : GcSt) : (setGc s k g).ai = s.ai := rfl
@[simp] theorem setGc_ao (s : State) (k : Fin 8) (g : GcSt) : (setGc s k g).ao = s.ao := rfl
@[simp] theorem setGc_rt (s : State) (k : Fin 8) (g : GcSt) : (setGc s k g).rt = s.rt := rfl
@[simp] theorem setGc_fans (s : State) (k : Fin 8) (g : GcSt) : (setGc s k g).fans = s.fans := rfl
@[simp] theorem setGc_therm (s : State) (k : Fin 8) (g : GcSt) : (setGc s k g).therm = s.therm := rfl
@[simp] theorem setGc_cache (s : State) (k : Fin 8) (g : GcSt) : (setGc s k g).cache = s.cache := rfl
@[simp] theorem setGc_pinned (s : State) (k : Fin 8) (g : GcSt) : (setGc s k g).pinned = s.pinned := rfl
@[simp] theorem setGc_sources (s : State) (k : Fin 8) (g : GcSt) : (setGc s k g).sources = s.sources := rfl
@[simp] theorem setGc_loops (s : State) (k : Fin 8) (g : GcSt) : (setGc s k g).loops = s.loops := rfl
@[simp] theorem setGc_queue (s : State) (k : Fin 8) (g : GcSt) : (setGc s k g).queue = s.queue := rfl
@[simp] theorem setGc_service (s : State) (k : Fin 8) (g : GcSt) : (setGc s k g).service = s.service := rfl
@[simp] theorem setGc_engines (s : State) (k : Fin 8) (g : GcSt) : (setGc s k g).engines = s.engines := rfl
@[simp] theorem setGc_satTimes (s : State) (k : Fin 8) (g : GcSt) : (setGc s k g).satTimes = s.satTimes := rfl
@[simp] theorem setGc_loads (s : State) (k : Fin 8) (g : GcSt) : (setGc s k g).loads = s.loads := rfl
@[simp] theorem setGc_inj (s : State) (k : Fin 8) (g : GcSt) : (setGc s k g).inj = s.inj := rfl
@[simp] theorem setGc_traces (s : State) (k : Fin 8) (g : GcSt) : (setGc s k g).traces = s.traces := rfl
@[simp] theorem setGc_bus (s : State) (k : Fin 8) (g : GcSt) : (setGc s k g).bus = s.bus := rfl
@[simp] theorem setGc_net (s : State) (k : Fin 8) (g : GcSt) : (setGc s k g).net = s.net := rfl
@[simp] theorem setGc_storeQ (s : State) (k : Fin 8) (g : GcSt) : (setGc s k g).storeQ = s.storeQ := rfl
@[simp] theorem setGc_appDown (s : State) (k : Fin 8) (g : GcSt) : (setGc s k g).appDown = s.appDown := rfl
@[simp] theorem setGc_mgmtDown (s : State) (k : Fin 8) (g : GcSt) : (setGc s k g).mgmtDown = s.mgmtDown := rfl
@[simp] theorem setGc_pairs (s : State) (k : Fin 8) (g : GcSt) : (setGc s k g).pairs = s.pairs := rfl
@[simp] theorem setGc_plant (s : State) (k : Fin 8) (g : GcSt) : (setGc s k g).plant = s.plant := rfl
@[simp] theorem setGc_paths (s : State) (k : Fin 8) (g : GcSt) : (setGc s k g).paths = s.paths := rfl
@[simp] theorem setGc_diel (s : State) (k : Fin 8) (g : GcSt) : (setGc s k g).diel = s.diel := rfl
@[simp] theorem setGc_seq (s : State) (k : Fin 8) (g : GcSt) : (setGc s k g).seq = s.seq := rfl
@[simp] theorem setGc_nand (s : State) (k : Fin 8) (g : GcSt) : (setGc s k g).nand = s.nand := rfl
@[simp] theorem setGc_factory (s : State) (k : Fin 8) (g : GcSt) : (setGc s k g).factory = s.factory := rfl
@[simp] theorem setGc_straps (s : State) (k : Fin 8) (g : GcSt) : (setGc s k g).straps = s.straps := rfl
@[simp] theorem setGc_supply (s : State) (k : Fin 8) (g : GcSt) : (setGc s k g).supply = s.supply := rfl
@[simp] theorem setGc_winter (s : State) (k : Fin 8) (g : GcSt) : (setGc s k g).winter = s.winter := rfl
@[simp] theorem setGc_boot (s : State) (k : Fin 8) (g : GcSt) : (setGc s k g).boot = s.boot := rfl
@[simp] theorem setGc_sec (s : State) (k : Fin 8) (g : GcSt) : (setGc s k g).sec = s.sec := rfl
@[simp] theorem setGc_enc (s : State) (k : Fin 8) (g : GcSt) : (setGc s k g).enc = s.enc := rfl
@[simp] theorem setGc_badChans (s : State) (k : Fin 8) (g : GcSt) : (setGc s k g).badChans = s.badChans := rfl
@[simp] theorem setGc_badArchive (s : State) (k : Fin 8) (g : GcSt) : (setGc s k g).badArchive = s.badArchive := rfl
@[simp] theorem setGc_dues (s : State) (k : Fin 8) (g : GcSt) : (setGc s k g).dues = s.dues := rfl
@[simp] theorem setGc_fresh (s : State) (k : Fin 8) (g : GcSt) : (setGc s k g).fresh = s.fresh := rfl
@[simp] theorem setGc_pending (s : State) (k : Fin 8) (g : GcSt) : (setGc s k g).pending = s.pending := rfl
@[simp] theorem setGc_ob (s : State) (k : Fin 8) (g : GcSt) (j : Nat) : (setGc s k g).ob j = s.ob j := rfl

/-! ### setPin -/

@[simp] theorem setPin_phase (s : State) (i : Fin 32) (p : PinSt) : (setPin s i p).phase = s.phase := rfl
@[simp] theorem setPin_osc (s : State) (i : Fin 32) (p : PinSt) : (setPin s i p).osc = s.osc := rfl
@[simp] theorem setPin_wc (s : State) (i : Fin 32) (p : PinSt) : (setPin s i p).wc = s.wc := rfl
@[simp] theorem setPin_tickWc (s : State) (i : Fin 32) (p : PinSt) : (setPin s i p).tickWc = s.tickWc := rfl
@[simp] theorem setPin_ticks (s : State) (i : Fin 32) (p : PinSt) : (setPin s i p).ticks = s.ticks := rfl
@[simp] theorem setPin_objs (s : State) (i : Fin 32) (p : PinSt) : (setPin s i p).objs = s.objs := rfl
@[simp] theorem setPin_strs (s : State) (i : Fin 32) (p : PinSt) : (setPin s i p).strs = s.strs := rfl
@[simp] theorem setPin_router (s : State) (i : Fin 32) (p : PinSt) : (setPin s i p).router = s.router := rfl
@[simp] theorem setPin_staging (s : State) (i : Fin 32) (p : PinSt) : (setPin s i p).staging = s.staging := rfl
@[simp] theorem setPin_trips (s : State) (i : Fin 32) (p : PinSt) : (setPin s i p).trips = s.trips := rfl
@[simp] theorem setPin_check (s : State) (i : Fin 32) (p : PinSt) : (setPin s i p).check = s.check := rfl
@[simp] theorem setPin_operateDue (s : State) (i : Fin 32) (p : PinSt) : (setPin s i p).operateDue = s.operateDue := rfl
@[simp] theorem setPin_entries (s : State) (i : Fin 32) (p : PinSt) : (setPin s i p).entries = s.entries := rfl
@[simp] theorem setPin_late (s : State) (i : Fin 32) (p : PinSt) : (setPin s i p).late = s.late := rfl
@[simp] theorem setPin_gc (s : State) (i : Fin 32) (p : PinSt) : (setPin s i p).gc = s.gc := rfl
@[simp] theorem setPin_mp (s : State) (i : Fin 32) (p : PinSt) : (setPin s i p).mp = s.mp := rfl
@[simp] theorem setPin_wcs (s : State) (i : Fin 32) (p : PinSt) : (setPin s i p).wcs = s.wcs := rfl
@[simp] theorem setPin_link (s : State) (i : Fin 32) (p : PinSt) : (setPin s i p).link = s.link := rfl
@[simp] theorem setPin_groups (s : State) (i : Fin 32) (p : PinSt) : (setPin s i p).groups = s.groups := rfl
@[simp] theorem setPin_safeCopy (s : State) (i : Fin 32) (p : PinSt) : (setPin s i p).safeCopy = s.safeCopy := rfl
@[simp] theorem setPin_safeCrc (s : State) (i : Fin 32) (p : PinSt) : (setPin s i p).safeCrc = s.safeCrc := rfl
@[simp] theorem setPin_linesHeld (s : State) (i : Fin 32) (p : PinSt) : (setPin s i p).linesHeld = s.linesHeld := rfl
@[simp] theorem setPin_silenceEv (s : State) (i : Fin 32) (p : PinSt) : (setPin s i p).silenceEv = s.silenceEv := rfl
@[simp] theorem setPin_silenceAt (s : State) (i : Fin 32) (p : PinSt) : (setPin s i p).silenceAt = s.silenceAt := rfl
@[simp] theorem setPin_ai (s : State) (i : Fin 32) (p : PinSt) : (setPin s i p).ai = s.ai := rfl
@[simp] theorem setPin_ao (s : State) (i : Fin 32) (p : PinSt) : (setPin s i p).ao = s.ao := rfl
@[simp] theorem setPin_rt (s : State) (i : Fin 32) (p : PinSt) : (setPin s i p).rt = s.rt := rfl
@[simp] theorem setPin_fans (s : State) (i : Fin 32) (p : PinSt) : (setPin s i p).fans = s.fans := rfl
@[simp] theorem setPin_therm (s : State) (i : Fin 32) (p : PinSt) : (setPin s i p).therm = s.therm := rfl
@[simp] theorem setPin_cache (s : State) (i : Fin 32) (p : PinSt) : (setPin s i p).cache = s.cache := rfl
@[simp] theorem setPin_pinned (s : State) (i : Fin 32) (p : PinSt) : (setPin s i p).pinned = s.pinned := rfl
@[simp] theorem setPin_sources (s : State) (i : Fin 32) (p : PinSt) : (setPin s i p).sources = s.sources := rfl
@[simp] theorem setPin_loops (s : State) (i : Fin 32) (p : PinSt) : (setPin s i p).loops = s.loops := rfl
@[simp] theorem setPin_queue (s : State) (i : Fin 32) (p : PinSt) : (setPin s i p).queue = s.queue := rfl
@[simp] theorem setPin_service (s : State) (i : Fin 32) (p : PinSt) : (setPin s i p).service = s.service := rfl
@[simp] theorem setPin_engines (s : State) (i : Fin 32) (p : PinSt) : (setPin s i p).engines = s.engines := rfl
@[simp] theorem setPin_satTimes (s : State) (i : Fin 32) (p : PinSt) : (setPin s i p).satTimes = s.satTimes := rfl
@[simp] theorem setPin_loads (s : State) (i : Fin 32) (p : PinSt) : (setPin s i p).loads = s.loads := rfl
@[simp] theorem setPin_inj (s : State) (i : Fin 32) (p : PinSt) : (setPin s i p).inj = s.inj := rfl
@[simp] theorem setPin_traces (s : State) (i : Fin 32) (p : PinSt) : (setPin s i p).traces = s.traces := rfl
@[simp] theorem setPin_bus (s : State) (i : Fin 32) (p : PinSt) : (setPin s i p).bus = s.bus := rfl
@[simp] theorem setPin_net (s : State) (i : Fin 32) (p : PinSt) : (setPin s i p).net = s.net := rfl
@[simp] theorem setPin_storeQ (s : State) (i : Fin 32) (p : PinSt) : (setPin s i p).storeQ = s.storeQ := rfl
@[simp] theorem setPin_appDown (s : State) (i : Fin 32) (p : PinSt) : (setPin s i p).appDown = s.appDown := rfl
@[simp] theorem setPin_mgmtDown (s : State) (i : Fin 32) (p : PinSt) : (setPin s i p).mgmtDown = s.mgmtDown := rfl
@[simp] theorem setPin_pairs (s : State) (i : Fin 32) (p : PinSt) : (setPin s i p).pairs = s.pairs := rfl
@[simp] theorem setPin_plant (s : State) (i : Fin 32) (p : PinSt) : (setPin s i p).plant = s.plant := rfl
@[simp] theorem setPin_paths (s : State) (i : Fin 32) (p : PinSt) : (setPin s i p).paths = s.paths := rfl
@[simp] theorem setPin_diel (s : State) (i : Fin 32) (p : PinSt) : (setPin s i p).diel = s.diel := rfl
@[simp] theorem setPin_seq (s : State) (i : Fin 32) (p : PinSt) : (setPin s i p).seq = s.seq := rfl
@[simp] theorem setPin_nand (s : State) (i : Fin 32) (p : PinSt) : (setPin s i p).nand = s.nand := rfl
@[simp] theorem setPin_factory (s : State) (i : Fin 32) (p : PinSt) : (setPin s i p).factory = s.factory := rfl
@[simp] theorem setPin_straps (s : State) (i : Fin 32) (p : PinSt) : (setPin s i p).straps = s.straps := rfl
@[simp] theorem setPin_supply (s : State) (i : Fin 32) (p : PinSt) : (setPin s i p).supply = s.supply := rfl
@[simp] theorem setPin_winter (s : State) (i : Fin 32) (p : PinSt) : (setPin s i p).winter = s.winter := rfl
@[simp] theorem setPin_boot (s : State) (i : Fin 32) (p : PinSt) : (setPin s i p).boot = s.boot := rfl
@[simp] theorem setPin_sec (s : State) (i : Fin 32) (p : PinSt) : (setPin s i p).sec = s.sec := rfl
@[simp] theorem setPin_enc (s : State) (i : Fin 32) (p : PinSt) : (setPin s i p).enc = s.enc := rfl
@[simp] theorem setPin_badChans (s : State) (i : Fin 32) (p : PinSt) : (setPin s i p).badChans = s.badChans := rfl
@[simp] theorem setPin_badArchive (s : State) (i : Fin 32) (p : PinSt) : (setPin s i p).badArchive = s.badArchive := rfl
@[simp] theorem setPin_dues (s : State) (i : Fin 32) (p : PinSt) : (setPin s i p).dues = s.dues := rfl
@[simp] theorem setPin_fresh (s : State) (i : Fin 32) (p : PinSt) : (setPin s i p).fresh = s.fresh := rfl
@[simp] theorem setPin_pending (s : State) (i : Fin 32) (p : PinSt) : (setPin s i p).pending = s.pending := rfl
@[simp] theorem setPin_ob (s : State) (i : Fin 32) (p : PinSt) (j : Nat) : (setPin s i p).ob j = s.ob j := rfl

/-! ### setFan -/

@[simp] theorem setFan_phase (s : State) (f : Fin 8) (x : FanSt) : (setFan s f x).phase = s.phase := rfl
@[simp] theorem setFan_osc (s : State) (f : Fin 8) (x : FanSt) : (setFan s f x).osc = s.osc := rfl
@[simp] theorem setFan_wc (s : State) (f : Fin 8) (x : FanSt) : (setFan s f x).wc = s.wc := rfl
@[simp] theorem setFan_tickWc (s : State) (f : Fin 8) (x : FanSt) : (setFan s f x).tickWc = s.tickWc := rfl
@[simp] theorem setFan_ticks (s : State) (f : Fin 8) (x : FanSt) : (setFan s f x).ticks = s.ticks := rfl
@[simp] theorem setFan_objs (s : State) (f : Fin 8) (x : FanSt) : (setFan s f x).objs = s.objs := rfl
@[simp] theorem setFan_strs (s : State) (f : Fin 8) (x : FanSt) : (setFan s f x).strs = s.strs := rfl
@[simp] theorem setFan_router (s : State) (f : Fin 8) (x : FanSt) : (setFan s f x).router = s.router := rfl
@[simp] theorem setFan_staging (s : State) (f : Fin 8) (x : FanSt) : (setFan s f x).staging = s.staging := rfl
@[simp] theorem setFan_trips (s : State) (f : Fin 8) (x : FanSt) : (setFan s f x).trips = s.trips := rfl
@[simp] theorem setFan_check (s : State) (f : Fin 8) (x : FanSt) : (setFan s f x).check = s.check := rfl
@[simp] theorem setFan_operateDue (s : State) (f : Fin 8) (x : FanSt) : (setFan s f x).operateDue = s.operateDue := rfl
@[simp] theorem setFan_entries (s : State) (f : Fin 8) (x : FanSt) : (setFan s f x).entries = s.entries := rfl
@[simp] theorem setFan_late (s : State) (f : Fin 8) (x : FanSt) : (setFan s f x).late = s.late := rfl
@[simp] theorem setFan_gc (s : State) (f : Fin 8) (x : FanSt) : (setFan s f x).gc = s.gc := rfl
@[simp] theorem setFan_mp (s : State) (f : Fin 8) (x : FanSt) : (setFan s f x).mp = s.mp := rfl
@[simp] theorem setFan_wcs (s : State) (f : Fin 8) (x : FanSt) : (setFan s f x).wcs = s.wcs := rfl
@[simp] theorem setFan_link (s : State) (f : Fin 8) (x : FanSt) : (setFan s f x).link = s.link := rfl
@[simp] theorem setFan_pins (s : State) (f : Fin 8) (x : FanSt) : (setFan s f x).pins = s.pins := rfl
@[simp] theorem setFan_groups (s : State) (f : Fin 8) (x : FanSt) : (setFan s f x).groups = s.groups := rfl
@[simp] theorem setFan_safeCopy (s : State) (f : Fin 8) (x : FanSt) : (setFan s f x).safeCopy = s.safeCopy := rfl
@[simp] theorem setFan_safeCrc (s : State) (f : Fin 8) (x : FanSt) : (setFan s f x).safeCrc = s.safeCrc := rfl
@[simp] theorem setFan_linesHeld (s : State) (f : Fin 8) (x : FanSt) : (setFan s f x).linesHeld = s.linesHeld := rfl
@[simp] theorem setFan_silenceEv (s : State) (f : Fin 8) (x : FanSt) : (setFan s f x).silenceEv = s.silenceEv := rfl
@[simp] theorem setFan_silenceAt (s : State) (f : Fin 8) (x : FanSt) : (setFan s f x).silenceAt = s.silenceAt := rfl
@[simp] theorem setFan_ai (s : State) (f : Fin 8) (x : FanSt) : (setFan s f x).ai = s.ai := rfl
@[simp] theorem setFan_ao (s : State) (f : Fin 8) (x : FanSt) : (setFan s f x).ao = s.ao := rfl
@[simp] theorem setFan_rt (s : State) (f : Fin 8) (x : FanSt) : (setFan s f x).rt = s.rt := rfl
@[simp] theorem setFan_therm (s : State) (f : Fin 8) (x : FanSt) : (setFan s f x).therm = s.therm := rfl
@[simp] theorem setFan_cache (s : State) (f : Fin 8) (x : FanSt) : (setFan s f x).cache = s.cache := rfl
@[simp] theorem setFan_pinned (s : State) (f : Fin 8) (x : FanSt) : (setFan s f x).pinned = s.pinned := rfl
@[simp] theorem setFan_sources (s : State) (f : Fin 8) (x : FanSt) : (setFan s f x).sources = s.sources := rfl
@[simp] theorem setFan_loops (s : State) (f : Fin 8) (x : FanSt) : (setFan s f x).loops = s.loops := rfl
@[simp] theorem setFan_queue (s : State) (f : Fin 8) (x : FanSt) : (setFan s f x).queue = s.queue := rfl
@[simp] theorem setFan_service (s : State) (f : Fin 8) (x : FanSt) : (setFan s f x).service = s.service := rfl
@[simp] theorem setFan_engines (s : State) (f : Fin 8) (x : FanSt) : (setFan s f x).engines = s.engines := rfl
@[simp] theorem setFan_satTimes (s : State) (f : Fin 8) (x : FanSt) : (setFan s f x).satTimes = s.satTimes := rfl
@[simp] theorem setFan_loads (s : State) (f : Fin 8) (x : FanSt) : (setFan s f x).loads = s.loads := rfl
@[simp] theorem setFan_inj (s : State) (f : Fin 8) (x : FanSt) : (setFan s f x).inj = s.inj := rfl
@[simp] theorem setFan_traces (s : State) (f : Fin 8) (x : FanSt) : (setFan s f x).traces = s.traces := rfl
@[simp] theorem setFan_bus (s : State) (f : Fin 8) (x : FanSt) : (setFan s f x).bus = s.bus := rfl
@[simp] theorem setFan_net (s : State) (f : Fin 8) (x : FanSt) : (setFan s f x).net = s.net := rfl
@[simp] theorem setFan_storeQ (s : State) (f : Fin 8) (x : FanSt) : (setFan s f x).storeQ = s.storeQ := rfl
@[simp] theorem setFan_appDown (s : State) (f : Fin 8) (x : FanSt) : (setFan s f x).appDown = s.appDown := rfl
@[simp] theorem setFan_mgmtDown (s : State) (f : Fin 8) (x : FanSt) : (setFan s f x).mgmtDown = s.mgmtDown := rfl
@[simp] theorem setFan_pairs (s : State) (f : Fin 8) (x : FanSt) : (setFan s f x).pairs = s.pairs := rfl
@[simp] theorem setFan_plant (s : State) (f : Fin 8) (x : FanSt) : (setFan s f x).plant = s.plant := rfl
@[simp] theorem setFan_paths (s : State) (f : Fin 8) (x : FanSt) : (setFan s f x).paths = s.paths := rfl
@[simp] theorem setFan_diel (s : State) (f : Fin 8) (x : FanSt) : (setFan s f x).diel = s.diel := rfl
@[simp] theorem setFan_seq (s : State) (f : Fin 8) (x : FanSt) : (setFan s f x).seq = s.seq := rfl
@[simp] theorem setFan_nand (s : State) (f : Fin 8) (x : FanSt) : (setFan s f x).nand = s.nand := rfl
@[simp] theorem setFan_factory (s : State) (f : Fin 8) (x : FanSt) : (setFan s f x).factory = s.factory := rfl
@[simp] theorem setFan_straps (s : State) (f : Fin 8) (x : FanSt) : (setFan s f x).straps = s.straps := rfl
@[simp] theorem setFan_supply (s : State) (f : Fin 8) (x : FanSt) : (setFan s f x).supply = s.supply := rfl
@[simp] theorem setFan_winter (s : State) (f : Fin 8) (x : FanSt) : (setFan s f x).winter = s.winter := rfl
@[simp] theorem setFan_boot (s : State) (f : Fin 8) (x : FanSt) : (setFan s f x).boot = s.boot := rfl
@[simp] theorem setFan_sec (s : State) (f : Fin 8) (x : FanSt) : (setFan s f x).sec = s.sec := rfl
@[simp] theorem setFan_enc (s : State) (f : Fin 8) (x : FanSt) : (setFan s f x).enc = s.enc := rfl
@[simp] theorem setFan_badChans (s : State) (f : Fin 8) (x : FanSt) : (setFan s f x).badChans = s.badChans := rfl
@[simp] theorem setFan_badArchive (s : State) (f : Fin 8) (x : FanSt) : (setFan s f x).badArchive = s.badArchive := rfl
@[simp] theorem setFan_dues (s : State) (f : Fin 8) (x : FanSt) : (setFan s f x).dues = s.dues := rfl
@[simp] theorem setFan_fresh (s : State) (f : Fin 8) (x : FanSt) : (setFan s f x).fresh = s.fresh := rfl
@[simp] theorem setFan_pending (s : State) (f : Fin 8) (x : FanSt) : (setFan s f x).pending = s.pending := rfl
@[simp] theorem setFan_ob (s : State) (f : Fin 8) (x : FanSt) (j : Nat) : (setFan s f x).ob j = s.ob j := rfl

/-! ### setBus -/

@[simp] theorem setBus_phase (s : State) (n : Fin 4) (b : BusSt) : (setBus s n b).phase = s.phase := rfl
@[simp] theorem setBus_osc (s : State) (n : Fin 4) (b : BusSt) : (setBus s n b).osc = s.osc := rfl
@[simp] theorem setBus_wc (s : State) (n : Fin 4) (b : BusSt) : (setBus s n b).wc = s.wc := rfl
@[simp] theorem setBus_tickWc (s : State) (n : Fin 4) (b : BusSt) : (setBus s n b).tickWc = s.tickWc := rfl
@[simp] theorem setBus_ticks (s : State) (n : Fin 4) (b : BusSt) : (setBus s n b).ticks = s.ticks := rfl
@[simp] theorem setBus_objs (s : State) (n : Fin 4) (b : BusSt) : (setBus s n b).objs = s.objs := rfl
@[simp] theorem setBus_strs (s : State) (n : Fin 4) (b : BusSt) : (setBus s n b).strs = s.strs := rfl
@[simp] theorem setBus_router (s : State) (n : Fin 4) (b : BusSt) : (setBus s n b).router = s.router := rfl
@[simp] theorem setBus_staging (s : State) (n : Fin 4) (b : BusSt) : (setBus s n b).staging = s.staging := rfl
@[simp] theorem setBus_trips (s : State) (n : Fin 4) (b : BusSt) : (setBus s n b).trips = s.trips := rfl
@[simp] theorem setBus_check (s : State) (n : Fin 4) (b : BusSt) : (setBus s n b).check = s.check := rfl
@[simp] theorem setBus_operateDue (s : State) (n : Fin 4) (b : BusSt) : (setBus s n b).operateDue = s.operateDue := rfl
@[simp] theorem setBus_entries (s : State) (n : Fin 4) (b : BusSt) : (setBus s n b).entries = s.entries := rfl
@[simp] theorem setBus_late (s : State) (n : Fin 4) (b : BusSt) : (setBus s n b).late = s.late := rfl
@[simp] theorem setBus_gc (s : State) (n : Fin 4) (b : BusSt) : (setBus s n b).gc = s.gc := rfl
@[simp] theorem setBus_mp (s : State) (n : Fin 4) (b : BusSt) : (setBus s n b).mp = s.mp := rfl
@[simp] theorem setBus_wcs (s : State) (n : Fin 4) (b : BusSt) : (setBus s n b).wcs = s.wcs := rfl
@[simp] theorem setBus_link (s : State) (n : Fin 4) (b : BusSt) : (setBus s n b).link = s.link := rfl
@[simp] theorem setBus_pins (s : State) (n : Fin 4) (b : BusSt) : (setBus s n b).pins = s.pins := rfl
@[simp] theorem setBus_groups (s : State) (n : Fin 4) (b : BusSt) : (setBus s n b).groups = s.groups := rfl
@[simp] theorem setBus_safeCopy (s : State) (n : Fin 4) (b : BusSt) : (setBus s n b).safeCopy = s.safeCopy := rfl
@[simp] theorem setBus_safeCrc (s : State) (n : Fin 4) (b : BusSt) : (setBus s n b).safeCrc = s.safeCrc := rfl
@[simp] theorem setBus_linesHeld (s : State) (n : Fin 4) (b : BusSt) : (setBus s n b).linesHeld = s.linesHeld := rfl
@[simp] theorem setBus_silenceEv (s : State) (n : Fin 4) (b : BusSt) : (setBus s n b).silenceEv = s.silenceEv := rfl
@[simp] theorem setBus_silenceAt (s : State) (n : Fin 4) (b : BusSt) : (setBus s n b).silenceAt = s.silenceAt := rfl
@[simp] theorem setBus_ai (s : State) (n : Fin 4) (b : BusSt) : (setBus s n b).ai = s.ai := rfl
@[simp] theorem setBus_ao (s : State) (n : Fin 4) (b : BusSt) : (setBus s n b).ao = s.ao := rfl
@[simp] theorem setBus_rt (s : State) (n : Fin 4) (b : BusSt) : (setBus s n b).rt = s.rt := rfl
@[simp] theorem setBus_fans (s : State) (n : Fin 4) (b : BusSt) : (setBus s n b).fans = s.fans := rfl
@[simp] theorem setBus_therm (s : State) (n : Fin 4) (b : BusSt) : (setBus s n b).therm = s.therm := rfl
@[simp] theorem setBus_cache (s : State) (n : Fin 4) (b : BusSt) : (setBus s n b).cache = s.cache := rfl
@[simp] theorem setBus_pinned (s : State) (n : Fin 4) (b : BusSt) : (setBus s n b).pinned = s.pinned := rfl
@[simp] theorem setBus_sources (s : State) (n : Fin 4) (b : BusSt) : (setBus s n b).sources = s.sources := rfl
@[simp] theorem setBus_loops (s : State) (n : Fin 4) (b : BusSt) : (setBus s n b).loops = s.loops := rfl
@[simp] theorem setBus_queue (s : State) (n : Fin 4) (b : BusSt) : (setBus s n b).queue = s.queue := rfl
@[simp] theorem setBus_service (s : State) (n : Fin 4) (b : BusSt) : (setBus s n b).service = s.service := rfl
@[simp] theorem setBus_engines (s : State) (n : Fin 4) (b : BusSt) : (setBus s n b).engines = s.engines := rfl
@[simp] theorem setBus_satTimes (s : State) (n : Fin 4) (b : BusSt) : (setBus s n b).satTimes = s.satTimes := rfl
@[simp] theorem setBus_loads (s : State) (n : Fin 4) (b : BusSt) : (setBus s n b).loads = s.loads := rfl
@[simp] theorem setBus_inj (s : State) (n : Fin 4) (b : BusSt) : (setBus s n b).inj = s.inj := rfl
@[simp] theorem setBus_traces (s : State) (n : Fin 4) (b : BusSt) : (setBus s n b).traces = s.traces := rfl
@[simp] theorem setBus_net (s : State) (n : Fin 4) (b : BusSt) : (setBus s n b).net = s.net := rfl
@[simp] theorem setBus_storeQ (s : State) (n : Fin 4) (b : BusSt) : (setBus s n b).storeQ = s.storeQ := rfl
@[simp] theorem setBus_appDown (s : State) (n : Fin 4) (b : BusSt) : (setBus s n b).appDown = s.appDown := rfl
@[simp] theorem setBus_mgmtDown (s : State) (n : Fin 4) (b : BusSt) : (setBus s n b).mgmtDown = s.mgmtDown := rfl
@[simp] theorem setBus_pairs (s : State) (n : Fin 4) (b : BusSt) : (setBus s n b).pairs = s.pairs := rfl
@[simp] theorem setBus_plant (s : State) (n : Fin 4) (b : BusSt) : (setBus s n b).plant = s.plant := rfl
@[simp] theorem setBus_paths (s : State) (n : Fin 4) (b : BusSt) : (setBus s n b).paths = s.paths := rfl
@[simp] theorem setBus_diel (s : State) (n : Fin 4) (b : BusSt) : (setBus s n b).diel = s.diel := rfl
@[simp] theorem setBus_seq (s : State) (n : Fin 4) (b : BusSt) : (setBus s n b).seq = s.seq := rfl
@[simp] theorem setBus_nand (s : State) (n : Fin 4) (b : BusSt) : (setBus s n b).nand = s.nand := rfl
@[simp] theorem setBus_factory (s : State) (n : Fin 4) (b : BusSt) : (setBus s n b).factory = s.factory := rfl
@[simp] theorem setBus_straps (s : State) (n : Fin 4) (b : BusSt) : (setBus s n b).straps = s.straps := rfl
@[simp] theorem setBus_supply (s : State) (n : Fin 4) (b : BusSt) : (setBus s n b).supply = s.supply := rfl
@[simp] theorem setBus_winter (s : State) (n : Fin 4) (b : BusSt) : (setBus s n b).winter = s.winter := rfl
@[simp] theorem setBus_boot (s : State) (n : Fin 4) (b : BusSt) : (setBus s n b).boot = s.boot := rfl
@[simp] theorem setBus_sec (s : State) (n : Fin 4) (b : BusSt) : (setBus s n b).sec = s.sec := rfl
@[simp] theorem setBus_enc (s : State) (n : Fin 4) (b : BusSt) : (setBus s n b).enc = s.enc := rfl
@[simp] theorem setBus_badChans (s : State) (n : Fin 4) (b : BusSt) : (setBus s n b).badChans = s.badChans := rfl
@[simp] theorem setBus_badArchive (s : State) (n : Fin 4) (b : BusSt) : (setBus s n b).badArchive = s.badArchive := rfl
@[simp] theorem setBus_dues (s : State) (n : Fin 4) (b : BusSt) : (setBus s n b).dues = s.dues := rfl
@[simp] theorem setBus_fresh (s : State) (n : Fin 4) (b : BusSt) : (setBus s n b).fresh = s.fresh := rfl
@[simp] theorem setBus_pending (s : State) (n : Fin 4) (b : BusSt) : (setBus s n b).pending = s.pending := rfl
@[simp] theorem setBus_ob (s : State) (n : Fin 4) (b : BusSt) (j : Nat) : (setBus s n b).ob j = s.ob j := rfl

/-! ### putXfers -/

@[simp] theorem putXfers_phase (s : State) (l : List Xfer) : (putXfers s l).phase = s.phase := rfl
@[simp] theorem putXfers_osc (s : State) (l : List Xfer) : (putXfers s l).osc = s.osc := rfl
@[simp] theorem putXfers_wc (s : State) (l : List Xfer) : (putXfers s l).wc = s.wc := rfl
@[simp] theorem putXfers_tickWc (s : State) (l : List Xfer) : (putXfers s l).tickWc = s.tickWc := rfl
@[simp] theorem putXfers_ticks (s : State) (l : List Xfer) : (putXfers s l).ticks = s.ticks := rfl
@[simp] theorem putXfers_objs (s : State) (l : List Xfer) : (putXfers s l).objs = s.objs := rfl
@[simp] theorem putXfers_strs (s : State) (l : List Xfer) : (putXfers s l).strs = s.strs := rfl
@[simp] theorem putXfers_router (s : State) (l : List Xfer) : (putXfers s l).router = s.router := rfl
@[simp] theorem putXfers_staging (s : State) (l : List Xfer) : (putXfers s l).staging = s.staging := rfl
@[simp] theorem putXfers_trips (s : State) (l : List Xfer) : (putXfers s l).trips = s.trips := rfl
@[simp] theorem putXfers_check (s : State) (l : List Xfer) : (putXfers s l).check = s.check := rfl
@[simp] theorem putXfers_operateDue (s : State) (l : List Xfer) : (putXfers s l).operateDue = s.operateDue := rfl
@[simp] theorem putXfers_entries (s : State) (l : List Xfer) : (putXfers s l).entries = s.entries := rfl
@[simp] theorem putXfers_late (s : State) (l : List Xfer) : (putXfers s l).late = s.late := rfl
@[simp] theorem putXfers_gc (s : State) (l : List Xfer) : (putXfers s l).gc = s.gc := rfl
@[simp] theorem putXfers_mp (s : State) (l : List Xfer) : (putXfers s l).mp = s.mp := rfl
@[simp] theorem putXfers_wcs (s : State) (l : List Xfer) : (putXfers s l).wcs = s.wcs := rfl
@[simp] theorem putXfers_link (s : State) (l : List Xfer) : (putXfers s l).link = s.link := rfl
@[simp] theorem putXfers_pins (s : State) (l : List Xfer) : (putXfers s l).pins = s.pins := rfl
@[simp] theorem putXfers_groups (s : State) (l : List Xfer) : (putXfers s l).groups = s.groups := rfl
@[simp] theorem putXfers_safeCopy (s : State) (l : List Xfer) : (putXfers s l).safeCopy = s.safeCopy := rfl
@[simp] theorem putXfers_safeCrc (s : State) (l : List Xfer) : (putXfers s l).safeCrc = s.safeCrc := rfl
@[simp] theorem putXfers_linesHeld (s : State) (l : List Xfer) : (putXfers s l).linesHeld = s.linesHeld := rfl
@[simp] theorem putXfers_silenceEv (s : State) (l : List Xfer) : (putXfers s l).silenceEv = s.silenceEv := rfl
@[simp] theorem putXfers_silenceAt (s : State) (l : List Xfer) : (putXfers s l).silenceAt = s.silenceAt := rfl
@[simp] theorem putXfers_ai (s : State) (l : List Xfer) : (putXfers s l).ai = s.ai := rfl
@[simp] theorem putXfers_ao (s : State) (l : List Xfer) : (putXfers s l).ao = s.ao := rfl
@[simp] theorem putXfers_rt (s : State) (l : List Xfer) : (putXfers s l).rt = s.rt := rfl
@[simp] theorem putXfers_fans (s : State) (l : List Xfer) : (putXfers s l).fans = s.fans := rfl
@[simp] theorem putXfers_therm (s : State) (l : List Xfer) : (putXfers s l).therm = s.therm := rfl
@[simp] theorem putXfers_cache (s : State) (l : List Xfer) : (putXfers s l).cache = s.cache := rfl
@[simp] theorem putXfers_pinned (s : State) (l : List Xfer) : (putXfers s l).pinned = s.pinned := rfl
@[simp] theorem putXfers_sources (s : State) (l : List Xfer) : (putXfers s l).sources = s.sources := rfl
@[simp] theorem putXfers_loops (s : State) (l : List Xfer) : (putXfers s l).loops = s.loops := rfl
@[simp] theorem putXfers_queue (s : State) (l : List Xfer) : (putXfers s l).queue = s.queue := rfl
@[simp] theorem putXfers_service (s : State) (l : List Xfer) : (putXfers s l).service = s.service := rfl
@[simp] theorem putXfers_engines (s : State) (l : List Xfer) : (putXfers s l).engines = s.engines := rfl
@[simp] theorem putXfers_satTimes (s : State) (l : List Xfer) : (putXfers s l).satTimes = s.satTimes := rfl
@[simp] theorem putXfers_loads (s : State) (l : List Xfer) : (putXfers s l).loads = s.loads := rfl
@[simp] theorem putXfers_inj (s : State) (l : List Xfer) : (putXfers s l).inj = s.inj := rfl
@[simp] theorem putXfers_traces (s : State) (l : List Xfer) : (putXfers s l).traces = s.traces := rfl
@[simp] theorem putXfers_bus (s : State) (l : List Xfer) : (putXfers s l).bus = s.bus := rfl
@[simp] theorem putXfers_storeQ (s : State) (l : List Xfer) : (putXfers s l).storeQ = s.storeQ := rfl
@[simp] theorem putXfers_appDown (s : State) (l : List Xfer) : (putXfers s l).appDown = s.appDown := rfl
@[simp] theorem putXfers_mgmtDown (s : State) (l : List Xfer) : (putXfers s l).mgmtDown = s.mgmtDown := rfl
@[simp] theorem putXfers_pairs (s : State) (l : List Xfer) : (putXfers s l).pairs = s.pairs := rfl
@[simp] theorem putXfers_plant (s : State) (l : List Xfer) : (putXfers s l).plant = s.plant := rfl
@[simp] theorem putXfers_paths (s : State) (l : List Xfer) : (putXfers s l).paths = s.paths := rfl
@[simp] theorem putXfers_diel (s : State) (l : List Xfer) : (putXfers s l).diel = s.diel := rfl
@[simp] theorem putXfers_seq (s : State) (l : List Xfer) : (putXfers s l).seq = s.seq := rfl
@[simp] theorem putXfers_nand (s : State) (l : List Xfer) : (putXfers s l).nand = s.nand := rfl
@[simp] theorem putXfers_factory (s : State) (l : List Xfer) : (putXfers s l).factory = s.factory := rfl
@[simp] theorem putXfers_straps (s : State) (l : List Xfer) : (putXfers s l).straps = s.straps := rfl
@[simp] theorem putXfers_supply (s : State) (l : List Xfer) : (putXfers s l).supply = s.supply := rfl
@[simp] theorem putXfers_winter (s : State) (l : List Xfer) : (putXfers s l).winter = s.winter := rfl
@[simp] theorem putXfers_boot (s : State) (l : List Xfer) : (putXfers s l).boot = s.boot := rfl
@[simp] theorem putXfers_sec (s : State) (l : List Xfer) : (putXfers s l).sec = s.sec := rfl
@[simp] theorem putXfers_enc (s : State) (l : List Xfer) : (putXfers s l).enc = s.enc := rfl
@[simp] theorem putXfers_badChans (s : State) (l : List Xfer) : (putXfers s l).badChans = s.badChans := rfl
@[simp] theorem putXfers_badArchive (s : State) (l : List Xfer) : (putXfers s l).badArchive = s.badArchive := rfl
@[simp] theorem putXfers_dues (s : State) (l : List Xfer) : (putXfers s l).dues = s.dues := rfl
@[simp] theorem putXfers_fresh (s : State) (l : List Xfer) : (putXfers s l).fresh = s.fresh := rfl
@[simp] theorem putXfers_pending (s : State) (l : List Xfer) : (putXfers s l).pending = s.pending := rfl
@[simp] theorem putXfers_ob (s : State) (l : List Xfer) (j : Nat) : (putXfers s l).ob j = s.ob j := rfl

/-! ### setDiel -/

@[simp] theorem setDiel_phase (s : State) (g : DielSt → DielSt) : (setDiel s g).phase = s.phase := rfl
@[simp] theorem setDiel_osc (s : State) (g : DielSt → DielSt) : (setDiel s g).osc = s.osc := rfl
@[simp] theorem setDiel_wc (s : State) (g : DielSt → DielSt) : (setDiel s g).wc = s.wc := rfl
@[simp] theorem setDiel_tickWc (s : State) (g : DielSt → DielSt) : (setDiel s g).tickWc = s.tickWc := rfl
@[simp] theorem setDiel_ticks (s : State) (g : DielSt → DielSt) : (setDiel s g).ticks = s.ticks := rfl
@[simp] theorem setDiel_objs (s : State) (g : DielSt → DielSt) : (setDiel s g).objs = s.objs := rfl
@[simp] theorem setDiel_strs (s : State) (g : DielSt → DielSt) : (setDiel s g).strs = s.strs := rfl
@[simp] theorem setDiel_router (s : State) (g : DielSt → DielSt) : (setDiel s g).router = s.router := rfl
@[simp] theorem setDiel_staging (s : State) (g : DielSt → DielSt) : (setDiel s g).staging = s.staging := rfl
@[simp] theorem setDiel_trips (s : State) (g : DielSt → DielSt) : (setDiel s g).trips = s.trips := rfl
@[simp] theorem setDiel_check (s : State) (g : DielSt → DielSt) : (setDiel s g).check = s.check := rfl
@[simp] theorem setDiel_operateDue (s : State) (g : DielSt → DielSt) : (setDiel s g).operateDue = s.operateDue := rfl
@[simp] theorem setDiel_entries (s : State) (g : DielSt → DielSt) : (setDiel s g).entries = s.entries := rfl
@[simp] theorem setDiel_late (s : State) (g : DielSt → DielSt) : (setDiel s g).late = s.late := rfl
@[simp] theorem setDiel_gc (s : State) (g : DielSt → DielSt) : (setDiel s g).gc = s.gc := rfl
@[simp] theorem setDiel_mp (s : State) (g : DielSt → DielSt) : (setDiel s g).mp = s.mp := rfl
@[simp] theorem setDiel_wcs (s : State) (g : DielSt → DielSt) : (setDiel s g).wcs = s.wcs := rfl
@[simp] theorem setDiel_link (s : State) (g : DielSt → DielSt) : (setDiel s g).link = s.link := rfl
@[simp] theorem setDiel_pins (s : State) (g : DielSt → DielSt) : (setDiel s g).pins = s.pins := rfl
@[simp] theorem setDiel_groups (s : State) (g : DielSt → DielSt) : (setDiel s g).groups = s.groups := rfl
@[simp] theorem setDiel_safeCopy (s : State) (g : DielSt → DielSt) : (setDiel s g).safeCopy = s.safeCopy := rfl
@[simp] theorem setDiel_safeCrc (s : State) (g : DielSt → DielSt) : (setDiel s g).safeCrc = s.safeCrc := rfl
@[simp] theorem setDiel_linesHeld (s : State) (g : DielSt → DielSt) : (setDiel s g).linesHeld = s.linesHeld := rfl
@[simp] theorem setDiel_silenceEv (s : State) (g : DielSt → DielSt) : (setDiel s g).silenceEv = s.silenceEv := rfl
@[simp] theorem setDiel_silenceAt (s : State) (g : DielSt → DielSt) : (setDiel s g).silenceAt = s.silenceAt := rfl
@[simp] theorem setDiel_ai (s : State) (g : DielSt → DielSt) : (setDiel s g).ai = s.ai := rfl
@[simp] theorem setDiel_ao (s : State) (g : DielSt → DielSt) : (setDiel s g).ao = s.ao := rfl
@[simp] theorem setDiel_rt (s : State) (g : DielSt → DielSt) : (setDiel s g).rt = s.rt := rfl
@[simp] theorem setDiel_fans (s : State) (g : DielSt → DielSt) : (setDiel s g).fans = s.fans := rfl
@[simp] theorem setDiel_therm (s : State) (g : DielSt → DielSt) : (setDiel s g).therm = s.therm := rfl
@[simp] theorem setDiel_cache (s : State) (g : DielSt → DielSt) : (setDiel s g).cache = s.cache := rfl
@[simp] theorem setDiel_pinned (s : State) (g : DielSt → DielSt) : (setDiel s g).pinned = s.pinned := rfl
@[simp] theorem setDiel_sources (s : State) (g : DielSt → DielSt) : (setDiel s g).sources = s.sources := rfl
@[simp] theorem setDiel_loops (s : State) (g : DielSt → DielSt) : (setDiel s g).loops = s.loops := rfl
@[simp] theorem setDiel_queue (s : State) (g : DielSt → DielSt) : (setDiel s g).queue = s.queue := rfl
@[simp] theorem setDiel_service (s : State) (g : DielSt → DielSt) : (setDiel s g).service = s.service := rfl
@[simp] theorem setDiel_engines (s : State) (g : DielSt → DielSt) : (setDiel s g).engines = s.engines := rfl
@[simp] theorem setDiel_satTimes (s : State) (g : DielSt → DielSt) : (setDiel s g).satTimes = s.satTimes := rfl
@[simp] theorem setDiel_loads (s : State) (g : DielSt → DielSt) : (setDiel s g).loads = s.loads := rfl
@[simp] theorem setDiel_inj (s : State) (g : DielSt → DielSt) : (setDiel s g).inj = s.inj := rfl
@[simp] theorem setDiel_traces (s : State) (g : DielSt → DielSt) : (setDiel s g).traces = s.traces := rfl
@[simp] theorem setDiel_bus (s : State) (g : DielSt → DielSt) : (setDiel s g).bus = s.bus := rfl
@[simp] theorem setDiel_net (s : State) (g : DielSt → DielSt) : (setDiel s g).net = s.net := rfl
@[simp] theorem setDiel_storeQ (s : State) (g : DielSt → DielSt) : (setDiel s g).storeQ = s.storeQ := rfl
@[simp] theorem setDiel_appDown (s : State) (g : DielSt → DielSt) : (setDiel s g).appDown = s.appDown := rfl
@[simp] theorem setDiel_mgmtDown (s : State) (g : DielSt → DielSt) : (setDiel s g).mgmtDown = s.mgmtDown := rfl
@[simp] theorem setDiel_pairs (s : State) (g : DielSt → DielSt) : (setDiel s g).pairs = s.pairs := rfl
@[simp] theorem setDiel_plant (s : State) (g : DielSt → DielSt) : (setDiel s g).plant = s.plant := rfl
@[simp] theorem setDiel_paths (s : State) (g : DielSt → DielSt) : (setDiel s g).paths = s.paths := rfl
@[simp] theorem setDiel_seq (s : State) (g : DielSt → DielSt) : (setDiel s g).seq = s.seq := rfl
@[simp] theorem setDiel_nand (s : State) (g : DielSt → DielSt) : (setDiel s g).nand = s.nand := rfl
@[simp] theorem setDiel_factory (s : State) (g : DielSt → DielSt) : (setDiel s g).factory = s.factory := rfl
@[simp] theorem setDiel_straps (s : State) (g : DielSt → DielSt) : (setDiel s g).straps = s.straps := rfl
@[simp] theorem setDiel_supply (s : State) (g : DielSt → DielSt) : (setDiel s g).supply = s.supply := rfl
@[simp] theorem setDiel_winter (s : State) (g : DielSt → DielSt) : (setDiel s g).winter = s.winter := rfl
@[simp] theorem setDiel_boot (s : State) (g : DielSt → DielSt) : (setDiel s g).boot = s.boot := rfl
@[simp] theorem setDiel_sec (s : State) (g : DielSt → DielSt) : (setDiel s g).sec = s.sec := rfl
@[simp] theorem setDiel_enc (s : State) (g : DielSt → DielSt) : (setDiel s g).enc = s.enc := rfl
@[simp] theorem setDiel_badChans (s : State) (g : DielSt → DielSt) : (setDiel s g).badChans = s.badChans := rfl
@[simp] theorem setDiel_badArchive (s : State) (g : DielSt → DielSt) : (setDiel s g).badArchive = s.badArchive := rfl
@[simp] theorem setDiel_dues (s : State) (g : DielSt → DielSt) : (setDiel s g).dues = s.dues := rfl
@[simp] theorem setDiel_fresh (s : State) (g : DielSt → DielSt) : (setDiel s g).fresh = s.fresh := rfl
@[simp] theorem setDiel_pending (s : State) (g : DielSt → DielSt) : (setDiel s g).pending = s.pending := rfl
@[simp] theorem setDiel_ob (s : State) (g : DielSt → DielSt) (j : Nat) : (setDiel s g).ob j = s.ob j := rfl

/-! ### setSeq -/

@[simp] theorem setSeq_phase (s : State) (g : SeqSt → SeqSt) : (setSeq s g).phase = s.phase := rfl
@[simp] theorem setSeq_osc (s : State) (g : SeqSt → SeqSt) : (setSeq s g).osc = s.osc := rfl
@[simp] theorem setSeq_wc (s : State) (g : SeqSt → SeqSt) : (setSeq s g).wc = s.wc := rfl
@[simp] theorem setSeq_tickWc (s : State) (g : SeqSt → SeqSt) : (setSeq s g).tickWc = s.tickWc := rfl
@[simp] theorem setSeq_ticks (s : State) (g : SeqSt → SeqSt) : (setSeq s g).ticks = s.ticks := rfl
@[simp] theorem setSeq_objs (s : State) (g : SeqSt → SeqSt) : (setSeq s g).objs = s.objs := rfl
@[simp] theorem setSeq_strs (s : State) (g : SeqSt → SeqSt) : (setSeq s g).strs = s.strs := rfl
@[simp] theorem setSeq_router (s : State) (g : SeqSt → SeqSt) : (setSeq s g).router = s.router := rfl
@[simp] theorem setSeq_staging (s : State) (g : SeqSt → SeqSt) : (setSeq s g).staging = s.staging := rfl
@[simp] theorem setSeq_trips (s : State) (g : SeqSt → SeqSt) : (setSeq s g).trips = s.trips := rfl
@[simp] theorem setSeq_check (s : State) (g : SeqSt → SeqSt) : (setSeq s g).check = s.check := rfl
@[simp] theorem setSeq_operateDue (s : State) (g : SeqSt → SeqSt) : (setSeq s g).operateDue = s.operateDue := rfl
@[simp] theorem setSeq_entries (s : State) (g : SeqSt → SeqSt) : (setSeq s g).entries = s.entries := rfl
@[simp] theorem setSeq_late (s : State) (g : SeqSt → SeqSt) : (setSeq s g).late = s.late := rfl
@[simp] theorem setSeq_gc (s : State) (g : SeqSt → SeqSt) : (setSeq s g).gc = s.gc := rfl
@[simp] theorem setSeq_mp (s : State) (g : SeqSt → SeqSt) : (setSeq s g).mp = s.mp := rfl
@[simp] theorem setSeq_wcs (s : State) (g : SeqSt → SeqSt) : (setSeq s g).wcs = s.wcs := rfl
@[simp] theorem setSeq_link (s : State) (g : SeqSt → SeqSt) : (setSeq s g).link = s.link := rfl
@[simp] theorem setSeq_pins (s : State) (g : SeqSt → SeqSt) : (setSeq s g).pins = s.pins := rfl
@[simp] theorem setSeq_groups (s : State) (g : SeqSt → SeqSt) : (setSeq s g).groups = s.groups := rfl
@[simp] theorem setSeq_safeCopy (s : State) (g : SeqSt → SeqSt) : (setSeq s g).safeCopy = s.safeCopy := rfl
@[simp] theorem setSeq_safeCrc (s : State) (g : SeqSt → SeqSt) : (setSeq s g).safeCrc = s.safeCrc := rfl
@[simp] theorem setSeq_linesHeld (s : State) (g : SeqSt → SeqSt) : (setSeq s g).linesHeld = s.linesHeld := rfl
@[simp] theorem setSeq_silenceEv (s : State) (g : SeqSt → SeqSt) : (setSeq s g).silenceEv = s.silenceEv := rfl
@[simp] theorem setSeq_silenceAt (s : State) (g : SeqSt → SeqSt) : (setSeq s g).silenceAt = s.silenceAt := rfl
@[simp] theorem setSeq_ai (s : State) (g : SeqSt → SeqSt) : (setSeq s g).ai = s.ai := rfl
@[simp] theorem setSeq_ao (s : State) (g : SeqSt → SeqSt) : (setSeq s g).ao = s.ao := rfl
@[simp] theorem setSeq_rt (s : State) (g : SeqSt → SeqSt) : (setSeq s g).rt = s.rt := rfl
@[simp] theorem setSeq_fans (s : State) (g : SeqSt → SeqSt) : (setSeq s g).fans = s.fans := rfl
@[simp] theorem setSeq_therm (s : State) (g : SeqSt → SeqSt) : (setSeq s g).therm = s.therm := rfl
@[simp] theorem setSeq_cache (s : State) (g : SeqSt → SeqSt) : (setSeq s g).cache = s.cache := rfl
@[simp] theorem setSeq_pinned (s : State) (g : SeqSt → SeqSt) : (setSeq s g).pinned = s.pinned := rfl
@[simp] theorem setSeq_sources (s : State) (g : SeqSt → SeqSt) : (setSeq s g).sources = s.sources := rfl
@[simp] theorem setSeq_loops (s : State) (g : SeqSt → SeqSt) : (setSeq s g).loops = s.loops := rfl
@[simp] theorem setSeq_queue (s : State) (g : SeqSt → SeqSt) : (setSeq s g).queue = s.queue := rfl
@[simp] theorem setSeq_service (s : State) (g : SeqSt → SeqSt) : (setSeq s g).service = s.service := rfl
@[simp] theorem setSeq_engines (s : State) (g : SeqSt → SeqSt) : (setSeq s g).engines = s.engines := rfl
@[simp] theorem setSeq_satTimes (s : State) (g : SeqSt → SeqSt) : (setSeq s g).satTimes = s.satTimes := rfl
@[simp] theorem setSeq_loads (s : State) (g : SeqSt → SeqSt) : (setSeq s g).loads = s.loads := rfl
@[simp] theorem setSeq_inj (s : State) (g : SeqSt → SeqSt) : (setSeq s g).inj = s.inj := rfl
@[simp] theorem setSeq_traces (s : State) (g : SeqSt → SeqSt) : (setSeq s g).traces = s.traces := rfl
@[simp] theorem setSeq_bus (s : State) (g : SeqSt → SeqSt) : (setSeq s g).bus = s.bus := rfl
@[simp] theorem setSeq_net (s : State) (g : SeqSt → SeqSt) : (setSeq s g).net = s.net := rfl
@[simp] theorem setSeq_storeQ (s : State) (g : SeqSt → SeqSt) : (setSeq s g).storeQ = s.storeQ := rfl
@[simp] theorem setSeq_appDown (s : State) (g : SeqSt → SeqSt) : (setSeq s g).appDown = s.appDown := rfl
@[simp] theorem setSeq_mgmtDown (s : State) (g : SeqSt → SeqSt) : (setSeq s g).mgmtDown = s.mgmtDown := rfl
@[simp] theorem setSeq_pairs (s : State) (g : SeqSt → SeqSt) : (setSeq s g).pairs = s.pairs := rfl
@[simp] theorem setSeq_plant (s : State) (g : SeqSt → SeqSt) : (setSeq s g).plant = s.plant := rfl
@[simp] theorem setSeq_paths (s : State) (g : SeqSt → SeqSt) : (setSeq s g).paths = s.paths := rfl
@[simp] theorem setSeq_diel (s : State) (g : SeqSt → SeqSt) : (setSeq s g).diel = s.diel := rfl
@[simp] theorem setSeq_nand (s : State) (g : SeqSt → SeqSt) : (setSeq s g).nand = s.nand := rfl
@[simp] theorem setSeq_factory (s : State) (g : SeqSt → SeqSt) : (setSeq s g).factory = s.factory := rfl
@[simp] theorem setSeq_straps (s : State) (g : SeqSt → SeqSt) : (setSeq s g).straps = s.straps := rfl
@[simp] theorem setSeq_supply (s : State) (g : SeqSt → SeqSt) : (setSeq s g).supply = s.supply := rfl
@[simp] theorem setSeq_winter (s : State) (g : SeqSt → SeqSt) : (setSeq s g).winter = s.winter := rfl
@[simp] theorem setSeq_boot (s : State) (g : SeqSt → SeqSt) : (setSeq s g).boot = s.boot := rfl
@[simp] theorem setSeq_sec (s : State) (g : SeqSt → SeqSt) : (setSeq s g).sec = s.sec := rfl
@[simp] theorem setSeq_enc (s : State) (g : SeqSt → SeqSt) : (setSeq s g).enc = s.enc := rfl
@[simp] theorem setSeq_badChans (s : State) (g : SeqSt → SeqSt) : (setSeq s g).badChans = s.badChans := rfl
@[simp] theorem setSeq_badArchive (s : State) (g : SeqSt → SeqSt) : (setSeq s g).badArchive = s.badArchive := rfl
@[simp] theorem setSeq_dues (s : State) (g : SeqSt → SeqSt) : (setSeq s g).dues = s.dues := rfl
@[simp] theorem setSeq_fresh (s : State) (g : SeqSt → SeqSt) : (setSeq s g).fresh = s.fresh := rfl
@[simp] theorem setSeq_pending (s : State) (g : SeqSt → SeqSt) : (setSeq s g).pending = s.pending := rfl
@[simp] theorem setSeq_ob (s : State) (g : SeqSt → SeqSt) (j : Nat) : (setSeq s g).ob j = s.ob j := rfl

/-! ### setPlant -/

@[simp] theorem setPlant_phase (s : State) (g : PlantSt → PlantSt) : (setPlant s g).phase = s.phase := rfl
@[simp] theorem setPlant_osc (s : State) (g : PlantSt → PlantSt) : (setPlant s g).osc = s.osc := rfl
@[simp] theorem setPlant_wc (s : State) (g : PlantSt → PlantSt) : (setPlant s g).wc = s.wc := rfl
@[simp] theorem setPlant_tickWc (s : State) (g : PlantSt → PlantSt) : (setPlant s g).tickWc = s.tickWc := rfl
@[simp] theorem setPlant_ticks (s : State) (g : PlantSt → PlantSt) : (setPlant s g).ticks = s.ticks := rfl
@[simp] theorem setPlant_objs (s : State) (g : PlantSt → PlantSt) : (setPlant s g).objs = s.objs := rfl
@[simp] theorem setPlant_strs (s : State) (g : PlantSt → PlantSt) : (setPlant s g).strs = s.strs := rfl
@[simp] theorem setPlant_router (s : State) (g : PlantSt → PlantSt) : (setPlant s g).router = s.router := rfl
@[simp] theorem setPlant_staging (s : State) (g : PlantSt → PlantSt) : (setPlant s g).staging = s.staging := rfl
@[simp] theorem setPlant_trips (s : State) (g : PlantSt → PlantSt) : (setPlant s g).trips = s.trips := rfl
@[simp] theorem setPlant_check (s : State) (g : PlantSt → PlantSt) : (setPlant s g).check = s.check := rfl
@[simp] theorem setPlant_operateDue (s : State) (g : PlantSt → PlantSt) : (setPlant s g).operateDue = s.operateDue := rfl
@[simp] theorem setPlant_entries (s : State) (g : PlantSt → PlantSt) : (setPlant s g).entries = s.entries := rfl
@[simp] theorem setPlant_late (s : State) (g : PlantSt → PlantSt) : (setPlant s g).late = s.late := rfl
@[simp] theorem setPlant_gc (s : State) (g : PlantSt → PlantSt) : (setPlant s g).gc = s.gc := rfl
@[simp] theorem setPlant_mp (s : State) (g : PlantSt → PlantSt) : (setPlant s g).mp = s.mp := rfl
@[simp] theorem setPlant_wcs (s : State) (g : PlantSt → PlantSt) : (setPlant s g).wcs = s.wcs := rfl
@[simp] theorem setPlant_link (s : State) (g : PlantSt → PlantSt) : (setPlant s g).link = s.link := rfl
@[simp] theorem setPlant_pins (s : State) (g : PlantSt → PlantSt) : (setPlant s g).pins = s.pins := rfl
@[simp] theorem setPlant_groups (s : State) (g : PlantSt → PlantSt) : (setPlant s g).groups = s.groups := rfl
@[simp] theorem setPlant_safeCopy (s : State) (g : PlantSt → PlantSt) : (setPlant s g).safeCopy = s.safeCopy := rfl
@[simp] theorem setPlant_safeCrc (s : State) (g : PlantSt → PlantSt) : (setPlant s g).safeCrc = s.safeCrc := rfl
@[simp] theorem setPlant_linesHeld (s : State) (g : PlantSt → PlantSt) : (setPlant s g).linesHeld = s.linesHeld := rfl
@[simp] theorem setPlant_silenceEv (s : State) (g : PlantSt → PlantSt) : (setPlant s g).silenceEv = s.silenceEv := rfl
@[simp] theorem setPlant_silenceAt (s : State) (g : PlantSt → PlantSt) : (setPlant s g).silenceAt = s.silenceAt := rfl
@[simp] theorem setPlant_ai (s : State) (g : PlantSt → PlantSt) : (setPlant s g).ai = s.ai := rfl
@[simp] theorem setPlant_ao (s : State) (g : PlantSt → PlantSt) : (setPlant s g).ao = s.ao := rfl
@[simp] theorem setPlant_rt (s : State) (g : PlantSt → PlantSt) : (setPlant s g).rt = s.rt := rfl
@[simp] theorem setPlant_fans (s : State) (g : PlantSt → PlantSt) : (setPlant s g).fans = s.fans := rfl
@[simp] theorem setPlant_therm (s : State) (g : PlantSt → PlantSt) : (setPlant s g).therm = s.therm := rfl
@[simp] theorem setPlant_cache (s : State) (g : PlantSt → PlantSt) : (setPlant s g).cache = s.cache := rfl
@[simp] theorem setPlant_pinned (s : State) (g : PlantSt → PlantSt) : (setPlant s g).pinned = s.pinned := rfl
@[simp] theorem setPlant_sources (s : State) (g : PlantSt → PlantSt) : (setPlant s g).sources = s.sources := rfl
@[simp] theorem setPlant_loops (s : State) (g : PlantSt → PlantSt) : (setPlant s g).loops = s.loops := rfl
@[simp] theorem setPlant_queue (s : State) (g : PlantSt → PlantSt) : (setPlant s g).queue = s.queue := rfl
@[simp] theorem setPlant_service (s : State) (g : PlantSt → PlantSt) : (setPlant s g).service = s.service := rfl
@[simp] theorem setPlant_engines (s : State) (g : PlantSt → PlantSt) : (setPlant s g).engines = s.engines := rfl
@[simp] theorem setPlant_satTimes (s : State) (g : PlantSt → PlantSt) : (setPlant s g).satTimes = s.satTimes := rfl
@[simp] theorem setPlant_loads (s : State) (g : PlantSt → PlantSt) : (setPlant s g).loads = s.loads := rfl
@[simp] theorem setPlant_inj (s : State) (g : PlantSt → PlantSt) : (setPlant s g).inj = s.inj := rfl
@[simp] theorem setPlant_traces (s : State) (g : PlantSt → PlantSt) : (setPlant s g).traces = s.traces := rfl
@[simp] theorem setPlant_bus (s : State) (g : PlantSt → PlantSt) : (setPlant s g).bus = s.bus := rfl
@[simp] theorem setPlant_net (s : State) (g : PlantSt → PlantSt) : (setPlant s g).net = s.net := rfl
@[simp] theorem setPlant_storeQ (s : State) (g : PlantSt → PlantSt) : (setPlant s g).storeQ = s.storeQ := rfl
@[simp] theorem setPlant_appDown (s : State) (g : PlantSt → PlantSt) : (setPlant s g).appDown = s.appDown := rfl
@[simp] theorem setPlant_mgmtDown (s : State) (g : PlantSt → PlantSt) : (setPlant s g).mgmtDown = s.mgmtDown := rfl
@[simp] theorem setPlant_pairs (s : State) (g : PlantSt → PlantSt) : (setPlant s g).pairs = s.pairs := rfl
@[simp] theorem setPlant_paths (s : State) (g : PlantSt → PlantSt) : (setPlant s g).paths = s.paths := rfl
@[simp] theorem setPlant_diel (s : State) (g : PlantSt → PlantSt) : (setPlant s g).diel = s.diel := rfl
@[simp] theorem setPlant_seq (s : State) (g : PlantSt → PlantSt) : (setPlant s g).seq = s.seq := rfl
@[simp] theorem setPlant_nand (s : State) (g : PlantSt → PlantSt) : (setPlant s g).nand = s.nand := rfl
@[simp] theorem setPlant_factory (s : State) (g : PlantSt → PlantSt) : (setPlant s g).factory = s.factory := rfl
@[simp] theorem setPlant_straps (s : State) (g : PlantSt → PlantSt) : (setPlant s g).straps = s.straps := rfl
@[simp] theorem setPlant_supply (s : State) (g : PlantSt → PlantSt) : (setPlant s g).supply = s.supply := rfl
@[simp] theorem setPlant_winter (s : State) (g : PlantSt → PlantSt) : (setPlant s g).winter = s.winter := rfl
@[simp] theorem setPlant_boot (s : State) (g : PlantSt → PlantSt) : (setPlant s g).boot = s.boot := rfl
@[simp] theorem setPlant_sec (s : State) (g : PlantSt → PlantSt) : (setPlant s g).sec = s.sec := rfl
@[simp] theorem setPlant_enc (s : State) (g : PlantSt → PlantSt) : (setPlant s g).enc = s.enc := rfl
@[simp] theorem setPlant_badChans (s : State) (g : PlantSt → PlantSt) : (setPlant s g).badChans = s.badChans := rfl
@[simp] theorem setPlant_badArchive (s : State) (g : PlantSt → PlantSt) : (setPlant s g).badArchive = s.badArchive := rfl
@[simp] theorem setPlant_dues (s : State) (g : PlantSt → PlantSt) : (setPlant s g).dues = s.dues := rfl
@[simp] theorem setPlant_fresh (s : State) (g : PlantSt → PlantSt) : (setPlant s g).fresh = s.fresh := rfl
@[simp] theorem setPlant_pending (s : State) (g : PlantSt → PlantSt) : (setPlant s g).pending = s.pending := rfl
@[simp] theorem setPlant_ob (s : State) (g : PlantSt → PlantSt) (j : Nat) : (setPlant s g).ob j = s.ob j := rfl

/-! ### setPath -/

@[simp] theorem setPath_phase (s : State) (p : Nat) (g : PathSt → PathSt) : (setPath s p g).phase = s.phase := rfl
@[simp] theorem setPath_osc (s : State) (p : Nat) (g : PathSt → PathSt) : (setPath s p g).osc = s.osc := rfl
@[simp] theorem setPath_wc (s : State) (p : Nat) (g : PathSt → PathSt) : (setPath s p g).wc = s.wc := rfl
@[simp] theorem setPath_tickWc (s : State) (p : Nat) (g : PathSt → PathSt) : (setPath s p g).tickWc = s.tickWc := rfl
@[simp] theorem setPath_ticks (s : State) (p : Nat) (g : PathSt → PathSt) : (setPath s p g).ticks = s.ticks := rfl
@[simp] theorem setPath_objs (s : State) (p : Nat) (g : PathSt → PathSt) : (setPath s p g).objs = s.objs := rfl
@[simp] theorem setPath_strs (s : State) (p : Nat) (g : PathSt → PathSt) : (setPath s p g).strs = s.strs := rfl
@[simp] theorem setPath_router (s : State) (p : Nat) (g : PathSt → PathSt) : (setPath s p g).router = s.router := rfl
@[simp] theorem setPath_staging (s : State) (p : Nat) (g : PathSt → PathSt) : (setPath s p g).staging = s.staging := rfl
@[simp] theorem setPath_trips (s : State) (p : Nat) (g : PathSt → PathSt) : (setPath s p g).trips = s.trips := rfl
@[simp] theorem setPath_check (s : State) (p : Nat) (g : PathSt → PathSt) : (setPath s p g).check = s.check := rfl
@[simp] theorem setPath_operateDue (s : State) (p : Nat) (g : PathSt → PathSt) : (setPath s p g).operateDue = s.operateDue := rfl
@[simp] theorem setPath_entries (s : State) (p : Nat) (g : PathSt → PathSt) : (setPath s p g).entries = s.entries := rfl
@[simp] theorem setPath_late (s : State) (p : Nat) (g : PathSt → PathSt) : (setPath s p g).late = s.late := rfl
@[simp] theorem setPath_gc (s : State) (p : Nat) (g : PathSt → PathSt) : (setPath s p g).gc = s.gc := rfl
@[simp] theorem setPath_mp (s : State) (p : Nat) (g : PathSt → PathSt) : (setPath s p g).mp = s.mp := rfl
@[simp] theorem setPath_wcs (s : State) (p : Nat) (g : PathSt → PathSt) : (setPath s p g).wcs = s.wcs := rfl
@[simp] theorem setPath_link (s : State) (p : Nat) (g : PathSt → PathSt) : (setPath s p g).link = s.link := rfl
@[simp] theorem setPath_pins (s : State) (p : Nat) (g : PathSt → PathSt) : (setPath s p g).pins = s.pins := rfl
@[simp] theorem setPath_groups (s : State) (p : Nat) (g : PathSt → PathSt) : (setPath s p g).groups = s.groups := rfl
@[simp] theorem setPath_safeCopy (s : State) (p : Nat) (g : PathSt → PathSt) : (setPath s p g).safeCopy = s.safeCopy := rfl
@[simp] theorem setPath_safeCrc (s : State) (p : Nat) (g : PathSt → PathSt) : (setPath s p g).safeCrc = s.safeCrc := rfl
@[simp] theorem setPath_linesHeld (s : State) (p : Nat) (g : PathSt → PathSt) : (setPath s p g).linesHeld = s.linesHeld := rfl
@[simp] theorem setPath_silenceEv (s : State) (p : Nat) (g : PathSt → PathSt) : (setPath s p g).silenceEv = s.silenceEv := rfl
@[simp] theorem setPath_silenceAt (s : State) (p : Nat) (g : PathSt → PathSt) : (setPath s p g).silenceAt = s.silenceAt := rfl
@[simp] theorem setPath_ai (s : State) (p : Nat) (g : PathSt → PathSt) : (setPath s p g).ai = s.ai := rfl
@[simp] theorem setPath_ao (s : State) (p : Nat) (g : PathSt → PathSt) : (setPath s p g).ao = s.ao := rfl
@[simp] theorem setPath_rt (s : State) (p : Nat) (g : PathSt → PathSt) : (setPath s p g).rt = s.rt := rfl
@[simp] theorem setPath_fans (s : State) (p : Nat) (g : PathSt → PathSt) : (setPath s p g).fans = s.fans := rfl
@[simp] theorem setPath_therm (s : State) (p : Nat) (g : PathSt → PathSt) : (setPath s p g).therm = s.therm := rfl
@[simp] theorem setPath_cache (s : State) (p : Nat) (g : PathSt → PathSt) : (setPath s p g).cache = s.cache := rfl
@[simp] theorem setPath_pinned (s : State) (p : Nat) (g : PathSt → PathSt) : (setPath s p g).pinned = s.pinned := rfl
@[simp] theorem setPath_sources (s : State) (p : Nat) (g : PathSt → PathSt) : (setPath s p g).sources = s.sources := rfl
@[simp] theorem setPath_loops (s : State) (p : Nat) (g : PathSt → PathSt) : (setPath s p g).loops = s.loops := rfl
@[simp] theorem setPath_queue (s : State) (p : Nat) (g : PathSt → PathSt) : (setPath s p g).queue = s.queue := rfl
@[simp] theorem setPath_service (s : State) (p : Nat) (g : PathSt → PathSt) : (setPath s p g).service = s.service := rfl
@[simp] theorem setPath_engines (s : State) (p : Nat) (g : PathSt → PathSt) : (setPath s p g).engines = s.engines := rfl
@[simp] theorem setPath_satTimes (s : State) (p : Nat) (g : PathSt → PathSt) : (setPath s p g).satTimes = s.satTimes := rfl
@[simp] theorem setPath_loads (s : State) (p : Nat) (g : PathSt → PathSt) : (setPath s p g).loads = s.loads := rfl
@[simp] theorem setPath_inj (s : State) (p : Nat) (g : PathSt → PathSt) : (setPath s p g).inj = s.inj := rfl
@[simp] theorem setPath_traces (s : State) (p : Nat) (g : PathSt → PathSt) : (setPath s p g).traces = s.traces := rfl
@[simp] theorem setPath_bus (s : State) (p : Nat) (g : PathSt → PathSt) : (setPath s p g).bus = s.bus := rfl
@[simp] theorem setPath_net (s : State) (p : Nat) (g : PathSt → PathSt) : (setPath s p g).net = s.net := rfl
@[simp] theorem setPath_storeQ (s : State) (p : Nat) (g : PathSt → PathSt) : (setPath s p g).storeQ = s.storeQ := rfl
@[simp] theorem setPath_appDown (s : State) (p : Nat) (g : PathSt → PathSt) : (setPath s p g).appDown = s.appDown := rfl
@[simp] theorem setPath_mgmtDown (s : State) (p : Nat) (g : PathSt → PathSt) : (setPath s p g).mgmtDown = s.mgmtDown := rfl
@[simp] theorem setPath_pairs (s : State) (p : Nat) (g : PathSt → PathSt) : (setPath s p g).pairs = s.pairs := rfl
@[simp] theorem setPath_plant (s : State) (p : Nat) (g : PathSt → PathSt) : (setPath s p g).plant = s.plant := rfl
@[simp] theorem setPath_diel (s : State) (p : Nat) (g : PathSt → PathSt) : (setPath s p g).diel = s.diel := rfl
@[simp] theorem setPath_seq (s : State) (p : Nat) (g : PathSt → PathSt) : (setPath s p g).seq = s.seq := rfl
@[simp] theorem setPath_nand (s : State) (p : Nat) (g : PathSt → PathSt) : (setPath s p g).nand = s.nand := rfl
@[simp] theorem setPath_factory (s : State) (p : Nat) (g : PathSt → PathSt) : (setPath s p g).factory = s.factory := rfl
@[simp] theorem setPath_straps (s : State) (p : Nat) (g : PathSt → PathSt) : (setPath s p g).straps = s.straps := rfl
@[simp] theorem setPath_supply (s : State) (p : Nat) (g : PathSt → PathSt) : (setPath s p g).supply = s.supply := rfl
@[simp] theorem setPath_winter (s : State) (p : Nat) (g : PathSt → PathSt) : (setPath s p g).winter = s.winter := rfl
@[simp] theorem setPath_boot (s : State) (p : Nat) (g : PathSt → PathSt) : (setPath s p g).boot = s.boot := rfl
@[simp] theorem setPath_sec (s : State) (p : Nat) (g : PathSt → PathSt) : (setPath s p g).sec = s.sec := rfl
@[simp] theorem setPath_enc (s : State) (p : Nat) (g : PathSt → PathSt) : (setPath s p g).enc = s.enc := rfl
@[simp] theorem setPath_badChans (s : State) (p : Nat) (g : PathSt → PathSt) : (setPath s p g).badChans = s.badChans := rfl
@[simp] theorem setPath_badArchive (s : State) (p : Nat) (g : PathSt → PathSt) : (setPath s p g).badArchive = s.badArchive := rfl
@[simp] theorem setPath_dues (s : State) (p : Nat) (g : PathSt → PathSt) : (setPath s p g).dues = s.dues := rfl
@[simp] theorem setPath_fresh (s : State) (p : Nat) (g : PathSt → PathSt) : (setPath s p g).fresh = s.fresh := rfl
@[simp] theorem setPath_pending (s : State) (p : Nat) (g : PathSt → PathSt) : (setPath s p g).pending = s.pending := rfl
@[simp] theorem setPath_ob (s : State) (p : Nat) (g : PathSt → PathSt) (j : Nat) : (setPath s p g).ob j = s.ob j := rfl

/-! ### setPairs -/

@[simp] theorem setPairs_phase (s : State) (g : PairSt → PairSt) : (setPairs s g).phase = s.phase := rfl
@[simp] theorem setPairs_osc (s : State) (g : PairSt → PairSt) : (setPairs s g).osc = s.osc := rfl
@[simp] theorem setPairs_wc (s : State) (g : PairSt → PairSt) : (setPairs s g).wc = s.wc := rfl
@[simp] theorem setPairs_tickWc (s : State) (g : PairSt → PairSt) : (setPairs s g).tickWc = s.tickWc := rfl
@[simp] theorem setPairs_ticks (s : State) (g : PairSt → PairSt) : (setPairs s g).ticks = s.ticks := rfl
@[simp] theorem setPairs_objs (s : State) (g : PairSt → PairSt) : (setPairs s g).objs = s.objs := rfl
@[simp] theorem setPairs_strs (s : State) (g : PairSt → PairSt) : (setPairs s g).strs = s.strs := rfl
@[simp] theorem setPairs_router (s : State) (g : PairSt → PairSt) : (setPairs s g).router = s.router := rfl
@[simp] theorem setPairs_staging (s : State) (g : PairSt → PairSt) : (setPairs s g).staging = s.staging := rfl
@[simp] theorem setPairs_trips (s : State) (g : PairSt → PairSt) : (setPairs s g).trips = s.trips := rfl
@[simp] theorem setPairs_check (s : State) (g : PairSt → PairSt) : (setPairs s g).check = s.check := rfl
@[simp] theorem setPairs_operateDue (s : State) (g : PairSt → PairSt) : (setPairs s g).operateDue = s.operateDue := rfl
@[simp] theorem setPairs_entries (s : State) (g : PairSt → PairSt) : (setPairs s g).entries = s.entries := rfl
@[simp] theorem setPairs_late (s : State) (g : PairSt → PairSt) : (setPairs s g).late = s.late := rfl
@[simp] theorem setPairs_gc (s : State) (g : PairSt → PairSt) : (setPairs s g).gc = s.gc := rfl
@[simp] theorem setPairs_mp (s : State) (g : PairSt → PairSt) : (setPairs s g).mp = s.mp := rfl
@[simp] theorem setPairs_wcs (s : State) (g : PairSt → PairSt) : (setPairs s g).wcs = s.wcs := rfl
@[simp] theorem setPairs_link (s : State) (g : PairSt → PairSt) : (setPairs s g).link = s.link := rfl
@[simp] theorem setPairs_pins (s : State) (g : PairSt → PairSt) : (setPairs s g).pins = s.pins := rfl
@[simp] theorem setPairs_groups (s : State) (g : PairSt → PairSt) : (setPairs s g).groups = s.groups := rfl
@[simp] theorem setPairs_safeCopy (s : State) (g : PairSt → PairSt) : (setPairs s g).safeCopy = s.safeCopy := rfl
@[simp] theorem setPairs_safeCrc (s : State) (g : PairSt → PairSt) : (setPairs s g).safeCrc = s.safeCrc := rfl
@[simp] theorem setPairs_linesHeld (s : State) (g : PairSt → PairSt) : (setPairs s g).linesHeld = s.linesHeld := rfl
@[simp] theorem setPairs_silenceEv (s : State) (g : PairSt → PairSt) : (setPairs s g).silenceEv = s.silenceEv := rfl
@[simp] theorem setPairs_silenceAt (s : State) (g : PairSt → PairSt) : (setPairs s g).silenceAt = s.silenceAt := rfl
@[simp] theorem setPairs_ai (s : State) (g : PairSt → PairSt) : (setPairs s g).ai = s.ai := rfl
@[simp] theorem setPairs_ao (s : State) (g : PairSt → PairSt) : (setPairs s g).ao = s.ao := rfl
@[simp] theorem setPairs_rt (s : State) (g : PairSt → PairSt) : (setPairs s g).rt = s.rt := rfl
@[simp] theorem setPairs_fans (s : State) (g : PairSt → PairSt) : (setPairs s g).fans = s.fans := rfl
@[simp] theorem setPairs_therm (s : State) (g : PairSt → PairSt) : (setPairs s g).therm = s.therm := rfl
@[simp] theorem setPairs_cache (s : State) (g : PairSt → PairSt) : (setPairs s g).cache = s.cache := rfl
@[simp] theorem setPairs_pinned (s : State) (g : PairSt → PairSt) : (setPairs s g).pinned = s.pinned := rfl
@[simp] theorem setPairs_sources (s : State) (g : PairSt → PairSt) : (setPairs s g).sources = s.sources := rfl
@[simp] theorem setPairs_loops (s : State) (g : PairSt → PairSt) : (setPairs s g).loops = s.loops := rfl
@[simp] theorem setPairs_queue (s : State) (g : PairSt → PairSt) : (setPairs s g).queue = s.queue := rfl
@[simp] theorem setPairs_service (s : State) (g : PairSt → PairSt) : (setPairs s g).service = s.service := rfl
@[simp] theorem setPairs_engines (s : State) (g : PairSt → PairSt) : (setPairs s g).engines = s.engines := rfl
@[simp] theorem setPairs_satTimes (s : State) (g : PairSt → PairSt) : (setPairs s g).satTimes = s.satTimes := rfl
@[simp] theorem setPairs_loads (s : State) (g : PairSt → PairSt) : (setPairs s g).loads = s.loads := rfl
@[simp] theorem setPairs_inj (s : State) (g : PairSt → PairSt) : (setPairs s g).inj = s.inj := rfl
@[simp] theorem setPairs_traces (s : State) (g : PairSt → PairSt) : (setPairs s g).traces = s.traces := rfl
@[simp] theorem setPairs_bus (s : State) (g : PairSt → PairSt) : (setPairs s g).bus = s.bus := rfl
@[simp] theorem setPairs_net (s : State) (g : PairSt → PairSt) : (setPairs s g).net = s.net := rfl
@[simp] theorem setPairs_storeQ (s : State) (g : PairSt → PairSt) : (setPairs s g).storeQ = s.storeQ := rfl
@[simp] theorem setPairs_appDown (s : State) (g : PairSt → PairSt) : (setPairs s g).appDown = s.appDown := rfl
@[simp] theorem setPairs_mgmtDown (s : State) (g : PairSt → PairSt) : (setPairs s g).mgmtDown = s.mgmtDown := rfl
@[simp] theorem setPairs_plant (s : State) (g : PairSt → PairSt) : (setPairs s g).plant = s.plant := rfl
@[simp] theorem setPairs_paths (s : State) (g : PairSt → PairSt) : (setPairs s g).paths = s.paths := rfl
@[simp] theorem setPairs_diel (s : State) (g : PairSt → PairSt) : (setPairs s g).diel = s.diel := rfl
@[simp] theorem setPairs_seq (s : State) (g : PairSt → PairSt) : (setPairs s g).seq = s.seq := rfl
@[simp] theorem setPairs_nand (s : State) (g : PairSt → PairSt) : (setPairs s g).nand = s.nand := rfl
@[simp] theorem setPairs_factory (s : State) (g : PairSt → PairSt) : (setPairs s g).factory = s.factory := rfl
@[simp] theorem setPairs_straps (s : State) (g : PairSt → PairSt) : (setPairs s g).straps = s.straps := rfl
@[simp] theorem setPairs_supply (s : State) (g : PairSt → PairSt) : (setPairs s g).supply = s.supply := rfl
@[simp] theorem setPairs_winter (s : State) (g : PairSt → PairSt) : (setPairs s g).winter = s.winter := rfl
@[simp] theorem setPairs_boot (s : State) (g : PairSt → PairSt) : (setPairs s g).boot = s.boot := rfl
@[simp] theorem setPairs_sec (s : State) (g : PairSt → PairSt) : (setPairs s g).sec = s.sec := rfl
@[simp] theorem setPairs_enc (s : State) (g : PairSt → PairSt) : (setPairs s g).enc = s.enc := rfl
@[simp] theorem setPairs_badChans (s : State) (g : PairSt → PairSt) : (setPairs s g).badChans = s.badChans := rfl
@[simp] theorem setPairs_badArchive (s : State) (g : PairSt → PairSt) : (setPairs s g).badArchive = s.badArchive := rfl
@[simp] theorem setPairs_dues (s : State) (g : PairSt → PairSt) : (setPairs s g).dues = s.dues := rfl
@[simp] theorem setPairs_fresh (s : State) (g : PairSt → PairSt) : (setPairs s g).fresh = s.fresh := rfl
@[simp] theorem setPairs_pending (s : State) (g : PairSt → PairSt) : (setPairs s g).pending = s.pending := rfl
@[simp] theorem setPairs_ob (s : State) (g : PairSt → PairSt) (j : Nat) : (setPairs s g).ob j = s.ob j := rfl

/-! ### setLoop -/

@[simp] theorem setLoop_phase (s : State) (l : LoopSt) : (setLoop s l).phase = s.phase := rfl
@[simp] theorem setLoop_osc (s : State) (l : LoopSt) : (setLoop s l).osc = s.osc := rfl
@[simp] theorem setLoop_wc (s : State) (l : LoopSt) : (setLoop s l).wc = s.wc := rfl
@[simp] theorem setLoop_tickWc (s : State) (l : LoopSt) : (setLoop s l).tickWc = s.tickWc := rfl
@[simp] theorem setLoop_ticks (s : State) (l : LoopSt) : (setLoop s l).ticks = s.ticks := rfl
@[simp] theorem setLoop_objs (s : State) (l : LoopSt) : (setLoop s l).objs = s.objs := rfl
@[simp] theorem setLoop_strs (s : State) (l : LoopSt) : (setLoop s l).strs = s.strs := rfl
@[simp] theorem setLoop_router (s : State) (l : LoopSt) : (setLoop s l).router = s.router := rfl
@[simp] theorem setLoop_staging (s : State) (l : LoopSt) : (setLoop s l).staging = s.staging := rfl
@[simp] theorem setLoop_trips (s : State) (l : LoopSt) : (setLoop s l).trips = s.trips := rfl
@[simp] theorem setLoop_check (s : State) (l : LoopSt) : (setLoop s l).check = s.check := rfl
@[simp] theorem setLoop_operateDue (s : State) (l : LoopSt) : (setLoop s l).operateDue = s.operateDue := rfl
@[simp] theorem setLoop_entries (s : State) (l : LoopSt) : (setLoop s l).entries = s.entries := rfl
@[simp] theorem setLoop_late (s : State) (l : LoopSt) : (setLoop s l).late = s.late := rfl
@[simp] theorem setLoop_gc (s : State) (l : LoopSt) : (setLoop s l).gc = s.gc := rfl
@[simp] theorem setLoop_mp (s : State) (l : LoopSt) : (setLoop s l).mp = s.mp := rfl
@[simp] theorem setLoop_wcs (s : State) (l : LoopSt) : (setLoop s l).wcs = s.wcs := rfl
@[simp] theorem setLoop_link (s : State) (l : LoopSt) : (setLoop s l).link = s.link := rfl
@[simp] theorem setLoop_pins (s : State) (l : LoopSt) : (setLoop s l).pins = s.pins := rfl
@[simp] theorem setLoop_groups (s : State) (l : LoopSt) : (setLoop s l).groups = s.groups := rfl
@[simp] theorem setLoop_safeCopy (s : State) (l : LoopSt) : (setLoop s l).safeCopy = s.safeCopy := rfl
@[simp] theorem setLoop_safeCrc (s : State) (l : LoopSt) : (setLoop s l).safeCrc = s.safeCrc := rfl
@[simp] theorem setLoop_linesHeld (s : State) (l : LoopSt) : (setLoop s l).linesHeld = s.linesHeld := rfl
@[simp] theorem setLoop_silenceEv (s : State) (l : LoopSt) : (setLoop s l).silenceEv = s.silenceEv := rfl
@[simp] theorem setLoop_silenceAt (s : State) (l : LoopSt) : (setLoop s l).silenceAt = s.silenceAt := rfl
@[simp] theorem setLoop_ai (s : State) (l : LoopSt) : (setLoop s l).ai = s.ai := rfl
@[simp] theorem setLoop_ao (s : State) (l : LoopSt) : (setLoop s l).ao = s.ao := rfl
@[simp] theorem setLoop_rt (s : State) (l : LoopSt) : (setLoop s l).rt = s.rt := rfl
@[simp] theorem setLoop_fans (s : State) (l : LoopSt) : (setLoop s l).fans = s.fans := rfl
@[simp] theorem setLoop_therm (s : State) (l : LoopSt) : (setLoop s l).therm = s.therm := rfl
@[simp] theorem setLoop_cache (s : State) (l : LoopSt) : (setLoop s l).cache = s.cache := rfl
@[simp] theorem setLoop_pinned (s : State) (l : LoopSt) : (setLoop s l).pinned = s.pinned := rfl
@[simp] theorem setLoop_sources (s : State) (l : LoopSt) : (setLoop s l).sources = s.sources := rfl
@[simp] theorem setLoop_queue (s : State) (l : LoopSt) : (setLoop s l).queue = s.queue := rfl
@[simp] theorem setLoop_service (s : State) (l : LoopSt) : (setLoop s l).service = s.service := rfl
@[simp] theorem setLoop_engines (s : State) (l : LoopSt) : (setLoop s l).engines = s.engines := rfl
@[simp] theorem setLoop_satTimes (s : State) (l : LoopSt) : (setLoop s l).satTimes = s.satTimes := rfl
@[simp] theorem setLoop_loads (s : State) (l : LoopSt) : (setLoop s l).loads = s.loads := rfl
@[simp] theorem setLoop_inj (s : State) (l : LoopSt) : (setLoop s l).inj = s.inj := rfl
@[simp] theorem setLoop_traces (s : State) (l : LoopSt) : (setLoop s l).traces = s.traces := rfl
@[simp] theorem setLoop_bus (s : State) (l : LoopSt) : (setLoop s l).bus = s.bus := rfl
@[simp] theorem setLoop_net (s : State) (l : LoopSt) : (setLoop s l).net = s.net := rfl
@[simp] theorem setLoop_storeQ (s : State) (l : LoopSt) : (setLoop s l).storeQ = s.storeQ := rfl
@[simp] theorem setLoop_appDown (s : State) (l : LoopSt) : (setLoop s l).appDown = s.appDown := rfl
@[simp] theorem setLoop_mgmtDown (s : State) (l : LoopSt) : (setLoop s l).mgmtDown = s.mgmtDown := rfl
@[simp] theorem setLoop_pairs (s : State) (l : LoopSt) : (setLoop s l).pairs = s.pairs := rfl
@[simp] theorem setLoop_plant (s : State) (l : LoopSt) : (setLoop s l).plant = s.plant := rfl
@[simp] theorem setLoop_paths (s : State) (l : LoopSt) : (setLoop s l).paths = s.paths := rfl
@[simp] theorem setLoop_diel (s : State) (l : LoopSt) : (setLoop s l).diel = s.diel := rfl
@[simp] theorem setLoop_seq (s : State) (l : LoopSt) : (setLoop s l).seq = s.seq := rfl
@[simp] theorem setLoop_nand (s : State) (l : LoopSt) : (setLoop s l).nand = s.nand := rfl
@[simp] theorem setLoop_factory (s : State) (l : LoopSt) : (setLoop s l).factory = s.factory := rfl
@[simp] theorem setLoop_straps (s : State) (l : LoopSt) : (setLoop s l).straps = s.straps := rfl
@[simp] theorem setLoop_supply (s : State) (l : LoopSt) : (setLoop s l).supply = s.supply := rfl
@[simp] theorem setLoop_winter (s : State) (l : LoopSt) : (setLoop s l).winter = s.winter := rfl
@[simp] theorem setLoop_boot (s : State) (l : LoopSt) : (setLoop s l).boot = s.boot := rfl
@[simp] theorem setLoop_sec (s : State) (l : LoopSt) : (setLoop s l).sec = s.sec := rfl
@[simp] theorem setLoop_enc (s : State) (l : LoopSt) : (setLoop s l).enc = s.enc := rfl
@[simp] theorem setLoop_badChans (s : State) (l : LoopSt) : (setLoop s l).badChans = s.badChans := rfl
@[simp] theorem setLoop_badArchive (s : State) (l : LoopSt) : (setLoop s l).badArchive = s.badArchive := rfl
@[simp] theorem setLoop_dues (s : State) (l : LoopSt) : (setLoop s l).dues = s.dues := rfl
@[simp] theorem setLoop_fresh (s : State) (l : LoopSt) : (setLoop s l).fresh = s.fresh := rfl
@[simp] theorem setLoop_pending (s : State) (l : LoopSt) : (setLoop s l).pending = s.pending := rfl
@[simp] theorem setLoop_ob (s : State) (l : LoopSt) (j : Nat) : (setLoop s l).ob j = s.ob j := rfl

/-! ### setEntry -/

@[simp] theorem setEntry_phase (s : State) (e : Nat) (d : EntryDyn) : (setEntry s e d).phase = s.phase := rfl
@[simp] theorem setEntry_osc (s : State) (e : Nat) (d : EntryDyn) : (setEntry s e d).osc = s.osc := rfl
@[simp] theorem setEntry_wc (s : State) (e : Nat) (d : EntryDyn) : (setEntry s e d).wc = s.wc := rfl
@[simp] theorem setEntry_tickWc (s : State) (e : Nat) (d : EntryDyn) : (setEntry s e d).tickWc = s.tickWc := rfl
@[simp] theorem setEntry_ticks (s : State) (e : Nat) (d : EntryDyn) : (setEntry s e d).ticks = s.ticks := rfl
@[simp] theorem setEntry_objs (s : State) (e : Nat) (d : EntryDyn) : (setEntry s e d).objs = s.objs := rfl
@[simp] theorem setEntry_strs (s : State) (e : Nat) (d : EntryDyn) : (setEntry s e d).strs = s.strs := rfl
@[simp] theorem setEntry_router (s : State) (e : Nat) (d : EntryDyn) : (setEntry s e d).router = s.router := rfl
@[simp] theorem setEntry_staging (s : State) (e : Nat) (d : EntryDyn) : (setEntry s e d).staging = s.staging := rfl
@[simp] theorem setEntry_trips (s : State) (e : Nat) (d : EntryDyn) : (setEntry s e d).trips = s.trips := rfl
@[simp] theorem setEntry_check (s : State) (e : Nat) (d : EntryDyn) : (setEntry s e d).check = s.check := rfl
@[simp] theorem setEntry_operateDue (s : State) (e : Nat) (d : EntryDyn) : (setEntry s e d).operateDue = s.operateDue := rfl
@[simp] theorem setEntry_late (s : State) (e : Nat) (d : EntryDyn) : (setEntry s e d).late = s.late := rfl
@[simp] theorem setEntry_gc (s : State) (e : Nat) (d : EntryDyn) : (setEntry s e d).gc = s.gc := rfl
@[simp] theorem setEntry_mp (s : State) (e : Nat) (d : EntryDyn) : (setEntry s e d).mp = s.mp := rfl
@[simp] theorem setEntry_wcs (s : State) (e : Nat) (d : EntryDyn) : (setEntry s e d).wcs = s.wcs := rfl
@[simp] theorem setEntry_link (s : State) (e : Nat) (d : EntryDyn) : (setEntry s e d).link = s.link := rfl
@[simp] theorem setEntry_pins (s : State) (e : Nat) (d : EntryDyn) : (setEntry s e d).pins = s.pins := rfl
@[simp] theorem setEntry_groups (s : State) (e : Nat) (d : EntryDyn) : (setEntry s e d).groups = s.groups := rfl
@[simp] theorem setEntry_safeCopy (s : State) (e : Nat) (d : EntryDyn) : (setEntry s e d).safeCopy = s.safeCopy := rfl
@[simp] theorem setEntry_safeCrc (s : State) (e : Nat) (d : EntryDyn) : (setEntry s e d).safeCrc = s.safeCrc := rfl
@[simp] theorem setEntry_linesHeld (s : State) (e : Nat) (d : EntryDyn) : (setEntry s e d).linesHeld = s.linesHeld := rfl
@[simp] theorem setEntry_silenceEv (s : State) (e : Nat) (d : EntryDyn) : (setEntry s e d).silenceEv = s.silenceEv := rfl
@[simp] theorem setEntry_silenceAt (s : State) (e : Nat) (d : EntryDyn) : (setEntry s e d).silenceAt = s.silenceAt := rfl
@[simp] theorem setEntry_ai (s : State) (e : Nat) (d : EntryDyn) : (setEntry s e d).ai = s.ai := rfl
@[simp] theorem setEntry_ao (s : State) (e : Nat) (d : EntryDyn) : (setEntry s e d).ao = s.ao := rfl
@[simp] theorem setEntry_rt (s : State) (e : Nat) (d : EntryDyn) : (setEntry s e d).rt = s.rt := rfl
@[simp] theorem setEntry_fans (s : State) (e : Nat) (d : EntryDyn) : (setEntry s e d).fans = s.fans := rfl
@[simp] theorem setEntry_therm (s : State) (e : Nat) (d : EntryDyn) : (setEntry s e d).therm = s.therm := rfl
@[simp] theorem setEntry_cache (s : State) (e : Nat) (d : EntryDyn) : (setEntry s e d).cache = s.cache := rfl
@[simp] theorem setEntry_pinned (s : State) (e : Nat) (d : EntryDyn) : (setEntry s e d).pinned = s.pinned := rfl
@[simp] theorem setEntry_sources (s : State) (e : Nat) (d : EntryDyn) : (setEntry s e d).sources = s.sources := rfl
@[simp] theorem setEntry_loops (s : State) (e : Nat) (d : EntryDyn) : (setEntry s e d).loops = s.loops := rfl
@[simp] theorem setEntry_queue (s : State) (e : Nat) (d : EntryDyn) : (setEntry s e d).queue = s.queue := rfl
@[simp] theorem setEntry_service (s : State) (e : Nat) (d : EntryDyn) : (setEntry s e d).service = s.service := rfl
@[simp] theorem setEntry_engines (s : State) (e : Nat) (d : EntryDyn) : (setEntry s e d).engines = s.engines := rfl
@[simp] theorem setEntry_satTimes (s : State) (e : Nat) (d : EntryDyn) : (setEntry s e d).satTimes = s.satTimes := rfl
@[simp] theorem setEntry_loads (s : State) (e : Nat) (d : EntryDyn) : (setEntry s e d).loads = s.loads := rfl
@[simp] theorem setEntry_inj (s : State) (e : Nat) (d : EntryDyn) : (setEntry s e d).inj = s.inj := rfl
@[simp] theorem setEntry_traces (s : State) (e : Nat) (d : EntryDyn) : (setEntry s e d).traces = s.traces := rfl
@[simp] theorem setEntry_bus (s : State) (e : Nat) (d : EntryDyn) : (setEntry s e d).bus = s.bus := rfl
@[simp] theorem setEntry_net (s : State) (e : Nat) (d : EntryDyn) : (setEntry s e d).net = s.net := rfl
@[simp] theorem setEntry_storeQ (s : State) (e : Nat) (d : EntryDyn) : (setEntry s e d).storeQ = s.storeQ := rfl
@[simp] theorem setEntry_appDown (s : State) (e : Nat) (d : EntryDyn) : (setEntry s e d).appDown = s.appDown := rfl
@[simp] theorem setEntry_mgmtDown (s : State) (e : Nat) (d : EntryDyn) : (setEntry s e d).mgmtDown = s.mgmtDown := rfl
@[simp] theorem setEntry_pairs (s : State) (e : Nat) (d : EntryDyn) : (setEntry s e d).pairs = s.pairs := rfl
@[simp] theorem setEntry_plant (s : State) (e : Nat) (d : EntryDyn) : (setEntry s e d).plant = s.plant := rfl
@[simp] theorem setEntry_paths (s : State) (e : Nat) (d : EntryDyn) : (setEntry s e d).paths = s.paths := rfl
@[simp] theorem setEntry_diel (s : State) (e : Nat) (d : EntryDyn) : (setEntry s e d).diel = s.diel := rfl
@[simp] theorem setEntry_seq (s : State) (e : Nat) (d : EntryDyn) : (setEntry s e d).seq = s.seq := rfl
@[simp] theorem setEntry_nand (s : State) (e : Nat) (d : EntryDyn) : (setEntry s e d).nand = s.nand := rfl
@[simp] theorem setEntry_factory (s : State) (e : Nat) (d : EntryDyn) : (setEntry s e d).factory = s.factory := rfl
@[simp] theorem setEntry_straps (s : State) (e : Nat) (d : EntryDyn) : (setEntry s e d).straps = s.straps := rfl
@[simp] theorem setEntry_supply (s : State) (e : Nat) (d : EntryDyn) : (setEntry s e d).supply = s.supply := rfl
@[simp] theorem setEntry_winter (s : State) (e : Nat) (d : EntryDyn) : (setEntry s e d).winter = s.winter := rfl
@[simp] theorem setEntry_boot (s : State) (e : Nat) (d : EntryDyn) : (setEntry s e d).boot = s.boot := rfl
@[simp] theorem setEntry_sec (s : State) (e : Nat) (d : EntryDyn) : (setEntry s e d).sec = s.sec := rfl
@[simp] theorem setEntry_enc (s : State) (e : Nat) (d : EntryDyn) : (setEntry s e d).enc = s.enc := rfl
@[simp] theorem setEntry_badChans (s : State) (e : Nat) (d : EntryDyn) : (setEntry s e d).badChans = s.badChans := rfl
@[simp] theorem setEntry_badArchive (s : State) (e : Nat) (d : EntryDyn) : (setEntry s e d).badArchive = s.badArchive := rfl
@[simp] theorem setEntry_dues (s : State) (e : Nat) (d : EntryDyn) : (setEntry s e d).dues = s.dues := rfl
@[simp] theorem setEntry_fresh (s : State) (e : Nat) (d : EntryDyn) : (setEntry s e d).fresh = s.fresh := rfl
@[simp] theorem setEntry_pending (s : State) (e : Nat) (d : EntryDyn) : (setEntry s e d).pending = s.pending := rfl
@[simp] theorem setEntry_ob (s : State) (e : Nat) (d : EntryDyn) (j : Nat) : (setEntry s e d).ob j = s.ob j := rfl

end Sys2Proof.Machine
end

