-- ==== Sys2Proof/Laws/Store.lean ====
section
/-! SUPPORT. The laws of the object store: what a read finds after a write, and that every write keeps the canonical form. -/
namespace Sys2Proof.Machine

/-! ### A read after a write -/

theorem lookCell_setCell_self (l : List (Nat × Nat)) (k v : Nat) : lookCell (setCell l k v) k = some v := by
  induction l with
  | nil => simp [setCell, lookCell]
  | cons c rest ih =>
    unfold setCell
    split
    · simp [lookCell]
    · split
      · simp [lookCell]
      · rename_i h
        have : c.1 ≠ k := fun e => h e.symm
        simp [lookCell, this, ih]

theorem lookCell_setCell_ne (l : List (Nat × Nat)) {k j : Nat} (v : Nat) (h : j ≠ k) : lookCell (setCell l k v) j = lookCell l j := by
  have hk : k ≠ j := fun e => h e.symm
  induction l with
  | nil => simp [setCell, lookCell, hk]
  | cons c rest ih =>
    unfold setCell
    split
    · simp [lookCell, hk]
    · split
      · rename_i hc
        have : c.1 ≠ j := hc ▸ hk
        simp [lookCell, hk, this]
      · simp [lookCell, ih]

theorem lookCell_dropCell_self (l : List (Nat × Nat)) (k : Nat) : lookCell (dropCell l k) k = none := by
  induction l with
  | nil => rfl
  | cons c rest ih =>
    unfold dropCell
    split
    · exact ih
    · rename_i hc
      simp [lookCell, hc, ih]

theorem lookCell_dropCell_ne (l : List (Nat × Nat)) {k j : Nat} (h : j ≠ k) : lookCell (dropCell l k) j = lookCell l j := by
  induction l with
  | nil => rfl
  | cons c rest ih =>
    unfold dropCell
    split
    · rename_i hc
      have : c.1 ≠ j := fun e => h (e ▸ hc)
      simp [lookCell, this, ih]
    · simp [lookCell, ih]

/-- An object that was written reads what was written. -/
@[simp] theorem ob_put_self (s : State) (k v : Nat) : (s.put k v).ob k = v := by
  unfold State.ob State.put putCell
  split
  · rename_i h; simp [lookCell_dropCell_self, h]
  · simp [lookCell_setCell_self]

/-- Every other object reads as before. -/
theorem ob_put_ne (s : State) {k j : Nat} (v : Nat) (h : j ≠ k) : (s.put k v).ob j = s.ob j := by
  unfold State.ob State.put putCell
  split
  · simp only [lookCell_dropCell_ne _ h]
  · simp only [lookCell_setCell_ne _ v h]

theorem ob_put (s : State) (k v j : Nat) : (s.put k v).ob j = if j = k then v else s.ob j := by
  split
  · rename_i h; subst h; exact ob_put_self s j v
  · rename_i h; exact ob_put_ne s v h

theorem lookBytes_setBytes_self (l : List (Nat × List Byte)) (k : Nat) (v : List Byte) : lookBytes (setBytes l k v) k = v := by
  induction l with
  | nil => simp [setBytes, lookBytes]
  | cons c rest ih =>
    unfold setBytes
    split
    · simp [lookBytes]
    · split
      · simp [lookBytes]
      · rename_i h
        have : c.1 ≠ k := fun e => h e.symm
        simp [lookBytes, this, ih]

theorem lookBytes_setBytes_ne (l : List (Nat × List Byte)) {k j : Nat} (v : List Byte) (h : j ≠ k) :
    lookBytes (setBytes l k v) j = lookBytes l j := by
  have hk : k ≠ j := fun e => h e.symm
  induction l with
  | nil => simp [setBytes, lookBytes, hk]
  | cons c rest ih =>
    unfold setBytes
    split
    · simp [lookBytes, hk]
    · split
      · rename_i hc
        have : c.1 ≠ j := hc ▸ hk
        simp [lookBytes, hk, this]
      · simp [lookBytes, ih]

theorem lookBytes_dropBytes_self (l : List (Nat × List Byte)) (k : Nat) : lookBytes (dropBytes l k) k = [] := by
  induction l with
  | nil => rfl
  | cons c rest ih =>
    unfold dropBytes
    split
    · exact ih
    · rename_i hc
      simp [lookBytes, hc, ih]

theorem lookBytes_dropBytes_ne (l : List (Nat × List Byte)) {k j : Nat} (h : j ≠ k) :
    lookBytes (dropBytes l k) j = lookBytes l j := by
  induction l with
  | nil => rfl
  | cons c rest ih =>
    unfold dropBytes
    split
    · rename_i hc
      have : c.1 ≠ j := fun e => h (e ▸ hc)
      simp [lookBytes, this, ih]
    · simp [lookBytes, ih]

@[simp] theorem bytesOf_putBytes_self (s : State) (k : Nat) (v : List Byte) : (s.putBytes k v).bytesOf k = v := by
  unfold State.bytesOf State.putBytes storeBytes
  split
  · rename_i h; simp [lookBytes_dropBytes_self, List.isEmpty_iff.mp h]
  · simp [lookBytes_setBytes_self]

theorem bytesOf_putBytes_ne (s : State) {k j : Nat} (v : List Byte) (h : j ≠ k) : (s.putBytes k v).bytesOf j = s.bytesOf j := by
  unfold State.bytesOf State.putBytes storeBytes
  split
  · simp only [lookBytes_dropBytes_ne _ h]
  · simp only [lookBytes_setBytes_ne _ v h]

/-! ### The canonical form -/

theorem cellsWf_tail {c : Nat × Nat} {rest : List (Nat × Nat)} (h : cellsWf (c :: rest) = true) : cellsWf rest = true := by
  cases rest with
  | nil => rfl
  | cons d r => simp [cellsWf] at h; exact h.2

/-- A list in canonical form, read as its head's value and the keys behind it. -/
theorem cellsWf_cons {c : Nat × Nat} {rest : List (Nat × Nat)} :
    cellsWf (c :: rest) = true ↔ c.2 ≠ dfltOf c.1 ∧ (∀ d ∈ rest.head?, c.1 < d.1) ∧ cellsWf rest = true := by
  cases rest with
  | nil => simp [cellsWf]
  | cons d r => simp [cellsWf]; exact ⟨fun h => ⟨h.1.2, h.1.1, h.2⟩, fun h => ⟨⟨h.2.1, h.1⟩, h.2.2⟩⟩

/-- Every key of a canonical list lies above the head's. -/
theorem cellsWf_lt {c : Nat × Nat} {rest : List (Nat × Nat)} (h : cellsWf (c :: rest) = true) : ∀ d ∈ rest, c.1 < d.1 := by
  induction rest generalizing c with
  | nil => simp
  | cons e r ih =>
    intro d hd
    have h' := cellsWf_cons.mp h
    have he : c.1 < e.1 := h'.2.1 e (by simp)
    cases List.mem_cons.mp hd with
    | inl hh => exact hh ▸ he
    | inr hh => exact Nat.lt_trans he (ih h'.2.2 d hh)

theorem dropCell_mem (l : List (Nat × Nat)) (k : Nat) : ∀ d ∈ dropCell l k, d ∈ l := by
  induction l with
  | nil => simp [dropCell]
  | cons c rest ih =>
    intro d hd
    unfold dropCell at hd
    split at hd
    · exact List.mem_cons_of_mem _ (ih d hd)
    · cases List.mem_cons.mp hd with
      | inl h => exact h ▸ List.mem_cons_self
      | inr h => exact List.mem_cons_of_mem _ (ih d h)

theorem dropCell_wf (l : List (Nat × Nat)) (k : Nat) (h : cellsWf l = true) : cellsWf (dropCell l k) = true := by
  induction l with
  | nil => rfl
  | cons c rest ih =>
    unfold dropCell
    split
    · exact ih (cellsWf_tail h)
    · refine cellsWf_cons.mpr ⟨(cellsWf_cons.mp h).1, ?_, ih (cellsWf_tail h)⟩
      intro d hd
      exact cellsWf_lt h d (dropCell_mem rest k d (List.mem_of_mem_head? hd))

theorem setCell_head (l : List (Nat × Nat)) (k v : Nat) :
    ∀ d ∈ (setCell l k v).head?, d.1 = k ∨ ∃ c ∈ l.head?, d.1 = c.1 := by
  cases l with
  | nil => simp [setCell]
  | cons c rest =>
    intro d hd
    unfold setCell at hd
    split at hd
    · simp at hd; left; rw [← hd]
    · split at hd
      · simp at hd; left; rw [← hd]
      · simp at hd; right; exact ⟨c, by simp, by rw [← hd]⟩

theorem setCell_wf (l : List (Nat × Nat)) (k v : Nat) (hv : v ≠ dfltOf k) (h : cellsWf l = true) :
    cellsWf (setCell l k v) = true := by
  induction l with
  | nil => simp [setCell, cellsWf, hv]
  | cons c rest ih =>
    unfold setCell
    split
    · rename_i hk
      exact cellsWf_cons.mpr ⟨hv, by simpa using hk, h⟩
    · split
      · rename_i _ hk
        have h' := cellsWf_cons.mp h
        exact cellsWf_cons.mpr ⟨hv, by simpa [hk] using h'.2.1, h'.2.2⟩
      · rename_i hlt hne
        have h' := cellsWf_cons.mp h
        refine cellsWf_cons.mpr ⟨h'.1, ?_, ih h'.2.2⟩
        intro d hd
        rcases setCell_head rest k v d hd with e | ⟨e, he, hde⟩
        · omega
        · have := h'.2.1 e he; omega

/-- Writing any object keeps the store in canonical form. -/
theorem put_keeps_cellsWf (s : State) (k v : Nat) (h : cellsWf s.objs = true) : cellsWf (s.put k v).objs = true := by
  show cellsWf (putCell s.objs k v) = true
  unfold putCell
  split
  · exact dropCell_wf _ _ h
  · rename_i hv; exact setCell_wf _ _ _ hv h

theorem bytesWf_cons {c : Nat × List Byte} {rest : List (Nat × List Byte)} :
    bytesWf (c :: rest) = true ↔ c.2.isEmpty = false ∧ (∀ d ∈ rest.head?, c.1 < d.1) ∧ bytesWf rest = true := by
  cases rest with
  | nil => simp [bytesWf]
  | cons d r => simp [bytesWf]; exact ⟨fun h => ⟨h.1.2, h.1.1, h.2⟩, fun h => ⟨⟨h.2.1, h.1⟩, h.2.2⟩⟩

theorem bytesWf_lt {c : Nat × List Byte} {rest : List (Nat × List Byte)} (h : bytesWf (c :: rest) = true) :
    ∀ d ∈ rest, c.1 < d.1 := by
  induction rest generalizing c with
  | nil => simp
  | cons e r ih =>
    intro d hd
    have h' := bytesWf_cons.mp h
    have he : c.1 < e.1 := h'.2.1 e (by simp)
    cases List.mem_cons.mp hd with
    | inl hh => exact hh ▸ he
    | inr hh => exact Nat.lt_trans he (ih h'.2.2 d hh)

theorem dropBytes_mem (l : List (Nat × List Byte)) (k : Nat) : ∀ d ∈ dropBytes l k, d ∈ l := by
  induction l with
  | nil => simp [dropBytes]
  | cons c rest ih =>
    intro d hd
    unfold dropBytes at hd
    split at hd
    · exact List.mem_cons_of_mem _ (ih d hd)
    · cases List.mem_cons.mp hd with
      | inl h => exact h ▸ List.mem_cons_self
      | inr h => exact List.mem_cons_of_mem _ (ih d h)

theorem dropBytes_wf (l : List (Nat × List Byte)) (k : Nat) (h : bytesWf l = true) : bytesWf (dropBytes l k) = true := by
  induction l with
  | nil => rfl
  | cons c rest ih =>
    unfold dropBytes
    split
    · exact ih (bytesWf_cons.mp h).2.2
    · refine bytesWf_cons.mpr ⟨(bytesWf_cons.mp h).1, ?_, ih (bytesWf_cons.mp h).2.2⟩
      intro d hd
      exact bytesWf_lt h d (dropBytes_mem rest k d (List.mem_of_mem_head? hd))

theorem setBytes_head (l : List (Nat × List Byte)) (k : Nat) (v : List Byte) :
    ∀ d ∈ (setBytes l k v).head?, d.1 = k ∨ ∃ c ∈ l.head?, d.1 = c.1 := by
  cases l with
  | nil => simp [setBytes]
  | cons c rest =>
    intro d hd
    unfold setBytes at hd
    split at hd
    · simp at hd; left; rw [← hd]
    · split at hd
      · simp at hd; left; rw [← hd]
      · simp at hd; right; exact ⟨c, by simp, by rw [← hd]⟩

theorem setBytes_wf (l : List (Nat × List Byte)) (k : Nat) (v : List Byte) (hv : v.isEmpty = false) (h : bytesWf l = true) :
    bytesWf (setBytes l k v) = true := by
  induction l with
  | nil => simpa [setBytes, bytesWf] using hv
  | cons c rest ih =>
    unfold setBytes
    split
    · rename_i hk
      exact bytesWf_cons.mpr ⟨hv, by simpa using hk, h⟩
    · split
      · rename_i _ hk
        have h' := bytesWf_cons.mp h
        exact bytesWf_cons.mpr ⟨hv, by simpa [hk] using h'.2.1, h'.2.2⟩
      · rename_i hlt hne
        have h' := bytesWf_cons.mp h
        refine bytesWf_cons.mpr ⟨h'.1, ?_, ih h'.2.2⟩
        intro d hd
        rcases setBytes_head rest k v d hd with e | ⟨e, he, hde⟩
        · omega
        · have := h'.2.1 e he; omega

/-- Writing any byte string keeps the store in canonical form. -/
theorem putBytes_keeps_bytesWf (s : State) (k : Nat) (v : List Byte) (h : bytesWf s.strs = true) :
    bytesWf (s.putBytes k v).strs = true := by
  show bytesWf (storeBytes s.strs k v) = true
  unfold storeBytes
  split
  · exact dropBytes_wf _ _ h
  · rename_i hv; exact setBytes_wf _ _ _ (by simpa using hv) h

/-- Several writes keep it too. -/
theorem puts_keeps_cellsWf (l : List (Nat × Nat)) (s : State) (h : cellsWf s.objs = true) : cellsWf (s.puts l).objs = true := by
  unfold State.puts
  induction l generalizing s with
  | nil => exact h
  | cons p rest ih => exact ih _ (put_keeps_cellsWf s p.1 p.2 h)

/-- The store after reset is in canonical form. -/
theorem reset_stores_wf : cellsWf State.reset.objs = true ∧ bytesWf State.reset.strs = true := by decide

end Sys2Proof.Machine
end

