-- ==== Sys2Proof/Laws/Commands.lean ====
section
/-! SUPPORT. What the shared ends of commands can do: `settle`, a due reset, `finish`, `occurs`, and a write in the store. -/
namespace Sys2Proof.Machine

/-! ### Output lines and due resets -/

@[simp] theorem settle_phase (s : State) : (settle s).phase = s.phase := by unfold settle; split <;> rfl
@[simp] theorem settle_sec (s : State) : (settle s).sec = s.sec := by unfold settle; split <;> rfl
@[simp] theorem settle_router (s : State) : (settle s).router = s.router := by unfold settle; split <;> rfl
@[simp] theorem settle_objs (s : State) : (settle s).objs = s.objs := by unfold settle; split <;> rfl
@[simp] theorem settle_strs (s : State) : (settle s).strs = s.strs := by unfold settle; split <;> rfl
@[simp] theorem settle_nand (s : State) : (settle s).nand = s.nand := by unfold settle; split <;> rfl
@[simp] theorem settle_supply (s : State) : (settle s).supply = s.supply := by unfold settle; split <;> rfl
@[simp] theorem settle_straps (s : State) : (settle s).straps = s.straps := by unfold settle; split <;> rfl
@[simp] theorem settle_factory (s : State) : (settle s).factory = s.factory := by unfold settle; split <;> rfl
@[simp] theorem settle_ob (s : State) (k : Nat) : (settle s).ob k = s.ob k := by unfold settle; split <;> rfl

/-- In the running module nothing is imposed on the lines. -/
theorem settle_run {s : State} (h : s.phase = .run) : settle s = s := by simp [settle, h]

/-- Outside it every line is off, once the boundary has come that a reset leaves the lines to. -/
theorem settle_rest {s : State} (h : s.phase ≠ .run) (hl : linesStand s = false) : OutputsAtRest (settle s) := by
  simp [settle, h, hl, outputsOff, OutputsAtRest]

@[simp] theorem outputsOff_linesStand (s : State) : linesStand (outputsOff s) = linesStand s := rfl
@[simp] theorem settle_linesStand (s : State) : linesStand (settle s) = linesStand s := by
  unfold settle; split
  · rfl
  · exact outputsOff_linesStand s

@[simp] theorem after_linesStand (s t : State) : linesStand (after s t) = linesStand (resetIfDue (flush t)) := by
  rw [← settle_linesStand (resetIfDue (flush t))]; rfl

/-- Lines that are off stay as they are. -/
theorem outputsOff_of_rest {s : State} (h : OutputsAtRest s) : outputsOff s = s := by
  obtain ⟨hp, ha, hf⟩ := h
  have ep : s.pins.map (fun p => { p with drive := false }) = s.pins := by
    apply Vector.ext; intro i hi
    have := hp ⟨i, hi⟩
    simp only [Vector.getElem_map]
    rw [show (false : Bool) = s.pins[i].drive from this.symm]
  have ea : s.ao.map (fun a => { a with applied := 0 }) = s.ao := by
    apply Vector.ext; intro i hi
    have := ha ⟨i, hi⟩
    simp only [Vector.getElem_map]
    rw [show (0 : Nat) = s.ao[i].applied from this.symm]
  have ef : s.fans.map (fun x => { x with applied := 0 }) = s.fans := by
    apply Vector.ext; intro i hi
    have := hf ⟨i, hi⟩
    simp only [Vector.getElem_map]
    rw [show (0 : Nat) = s.fans[i].applied from this.symm]
  unfold outputsOff
  rw [ep, ea, ef]

theorem settle_of_rest {s : State} (h : s.phase ≠ .run → linesStand s = false → OutputsAtRest s) : settle s = s := by
  unfold settle
  split
  · rfl
  · rename_i hp
    rw [not_or] at hp
    exact outputsOff_of_rest (h hp.1 (by simpa using hp.2))

@[simp] theorem resetIfDue_none {s : State} (h : s.sec.resetDue = none) : resetIfDue s = s := by simp [resetIfDue, h]

theorem puts_fold_sec (l : List (Nat × Nat)) (s : State) :
    (l.foldl (fun t (p : Nat × Nat) => t.put p.1 p.2) s).sec = s.sec := by
  induction l generalizing s with
  | nil => rfl
  | cons p rest ih => simp [ih]

theorem puts_fold_router (l : List (Nat × Nat)) (s : State) :
    (l.foldl (fun t (p : Nat × Nat) => t.put p.1 p.2) s).router = s.router := by
  induction l generalizing s with
  | nil => rfl
  | cons p rest ih => simp [ih]

theorem puts_fold_phase (l : List (Nat × Nat)) (s : State) :
    (l.foldl (fun t (p : Nat × Nat) => t.put p.1 p.2) s).phase = s.phase := by
  induction l generalizing s with
  | nil => rfl
  | cons p rest ih => simp [ih]

/-- The lines alone are carried over a reset. -/
@[simp] theorem keepLines_sec (s b : State) : (keepLines s b).sec = b.sec := by unfold keepLines; split <;> rfl
@[simp] theorem keepLines_phase (s b : State) : (keepLines s b).phase = b.phase := by unfold keepLines; split <;> rfl
@[simp] theorem keepLines_router (s b : State) : (keepLines s b).router = b.router := by unfold keepLines; split <;> rfl
@[simp] theorem keepLines_nand (s b : State) : (keepLines s b).nand = b.nand := by unfold keepLines; split <;> rfl
@[simp] theorem keepLines_objs (s b : State) : (keepLines s b).objs = b.objs := by unfold keepLines; split <;> rfl
@[simp] theorem keepLines_ob (s b : State) (k : Nat) : (keepLines s b).ob k = b.ob k := by unfold keepLines; split <;> rfl

/-- A reset leaves no reset outstanding, and the module in BOOT. -/
theorem resetNow_sec (s : State) (cause : Nat) (straps : Straps) (evs : List (Nat × Nat)) :
    (resetNow s cause straps evs).sec.resetDue = none := by
  simp only [resetNow, keepLines_sec, inc_eq, put_sec, puts_fold_sec]
  rfl

theorem resetNow_phase (s : State) (cause : Nat) (straps : Straps) (evs : List (Nat × Nat)) :
    (resetNow s cause straps evs).phase = .boot 0 := by
  simp only [resetNow, keepLines_phase, inc_eq, put_phase, puts_fold_phase]
  rfl

/-- A reset that was due has been carried out. -/
theorem resetIfDue_sec (s : State) : (resetIfDue s).sec.resetDue = none := by
  unfold resetIfDue
  split
  · assumption
  · exact resetNow_sec _ _ _ _

/-- What a reset leaves has raised nothing. -/
theorem resetNow_raised (s : State) (cause : Nat) (straps : Straps) (evs : List (Nat × Nat)) :
    (resetNow s cause straps evs).router.raised = [] := by
  simp only [resetNow, keepLines_router, inc_eq, put_router, puts_fold_router]
  rfl

/-- Carrying out a due reset leaves no event behind that was not there. -/
theorem resetIfDue_raised {s : State} (h : s.router.raised = []) : (resetIfDue s).router.raised = [] := by
  unfold resetIfDue
  split
  · exact h
  · exact resetNow_raised _ _ _ _

/-! ### Routing -/

theorem routeRaised_nil (n : Nat) {s : State} (h : s.router.raised = []) : routeRaised n s = s := by
  have e : { s with router := { s.router with raised := [] } } = s := by rw [← h]
  cases n with
  | zero => simp only [routeRaised, routeOnce, h, sortBy]; exact e
  | succ n => simp [routeRaised, h]

theorem routeRaised_raised (n : Nat) (s : State) : (routeRaised n s).router.raised = [] := by
  induction n generalizing s with
  | zero => rfl
  | succ n ih =>
    unfold routeRaised
    split
    · rename_i h; simpa using h
    · exact ih _

/-- Where nothing was raised, routing does nothing. -/
theorem flush_nil {s : State} (h : s.router.raised = []) : flush s = s := routeRaised_nil 4 h

/-- Once routed, nothing raised is left. -/
@[simp] theorem flush_raised (s : State) : (flush s).router.raised = [] := routeRaised_raised 4 s

/-! ### The end of every command -/

/-- A command answers what `after` makes of its effect. -/
theorem finish_eq (s t : State) : finish s t = .next (after s t) := rfl

@[simp] theorem after_pending (s t : State) : (after s t).pending = s.pending := rfl

theorem after_safe (s t : State) : Safe (after s t) := by
  refine ⟨fun h hl => ?_, ?_, ?_⟩
  · exact settle_rest (s := resetIfDue (flush t)) (by simpa [after] using h) (by simpa using hl)
  · simp [after, resetIfDue_sec]
  · simp [after, resetIfDue_raised]

/-- Where the effect raises nothing and leaves the module running with no reset asked for, nothing is added to it but the queue. -/
theorem after_run {s t : State} (hp : t.phase = .run) (hr : t.sec.resetDue = none) (he : t.router.raised = []) :
    after s t = { t with pending := s.pending } := by
  simp [after, flush_nil he, resetIfDue_none hr, settle_run hp]

/-- A command without effect on a safe state leaves it as it was. -/
theorem after_self {s : State} (h : Safe s) : after s s = s := by
  simp [after, flush_nil h.2.2, resetIfDue_none h.2.1, settle_of_rest h.1]

/-- An event has its effect exactly where it can occur. -/
theorem occurs_true {s : State} {c : Bool} (eff : State → State) (h : c = true) : occurs s c eff = .next (after s (eff s)) := by
  simp [occurs, h, finish_eq]

theorem occurs_false {s : State} {c : Bool} (eff : State → State) (h : c = false) : occurs s c eff = .next (after s s) := by
  simp [occurs, h, finish_eq]

/-! ### Hold-up -/

/-- Hold-up that meets no power-fail checkpoint writes none, and no counters (R424, R493). -/
theorem powerFailEnds_self {s : State} (h : ∀ r, s.plant.ckptRun = some r → r.kind ≠ 2) : powerFailEnds s = s := by
  simp only [powerFailEnds, Option.map_eq_some_iff]
  exact if_neg fun ⟨r, hr, hk⟩ => h r hr hk

/-- A power-fail checkpoint under way completes, with the journal and the counters behind it (R153, R462, R493). -/
theorem powerFailEnds_some {s : State} {r : CkptRun} (h : s.plant.ckptRun = some r) (hk : r.kind = 2) :
    powerFailEnds s = saveCounters (flushJournal (ckptFinish s)) := by simp [powerFailEnds, h, hk, powerFailWrite]

/-! ### The archive ring, the loop Status and the load -/

/-- The ring in DRAM never holds more than its size (R38), and one that has room keeps all it holds. -/
theorem trimRing_le (d : PlantSt) : (trimRing d).archiveCopied.length + (trimRing d).archivePend.length ≤ archiveRingSize := by
  simp only [trimRing, List.length_drop]; omega

theorem trimRing_self {d : PlantSt} (h : d.archiveCopied.length + d.archivePend.length ≤ archiveRingSize) : trimRing d = d := by
  simp [trimRing, Nat.sub_eq_zero_of_le h]

/-- Taking or returning a context touches no object but the loop's Status where it clears bits 7 and 11 (R232). -/
theorem clearActing_ob {s : State} {n k : Nat} (h : k ≠ Ob.loopStatus n) : (clearActing s n).ob k = s.ob k := by
  simp only [clearActing, State.putBit]
  rw [ob_put_ne _ _ h, ob_put_ne _ _ h]

/-- A change of context where no NOTACH limit acts raises nothing (R226). -/
theorem changeContext_quiet (rz : State → Nat → Nat → State) {s : State} {n : Nat} (takes : Bool) (h : s.stBit (Ob.loopStatus n) 7 = false) :
    changeContext rz s n takes = repin (if takes then takeContext s n else dropContext s n) := by simp [changeContext, h]

/-- Noting the load changes the loads of the last second and nothing else. -/
theorem noteLoad_frame (s : State) : { noteLoad s with loads := s.loads } = s := by
  unfold noteLoad; dsimp only; split <;> rfl

/-! ### How time passes -/

/-- Judging a change leaves both clocks where they are, whatever moment its events carry (R116). -/
@[simp] theorem gcJudgeDue_wc (s : State) (k : Fin 8) (c : GcChange) : (gcJudgeDue s k c).wc = s.wc := rfl
@[simp] theorem gcJudgeDue_osc (s : State) (k : Fin 8) (c : GcChange) : (gcJudgeDue s k c).osc = s.osc := rfl
@[simp] theorem gcTake_wc (s : State) (x : Fin 8 × GcChange) : (gcTake s x).wc = s.wc := rfl
@[simp] theorem gcTake_osc (s : State) (x : Fin 8 × GcChange) : (gcTake s x).osc = s.osc := rfl

theorem foldl_gcTake_clocks (l : List (Fin 8 × GcChange)) (s : State) : (l.foldl gcTake s).wc = s.wc ∧ (l.foldl gcTake s).osc = s.osc := by
  induction l generalizing s with
  | nil => exact ⟨rfl, rfl⟩
  | cons x l ih => simpa using ih (gcTake s x)

/-- `d` µs on both clocks are `d` µs, whatever the grain clocks accept in them. -/
@[simp] theorem pass_wc (s : State) (d : Nat) : (pass s d).wc = s.wc + d := (foldl_gcTake_clocks _ _).1
@[simp] theorem pass_osc (s : State) (d : Nat) : (pass s d).osc = s.osc + d := (foldl_gcTake_clocks _ _).2

/-- Time in which no grain clock has anything to judge does nothing but pass. -/
theorem pass_still {s : State} {d : Nat} (h : gcRipe (s.elapse d) ((s.osc + d) * 1000) = []) : pass s d = s.elapse d := by
  show (gcRipe (s.elapse d) ((s.osc + d) * 1000)).foldl gcTake (s.elapse d) = s.elapse d
  rw [h]; rfl

/-- An instant of the present tick is reached, or was. -/
@[simp] theorem reach_wc (s : State) (off : Nat) : (reach s off).wc = max s.wc (s.tickWc + off) := by simp [reach]; omega

/-! ### What the field die brings along -/

/-- The junctions' figures reach the comparator and nothing else (R415). -/
theorem takeJunctions_frame (s : State) (meas : List Measure) : { takeJunctions s meas with supply := s.supply } = s := by
  unfold takeJunctions
  induction meas generalizing s with
  | nil => rfl
  | cons m l ih => cases m <;> first | exact ih s | exact congrArg (fun t : State => { t with supply := s.supply }) (ih _)

@[simp] theorem takeJunctions_phase (s : State) (meas : List Measure) : (takeJunctions s meas).phase = s.phase := by
  have h := congrArg State.phase (takeJunctions_frame s meas); exact h
@[simp] theorem takeJunctions_osc (s : State) (meas : List Measure) : (takeJunctions s meas).osc = s.osc := by
  have h := congrArg State.osc (takeJunctions_frame s meas); exact h

/-- The comparator trips exactly where one of its junctions has been above the strapped threshold for 1 ms (R415, R416). -/
theorem comparatorTrips_iff (s : State) :
    comparatorTrips s = true ↔
      ∃ j ∈ s.supply.junctions.toList, 1000 ≤ j.held ∧ FX.gt (FX.ofBits32 j.celsius.toNat) (strapCelsius s) = true := by
  simp only [comparatorTrips, List.any_eq_true, Bool.and_eq_true, decide_eq_true_eq]

/-- A figure clipped to 16 bits lies in them, whatever it was. -/
theorem clip16_range (s : State) (rounded : FX → Int) (x : FX) : -32768 ≤ s.clip16 rounded x ∧ s.clip16 rounded x ≤ 32767 := by
  cases x with
  | nan => simp only [State.clip16, toSigned]; split <;> omega
  | inf neg => cases neg <;> simp [State.clip16]
  | fin n m e => simp only [State.clip16]; omega

/-! ### Copies of the archive -/

/-- A copy holds the same records in the same order (R149), and the same bytes where every record can be read (R484). -/
theorem archiveCopy_seq (s : State) (l : List (Nat × List Byte)) : (archiveCopy s l).map (·.1) = l.map (·.1) := by
  simp only [archiveCopy, List.map_map]
  exact List.map_congr_left fun r _ => by simp only [Function.comp]; split <;> rfl

theorem archiveCopy_sound {s : State} (l : List (Nat × List Byte)) (h : s.badArchive = []) : archiveCopy s l = l := by
  simp [archiveCopy, h]

/-! ### The places of records -/

/-- While a place is free no action yields one (R461). -/
theorem yieldPlace_self {s : State} (h : placesUsed s < 768) : yieldPlace s = s := if_pos (.inl h)

/-- A place that is yielded is one of a module action, counted as lost (R461): nothing but the staging area changes, and there at most one
record goes. -/
theorem yieldPlace_cases (s : State) :
    yieldPlace s = s ∨
    ∃ (g : Staging) (i : Nat), yieldPlace s = { s with staging := g } ∧ g.staged = s.staging.staged.eraseIdx i ∧
      g.lostActions = s.staging.lostActions + 1 := by
  by_cases h : placesUsed s < 768 ∨ s.staging.staged.any (fun r => !r.event && r.kind == 4) = false
  · exact .inl (if_pos h)
  · exact .inr ⟨_, _, if_neg h, rfl, rfl⟩

/-- The record of a write found with a place free stands behind all others. -/
theorem recordWrite_eq {s : State} (w : WReq) (old : List Byte) (he : s.router.raised = []) (h : placesUsed s < 768) :
    recordWrite s w old = stage s (writeRec s w.who.o 1 w.ty w.idx w.sub 0 old w.data) := by
  simp only [recordWrite, flush_nil he, yieldPlace_self h]

/-! ### A write in the store -/

/-- Everything a write can become: not served, turned away for want of a place, waiting, aborted, or applied. -/
theorem submit_cases (s : State) (w : WReq) (old : List Byte) (extra : List Nat) (eff : State → State) :
    (s.phase ≠ .run ∧ submit s w old extra eff = (s, .unserved)) ∨
    (s.phase = .run ∧ w.who.o.iface ≠ 0 ∧ 704 ≤ placesUsed s ∧
      submit s w old extra eff = (s.inc Ob.worustRequestsDropped, .dropped)) ∨
    (s.phase = .run ∧ (s.storeQ ≠ [] ∨ (w.who.o.iface = 0 ∧ 768 ≤ placesUsed s)) ∧
      submit s w old extra eff = (putWaiting s w, .waits)) ∨
    (∃ c, s.phase = .run ∧ s.storeQ = [] ∧ pickAbort (writeCodes s w extra eff) = some c ∧
      submit s w old extra eff = (abortWrite s w old c, .aborted c)) ∨
    (s.phase = .run ∧ s.storeQ = [] ∧ pickAbort (writeCodes s w extra eff) = none ∧
      submit s w old extra eff = (recordWrite (eff s) w old, .done)) := by
  unfold submit
  by_cases hp : s.phase = .run
  · by_cases hd : (w.who.o.iface ≠ 0 && decide (704 ≤ placesUsed s)) = true
    · right; left
      have : w.who.o.iface ≠ 0 ∧ 704 ≤ placesUsed s := by simpa using hd
      exact ⟨hp, this.1, this.2, by simp [hp, this.1, this.2]⟩
    · by_cases hw : (!s.storeQ.isEmpty || (w.who.o.iface = 0 && decide (768 ≤ placesUsed s))) = true
      · right; right; left
        refine ⟨hp, ?_, by simp only [hp, ne_eq, not_true_eq_false, if_false]; rw [if_neg hd, if_pos hw]⟩
        simp only [Bool.or_eq_true, Bool.not_eq_true', Bool.and_eq_true, decide_eq_true_eq] at hw
        rcases hw with h | h
        · left; intro e; simp [e] at h
        · right; exact h
      · have hq : s.storeQ = [] := by
          by_cases h : s.storeQ = []
          · exact h
          · exact absurd (by simp [h]) hw
        right; right; right
        cases hc : pickAbort (writeCodes s w extra eff) with
        | some c =>
          left
          exact ⟨c, hp, hq, rfl, by simp only [hp, ne_eq, not_true_eq_false, if_false]; rw [if_neg hd, if_neg hw]⟩
        | none =>
          right
          exact ⟨hp, hq, rfl, by simp only [hp, ne_eq, not_true_eq_false, if_false]; rw [if_neg hd, if_neg hw]⟩
  · left; exact ⟨hp, by simp [hp]⟩

/-- A write that is served at once, and meets no abort, is applied and recorded. -/
theorem submit_applied {s : State} {w : WReq} {old : List Byte} {extra : List Nat} {eff : State → State}
    (hp : s.phase = .run) (hq : s.storeQ = []) (hn : placesUsed s < (if w.who.o.iface = 0 then 768 else 704))
    (hc : pickAbort (writeCodes s w extra eff) = none) :
    submit s w old extra eff = (recordWrite (eff s) w old, .done) := by
  unfold submit
  by_cases h0 : w.who.o.iface = 0
  · simp [h0] at hn
    simp [hp, hq, h0, hc, hn]
  · simp [h0] at hn
    simp [hp, hq, h0, hc, hn]

/-- A write that is served at once, and meets an abort, changes the abort objects and leaves its record. -/
theorem submit_aborted {s : State} {w : WReq} {old : List Byte} {extra : List Nat} {eff : State → State} {c : Nat}
    (hp : s.phase = .run) (hq : s.storeQ = []) (hn : placesUsed s < (if w.who.o.iface = 0 then 768 else 704))
    (hc : pickAbort (writeCodes s w extra eff) = some c) :
    submit s w old extra eff = (abortWrite s w old c, .aborted c) := by
  unfold submit
  by_cases h0 : w.who.o.iface = 0
  · simp [h0] at hn
    simp [hp, hq, h0, hc, hn]
  · simp [h0] at hn
    simp [hp, hq, h0, hc, hn]

theorem submit_unserved {s : State} {w : WReq} {old : List Byte} {extra : List Nat} {eff : State → State} (hp : s.phase ≠ .run) :
    submit s w old extra eff = (s, .unserved) := by simp [submit, hp]

/-- A sender's write that reaches the store is what the store makes of it; one that does not changes nothing (R29). -/
theorem writeKey_eq (s : State) (x : Sender) (k : Nat) (ty : Ty) (data : List Byte) (codes : List Nat) (eff : State → State) :
    writeKey s x k ty data codes eff =
      if reaches s x then submit s (writeReq x k ty data) (oldBytes s (k / 256) (k % 256)) codes eff else (s, .unserved) := rfl

theorem pickAbort_nil : pickAbort [] = none := rfl

/-- Only a write that meets no abort code is left without one. -/
theorem pickAbort_none {l : List Nat} : pickAbort l = none ↔ l = [] := by
  cases l with
  | nil => simp [pickAbort]
  | cons c cs =>
    constructor
    · intro h
      unfold pickAbort at h
      split at h
      · cases h
      · split at h <;> cases h
    · intro h; cases h

/-- A command that is the write of one object is that write, where it reaches the store. -/
theorem exec_writeOf {c : Instr} {s : State} {w : ObjWrite} (h : writeOf s c = some w) :
    exec c s = finish s (heard s w.x (submit s w.req (oldBytes s (w.k / 256) (w.k % 256)) w.codes w.eff)).1 := by
  cases c
  case entryEnableWrite x e w' => cases w' <;> (cases h; rfl)
  case wcTimeWrite => cases h; simp only [exec, execWcTimeWrite, writeLong, writeKey, ObjWrite.req]
  case purge => cases h; simp only [exec, execPurge, writeByte, writeKey, ObjWrite.req, byteWrite]
  case injectionStart => cases h; simp only [exec, execInjectionStart, writeByte, writeKey, ObjWrite.req, byteWrite]
  all_goals first | (cases h; rfl) | (simp [writeOf] at h)

/-- Where such a write is served and meets no abort, the command leaves its effect and its record (R53, R458). -/
theorem writeOf_applied {c : Instr} {s : State} {w : ObjWrite} (h : writeOf s c = some w)
    (ha : Applies s w.x w.k w.ty w.data w.codes w.eff) :
    exec c s = .next (after s (recorded s w.x w.k w.ty w.data (w.eff s))) := by
  rw [exec_writeOf h, heard, if_pos ha.1.1,
    submit_applied (w := w.req) ha.1.2.1 ha.1.2.2.1 ha.1.2.2.2 (pickAbort_none.mpr ha.2)]
  rfl

end Sys2Proof.Machine
end

