-- ==== Sys2Proof/WellFormed.lean ====
section
/-! DEFINITION. Which commands are well formed: the operands the rules allow, beyond what their types say. A command that is not well
formed stands for nothing that can arrive at the module. -/
namespace Sys2Proof

/-- A binary32 word that is neither infinite nor NaN (R47). -/
def wordOk (w : Word) : Bool := w.toNat / 2 ^ 23 % 256 != 255

/-- A figure read back is a finite number. -/
def measureOk (m : Measure) : Bool :=
  match m with
  | .ioCurrent _ a => wordOk a
  | .groupVolts _ v => wordOk v
  | .txCurrent _ a _ => wordOk a
  | .aoReadback _ a h _ => wordOk a && wordOk h
  | .fanCurrent _ a => wordOk a
  | .supplyVolts _ v => wordOk v
  | .msVolts v => wordOk v
  | .supplyCurrent a => wordOk a
  | .junction _ t _ => wordOk t

/-- A converter's result is a finite number. -/
def conversionOk (c : Conversion) : Bool :=
  match c with
  | .ai _ x => wordOk x
  | .rt _ r l _ _ => wordOk r && wordOk l

/-- A node's address on a bus: 1 to 127 (R330, R331). -/
def nodeOk (node : BitVec 7) : Bool := node != 0

/-- A request of a bus node names a node (R331); a TID on the bus has 8 bits; datagrams are no FD frames. -/
def requestOk (q : Request) : Bool :=
  match q.via with
  | .bus _ node => nodeOk node && decide (q.tid.toNat < 256)
  | .udp _ _ _ => !q.fd

/-- The most a segment carries: 7 B on classical frames, 63 B on FD frames, 1,024 B on UDP (R338). -/
def segmentOk (q : Request) (data : List Byte) : Bool :=
  match q.via with
  | .bus _ _ => decide (data.length ≤ if q.fd then 63 else 7)
  | .udp _ _ _ => decide (data.length ≤ 1024)

/-- No value is longer than 1 MiB (R47). -/
def transferOk (data : List Byte) : Bool := decide (data.length ≤ 1048576)

/-- The byte count of a DLC (R308). -/
def frameBytes (fdf : Bool) (dlc : Nat) : Nat :=
  if dlc ≤ 8 then dlc else if fdf then [12, 16, 20, 24, 32, 48, 64].getD (dlc - 9) 64 else 8

/-- A frame the bus can carry: identifier and DLC in their ranges, bytes as the DLC says, no data in a remote frame (R308, R317). -/
def frameOk (f : CanFrame) : Bool :=
  decide (f.id < if f.ide then 2 ^ 29 else 2 ^ 11) && decide (f.dlc < 16) &&
  !(f.rtr && f.fdf) && (f.fdf || !f.brs) && (f.fdf || !f.esi) &&
  decide (f.data.length = if f.rtr then 0 else frameBytes f.fdf f.dlc)

/-- A start-of-frame lies within one bit of the choice (R310): at most 100 µs, at 10 kbit/s (R303). -/
def txMomentOk (m : TxMoment) : Bool := decide (-100 ≤ m.sof ∧ m.sof ≤ 100)

/-- Seven reads of a strap (R512). -/
def strapsOk (l : List Nat) : Bool := decide (l.length = 7)

/-- Accounts that an error can fall in: at least one (R484). -/
def contentOk (m : MemContent) : Bool :=
  match m with
  | .loopContext _ | .regionBank _ | .schedEntry _ | .channel _ | .parcel _ | .layer _ _ | .runImage _ | .archive _ | .coreMemory _
  | .checkpoint _ => true
  | .accounts l => !l.isEmpty

/-- The command's operands are ones the rules allow. -/
def Instr.wellFormed (i : Instr) : Bool :=
  match i with
  | .tickBoundary _ meas => meas.all measureOk
  | .upstreamFrameComplete _ => true
  | .channelFetch _ => true
  | .sramScrub _ _ _ => true
  | .objectWrite _ _ _ _ data => transferOk data
  | .segopen q _ _ _ _ _ => requestOk q
  | .segment q _ _ data => requestOk q && segmentOk q data
  | .segend q _ => requestOk q
  | .segmentTimeout q => requestOk q
  | .indexSnapshotRead q _ => requestOk q
  | .enterPreop _ => true
  | .enterOperate _ => true
  | .consistencyCheckEnd => true
  | .enterSafe _ => true
  | .restart _ => true
  | .acknowledge _ => true
  | .fieldOutputValueWrite _ _ _ => true
  | .operatorValueWrite _ _ _ => true
  | .gcEdge _ _ _ _ => true
  | .gcRateUpdate _ => true
  | .gcStall _ => true
  | .gcSignalLoss _ => true
  | .mpCrossing _ => true
  | .mpMiss => true
  | .mpLost => true
  | .wcSlewStep => true
  | .wcRateStep => true
  | .wcTimeWrite _ _ => true
  | .syncLoss => true
  | .entryEnableWrite _ _ _ => true
  | .eventRecordRead => true
  | .pathEnable _ _ _ => true
  | .purge _ _ => true
  | .adjustAdd _ _ => true
  | .adjustRemove _ _ => true
  | .adjustEmpty _ _ => true
  | .ledgerReset _ => true
  | .archivePageWrite => true
  | .checkpointPeriodic => true
  | .checkpointValid => true
  | .modelStepTimed _ => true
  | .modelStepFallback _ => true
  | .modelStepEnd _ => true
  | .dielectricCycle => true
  | .dielectricSlot _ => true
  | .dielectricReading _ sweep _ _ => decide (sweep.length ≤ 16)
  | .calCaptureEmpty _ _ => true
  | .calCaptureReference _ _ => true
  | .calCaptureDone _ => true
  | .calAccept _ _ => true
  | .calDiscard _ _ => true
  | .caldataWrite _ _ data => decide (data.length = 268)
  | .samplePull _ _ => true
  | .sampleCommit _ _ _ _ => true
  | .loopActivate _ _ => true
  | .loopDeactivate _ _ => true
  | .coeffApply _ _ => true
  | .regionApply _ _ _ => true
  | .injectionStart _ _ => true
  | .injectionEnd _ _ => true
  | .injectionRelease _ _ => true
  | .traceEnable _ _ => true
  | .traceRearm _ _ => true
  | .traceTriggerNow _ _ => true
  | .loopLoadCheck => true
  | .loopEngineFailure _ => true
  | .sequencingRound _ => true
  | .chainStart _ _ => true
  | .chainStop _ _ => true
  | .chainReset _ _ => true
  | .dryerStart _ _ => true
  | .dryerStop _ _ => true
  | .dryerEmpty _ _ => true
  | .dryerReset _ _ => true
  | .aerationEvaluate => true
  | .aerationModeWrite _ _ _ => true
  | .aerationReset _ _ => true
  | .busEnable _ _ => true
  | .busDisable _ _ => true
  | .integrationDone _ => true
  | .busModeApply _ => true
  | .txChoice n => txMomentOk n
  | .frameSent _ _ => true
  | .arbitrationLost _ => true
  | .busError _ lec _ _ _ _ _ => decide (1 ≤ lec.val ∧ lec.val ≤ 6)
  | .protocolException _ => true
  | .frameReceived _ frame _ _ => frameOk frame
  | .queueRelease _ => true
  | .rawTxFrame _ _ data => decide (16 ≤ data.length ∧ data.length ≤ 80)
  | .rawTxCancel _ _ => true
  | .recoveryCommand _ _ => true
  | .recoveryDelay _ => true
  | .recoveryComplete n => txMomentOk n
  | .worustRead q _ _ => requestOk q
  | .worustWrite q _ _ _ data => requestOk q && decide (data.length ≤ 8)
  | .worustAbort q _ => requestOk q
  | .segmentAck q _ => requestOk q
  | .contTimeout _ => true
  | .udpDatagram _ _ _ data => decide (data.bytes.length ≤ 1472)
  | .pointReceived _ node _ _ _ _ => nodeOk node
  | .pointTimeout _ point => nodeOk (BitVec.ofNat 7 (point.toNat / 256)) && decide (point.toNat / 256 < 128)
  | .publicationPeriod _ => true
  | .publicationDeltaCheck _ => true
  | .syncInterval _ => true
  | .timeSync _ _ _ _ => true
  | .timeFollowUp _ _ _ => true
  | .timePoll => true
  | .timeReply _ _ _ _ => true
  | .linkChange _ _ => true
  | .dhcpLeaseLapse => true
  | .dhcpRetry => true
  | .addressConflict _ => true
  | .broadcastStorm _ _ => true
  | .wakePattern _ => true
  | .wakeFrame _ frame => frameOk frame
  | .wakeFrameErrors _ => true
  | .pinEdge _ _ => true
  | .pulseRateUpdate _ => true
  | .wirebreakSet _ => true
  | .wirebreakClear _ => true
  | .outputOverload _ => true
  | .overloadRetry _ => true
  | .pinReset _ _ => true
  | .openLoad _ => true
  | .fieldSupplyWarning _ => true
  | .fieldSupplyTrip _ => true
  | .fieldSupplyRestore _ => true
  | .groupReset _ _ => true
  | .silenceDeclared => true
  | .silenceAllOff => true
  | .silenceEnd => true
  | .safeCopyCheck _ => true
  | .conversionWindow result => conversionOk result
  | .aiFaultConfirm _ _ => true
  | .aoNotach _ => true
  | .aoOpenloop _ => true
  | .aoOvertemp _ => true
  | .aoOvertempRetry _ => true
  | .trimDriveLow _ _ => true
  | .trimDriveHigh _ _ => true
  | .trimApply _ _ => true
  | .trimCancel _ _ => true
  | .trimMeasuredWrite _ _ _ => true
  | .fanSpeedRegulate _ => true
  | .fanKickTimeout _ => true
  | .fanRetry _ => true
  | .fanStall _ => true
  | .fanOverload _ => true
  | .fanOverloadRetry _ => true
  | .fanReset _ _ => true
  | .fanLearn _ => true
  | .tachLoss _ => true
  | .tachJudge _ => true
  | .fanNotachTimeout _ => true
  | .housekeepingRound reads _ => decide (reads.length = 16)
  | .fastSample reads => decide (reads.length = 16)
  | .graceEnd => true
  | .levelInterval => true
  | .substholdTimeout => true
  | .thermalShutdown => true
  | .haltClear => true
  | .vmFail _ => true
  | .vmGood => true
  | .vbLost _ _ => true
  | .vbAvailable => true
  | .overvolt _ volts => wordOk volts
  | .holdupSupplyReturn _ => true
  | .holdupEnd => true
  | .holdupTest farads => wordOk farads
  | .winterCommand _ => true
  | .winterBufferWaitEnd => true
  | .winterReached => true
  | .powerOn vm vb t0 t1 key => (vm || vb) && strapsOk t0 && strapsOk t1 && strapsOk key
  | .railFault => true
  | .bootStep _ farads volts => wordOk farads && wordOk volts
  | .endOfBoot _ => true
  | .configCommit _ => true
  | .commitDone _ => true
  | .configRevert _ => true
  | .enableWrite _ _ _ => true
  | .cfgEnSample volts => wordOk volts
  | .journalChain => true
  | .journalPageWrite => true
  | .updateBegin _ => true
  | .updateBlock _ data => decide (data.length = 65536)
  | .updateVerify _ => true
  | .updateActivate _ => true
  | .updateAbandon _ => true
  | .recoveryImageStart _ _ => true
  | .recoveryImageData _ _ _ data => decide (data.length ≤ 1024)
  | .recoveryImageEnd _ _ => true
  | .eraseArm _ _ => true
  | .eraseCommand _ _ => true
  | .eraseBlank => true
  | .parcelEngineFailure => true
  | .lockstepMismatch _ _ => true
  | .pairRestartDone _ => true
  | .uncorrectableError m => contentOk m
  | .internalFault _ => true
  | .counterSave => true
  | .gcSignalReturn _ => true
  | .qerrExpiry _ => true
  | .transceiverFault _ _ _ => true
  | .dhcpBound _ _ _ => true
  | .tachEdge _ _ => true
  | .wakeFrameDecoded _ _ => true
  | .enc24CurrentLimit _ => true
  | .enc24Retry _ => true

end Sys2Proof
end

