-- ==== Sys2Proof/Tests/Slice0.lean ====
section
/-! SUPPORT. The author's tests: the commands WellFormed refuses, a small check of commands against the spec's figures, and for the
statements' hypotheses a concrete state and operands that meet them. -/
namespace Sys2Proof.Tests
open Sys2Proof.Machine

set_option maxRecDepth 100000
set_option Elab.async false

/-! ### Small states -/

/-- The running module in operating state `n` (1 PREOP, 2 OPERATE, 3 SAFE). -/
def up (n : Nat) : State := { State.reset with phase := .run, osc := 100000000 }.put Ob.opOperatingState n
/-- The running module in PREOP and in OPERATE. -/
def pre : State := up 1
def ope : State := up 2
/-- Module firmware, and node 5 of bus channel 0. -/
def fw : Sender := ⟨.fw, 0, 0⟩
def node : Sender := ⟨.mb 0, 5, 7⟩
/-- A request of node 5 on channel 0, and of a host by port 0. -/
def ask : Request := ⟨.bus 0 5, 7, 4, false⟩
def askUdp : Request := ⟨.udp 0 0x0A000002 5000, 9, 0, false⟩

/-- The state a command leaves; the state itself where it stops. -/
def nextOf (c : Instr) (s : State) : State := match exec c s with | .next t => t | _ => s
/-- The command answers a next state. -/
def goes (c : Instr) (s : State) : Bool := match exec c s with | .next _ => true | _ => false

/-- The hypotheses of an object write's completion, as one test. -/
def served (s : State) (c : Instr) : Bool :=
  match writeOf s c with
  | some w => decide (reaches s w.x = true ∧ s.phase = .run ∧ s.storeQ = [] ∧ placesUsed s < 704) && (writeCodes s w.req w.codes w.eff).isEmpty
  | none => false

/-- What `served` says: the write of the command is admitted and meets no abort. -/
theorem served_applies {s : State} {c : Instr} (h : served s c = true) :
    ∃ w, writeOf s c = some w ∧ Applies s w.x w.k w.ty w.data w.codes w.eff := by
  unfold served at h
  split at h
  · rename_i w hw
    simp only [Bool.and_eq_true, decide_eq_true_eq] at h
    obtain ⟨⟨h0, h1, h2, h3⟩, h4⟩ := h
    refine ⟨w, hw, ⟨h0, h1, h2, ?_⟩, ?_⟩
    · split <;> omega
    · simpa [ObjWrite.req] using h4
  · cases h


/-! ### Witnesses: the machine and the store -/

theorem wit_StepRunsFrontCommand : { pre with pending := [.mpMiss, .mpLost] }.pending = Instr.mpMiss :: [.mpLost] := rfl
theorem wit_EmptyQueueIdles : State.reset.pending = [] := rfl
theorem wit_CommandsLeaveTheQueue : ∃ t, exec (.sramScrub 1 0 0) pre = .next t := ⟨_, rfl⟩
theorem wit_StepKeepsSafe : Safe pre ∧ ∃ t, step { pre with pending := [.sramScrub 1 0 0] } = .next t :=
  ⟨⟨fun h => absurd rfl h, rfl, rfl⟩, _, rfl⟩
theorem wit_AbortReportedIsFirst : pickAbort [0x00050002, 0x00030004, 0x00030002] = some 0x00030002 := by decide
theorem wit_AbortedWrite :
    ∃ w, writeOf pre (.enterPreop fw) = some w ∧ Admitted pre w.x ∧ Ready pre ∧
      pickAbort (writeCodes pre w.req w.codes w.eff) = some 0x00030002 :=
  ⟨_, rfl, ⟨by decide, rfl, rfl, by decide⟩, ⟨rfl, rfl, rfl⟩, by decide⟩
theorem wit_NothingServed :
    Safe State.reset ∧ State.reset.phase ≠ .run ∧ recoveryRuns State.reset = false ∧ (writeOf State.reset (.purge fw 0)).isSome = true :=
  ⟨⟨fun _ _ => ⟨by decide, by decide, by decide⟩, rfl, rfl⟩, by decide, rfl, rfl⟩
def full (n : Nat) : State :=
  { pre with staging := { pre.staging with staged := List.replicate n ⟨false, 0, 1, 0, 0, 0, 0, 0, 0, 0, 0, 0, [], [], 0⟩ } }
theorem wit_FullStaging : reaches (full 704) node = true ∧ reaches pre fw = true ∧ 704 ≤ placesUsed (full 704) ∧ 768 ≤ placesUsed (full 768) ∧
    ({ pre with storeQ := [⟨⟨⟨0, 0, 0⟩, 0, 0, false⟩, false, 0x1010, 2, 1, [3], none, []⟩] } : State).storeQ ≠ [] := by decide

/-- Commands that are writes of one object, each with a state in which its write is served. -/
def preWrites : List (State × Instr) :=
  [(pre, .enterSafe fw), (pre, .restart fw), (pre.put (Ob.chanChannelType 0) 11, .operatorValueWrite fw 0 0x3F800000),
   (pre, .wcTimeWrite fw (2 ^ 64 - 1)), (pre, .entryEnableWrite fw 1023 (.enable true)),
   (pre, .entryEnableWrite fw 1023 (.enable false)), (pre, .entryEnableWrite fw 0 (.target (2 ^ 64 - 1))),
   (pre, .pathEnable fw 15 true), (pre, .pathEnable fw 0 false), (pre, .purge fw 15),
   (pre.put (Ob.binAdjustDry 63) 1, .adjustAdd fw 63), (pre, .adjustRemove fw 0), (pre, .adjustEmpty fw 63), (pre, .ledgerReset fw),
   (pre, .calCaptureEmpty fw 3), (pre.put (Ob.cellCalStatus 0) 1, .calCaptureReference fw 0),
   (pre.put (Ob.cellCalStatus 0) 2, .calAccept fw 0), (pre, .calDiscard fw 3),
   (pre, .caldataWrite fw 0 (calBytes (List.replicate 64 0) 0 0)), (pre, .loopActivate fw 511), (pre, .loopDeactivate fw 0),
   (pre, .coeffApply fw 511), (pre, .regionApply fw 0 0xFF), (pre, .injectionEnd fw 31), (pre, .injectionRelease fw 0),
   (pre, .traceEnable fw 7), (pre, .traceRearm fw 0), (pre, .traceTriggerNow fw 7)]
def moreWrites : List (State × Instr) :=
  [(pre, .aerationModeWrite fw 63 0), (pre.put (Ob.aerState 0) 2, .aerationReset fw 0), (pre, .busEnable fw 3), (pre, .busDisable fw 0),
   ({ pre with bus := pre.bus.set 0 { pre.bus[0] with started := true } }, .rawTxFrame fw 0 (List.replicate 16 0)),
   (pre, .rawTxCancel fw 3), (pre.put (Ob.busStatus 0) (2 ^ 11), .recoveryCommand fw 0), (pre, .pinReset fw 31),
   (pre, .groupReset fw 3), (pre, .trimDriveLow fw 7), (pre.put (Ob.aoTrimStatus 7) 2, .trimDriveHigh fw 7),
   ({ pre.put (Ob.aoTrimStatus 0) 4 with ao := pre.ao.set 0 { pre.ao[0] with m1 := 0x3B83126F, m2 := 0x3CA3D70A } }, .trimApply fw 0),
   (pre, .trimCancel fw 0), (pre.put (Ob.aoTrimStatus 7) 1, .trimMeasuredWrite fw 7 0x3B83126F),
   (pre.put (Ob.aoTrimStatus 7) 3, .trimMeasuredWrite fw 7 0x3CA3D70A), (pre, .fanReset fw 7),
   (pre.puts [(Ob.busEnable 3, 1), (Ob.wakeWakeEnable 3, 1)], .winterCommand fw), (pre, .configCommit fw), (pre, .enableWrite fw 2 0x3F),
   (pre, .updateBegin fw), (pre.put Ob.updateUpdateState 2, .updateActivate fw), (pre.put Ob.updateUpdateState 1, .updateAbandon fw),
   (pre, .eraseArm fw 0x5EC0), ({ pre with sec := { pre.sec with armAt := some 90000000 } }, .eraseCommand fw 1)]
/-- Those that need OPERATE or SAFE. -/
def opeWrites : List (State × Instr) :=
  [(ope, .enterPreop fw), (up 3, .acknowledge fw), (ope.put (Ob.chanChannelType 4095) 2, .fieldOutputValueWrite fw 4095 0),
   (ope, .chainStart fw 7), (ope.put (Ob.chainState 0) 1, .chainStop fw 0), (ope.put (Ob.chainState 7) 4, .chainReset fw 7)]
def dryWrites : List (State × Instr) :=
  [(ope, .dryerStart fw 3), (ope.put (Ob.dryerStep 3) 5, .dryerStop fw 3), (ope.put (Ob.dryerStep 0) 4, .dryerEmpty fw 0),
   (ope.put (Ob.dryerStep 3) 6, .dryerReset fw 3)]
theorem wit_preWrites : preWrites.all (fun x => served x.1 x.2) = true := by decide +kernel
theorem wit_moreWrites : moreWrites.all (fun x => served x.1 x.2) = true := by decide +kernel
theorem wit_opeWrites : opeWrites.all (fun x => served x.1 x.2) = true := by decide +kernel
theorem wit_dryWrites : dryWrites.all (fun x => served x.1 x.2) = true := by decide +kernel
def injS : State := { ope.puts [(Ob.injLoop 31, 5), (Ob.loopActive 5, 1)] with loops := [newLoop 5 (restCtx []) false] }
theorem wit_injectionStart : served injS (.injectionStart fw 31) = true := by decide +kernel

/-! ### Witnesses: operating states, tick, requests -/

def okWrite (s : State) (x : Sender) (idx sub ty : Nat) (data : List Byte) : Bool :=
  let w : WReq := ⟨⟨originOf x, x.port.toNat, 0, false⟩, false, idx, sub, ty, data, none, []⟩
  (writeCodes s w (extraOf s w.idx w.sub w.data) (effOf w.who.o w.idx w.sub w.data)).isEmpty
theorem wit_ObjectWriteApplies : okWrite pre fw 0x1012 16 3 [5, 0] = true ∧ key 0x1012 16 ∉
    [Ob.opStateCommand, Ob.configConfigCommand, Ob.updateUpdateCommand] := by decide +kernel
theorem wit_StateCommandsAcceptedIn : pre.phase = .run ∧ checking pre = false ∧ commitRuns pre = false := by decide
theorem wit_EnterOperateStartsTheCheck :
    reaches pre fw = true ∧ pre.storeQ = [] ∧ placesUsed pre < 768 ∧
    baseCodes pre (writeReq fw Ob.opStateCommand .u8 [2]) false ++ stateCodes pre 2 = [] := by decide
def checkS (v : Nat) (asker : Option WReq) : State := { pre with check := some ⟨asker, false, v⟩ }
theorem wit_CheckEndDecides :
    (checkS 0 none).operateDue = false ∧ (checkS 0 none).check.map (fun c => c.ended) = some false ∧ (checkS 0x10100200 (some (writeReq fw Ob.opStateCommand .u8 [2]))).check.isSome = true ∧
    (checkS 1 none).phase = .run := by decide
theorem wit_FieldOutput : chanType (ope.put (Ob.chanChannelType 4095) 2) 4095 = 2 := by decide
def boot8 : State := { State.reset with phase := .boot 8, osc := 4499990 }
def linkOpen : State := { pre with link := { pre.link with upOpen := true } }
def svc : InService := ⟨0, 0, 0, 0, 0, [4095], computeSample ope (newLoop 0 (restCtx []) false) 0, none, []⟩
theorem wit_TickCommands :
    ([.supplyVolts 0 0x42200000] : List Measure).any (beyondMax (nextTick pre)) = false ∧
    ([.supplyVolts 0 0x42200001] : List Measure).any (beyondMax (nextTick pre)) = true ∧
    pre.phase = .run ∧ (boot8.phase = .boot 8 ∧ boot8.osc + 10 ≤ 4500000) ∧ (clocksRun linkOpen = true ∧ linkOpen.link.upOpen = true) ∧
    ({ ope with service := [svc] } : State).service.any (fun v => v.missing.contains 4095) = true ∧ pre.cache.contains 4095 = false ∧ railsUp State.reset = true := by decide +kernel

/-- The module heard by node 5 of channel 0, and by the host of port 0. -/
def heard : State :=
  { pre.puts [(Ob.ethLinkStatus 0, 2), (Ob.ipIpStatus, 1)] with bus := pre.bus.set 0 { pre.bus[0] with started := true } }
theorem wit_NewRequest :
    hears heard (askerOf ask) = true ∧ hears heard (askerOf askUdp) = true ∧ badPrio (askerOf ask) = false ∧
    heard.net.inProgress.any (fun x => sameAsker x (askerOf ask)) = false ∧
    (heard.net.served.find? (fun x => sameAsker x.who (askerOf ask) && decide (heard.osc < x.at_ + 1000000))).isNone = true ∧
    heard.net.inProgress.length < 64 := by decide
theorem wit_ReadRequest : ∃ r, readShort (taken heard (askerOf ask)) 0x1010 1 = .ok r := ⟨(1, [1]), by rfl⟩
theorem wit_WriteRequest :
    (writeObj (taken heard (askerOf ask)) ⟨askerOf ask, true, 0x1012, 16, 3, [5, 0], none, []⟩).2 = .done := by decide +kernel
theorem wit_OpenWrite : openCodes (taken heard (askerOf ask)) (askerOf ask) 0x4340 1 12 268 = [] := by decide +kernel
theorem wit_OpenRead :
    heard.net.xfers.length < 8 ∧ ∃ r, readOb (taken heard (askerOf ask)) 0x1000 1 = .ok r := ⟨by decide, (11, [9, 0, 80, 108, 97, 110, 107, 111, 98, 114, 121]), by rfl⟩
theorem wit_Snapshot : (match snapshot (taken heard (askerOf ask)) 0x1010 with | .ok _ => true | .error _ => false) = true := by decide +kernel
/-- A write transfer of 3 bytes and a read of 8 bytes, both of node 5. -/
def xw : Xfer := ⟨askerOf ask, 0x1012, 16, true, 3, 2, [5], 1, 1, false, 99000000, 0, 0, false⟩
def xr : Xfer := ⟨askerOf ask, 0x1000, 1, false, 0, 8, List.replicate 8 1, 0, 0, false, 98000000, 2, 0, false⟩
def opened (x : Xfer) : State := { heard with net := { heard.net with xfers := [x] } }
theorem wit_Segment :
    findXfer (opened xw) (askerOf ask) true = some xw ∧
    (let d := unpad (askerOf ask) xw true [0]
     xw.got + d.length ≤ xw.total ∧ xw.total ≤ xw.got + d.length) ∧ 1 % 128 = xw.nextSeq % 128 ∧ xw.last = false := by decide
def xe : Xfer := { xw with buf := [5, 0], got := 2, nextSeq := 2, last := true }
theorem wit_Segend :
    findXfer (opened xe) (askerOf ask) true = some xe ∧ xe.got = xe.total ∧ crc32 xe.buf < 2 ^ 32 ∧
    (let u := dropXfer (opened xe) (askerOf ask)
     (writeObj { u with net := { u.net with inProgress := xe.who :: u.net.inProgress } }
       ⟨xe.who, true, xe.idx, xe.sub, xe.ty, xe.buf, some xe.total, []⟩).2 = .done) := by decide +kernel
theorem wit_Timeout :
    (opened xr).net.xfers.find? (fun x => sameAsker x.who (askerOf ask) && decide (x.lastAt + 1000000 < (opened xr).osc)) = some xr := by
  decide
theorem wit_Abort : (opened xr).net.xfers.any (fun x => sameAsker x.who (askerOf ask)) = true := by decide
theorem wit_Ack :
    findXfer (opened xr) (askerOf ask) false = some xr ∧
    (let k (next : Nat) := xr.acked + (next + 128 - xr.acked % 128) % 128
     xr.acked < k 1 ∧ k 2 ≤ xr.sentTo ∧ k 1 ≠ segCount xr ∧ k 2 = segCount xr) := by decide
def datagram (bytes : List Byte) : Datagram := ⟨bytes, 0x0A000001, 48410, true, 0x020000000014⟩
def asked : Datagram := datagram [1, 1, 9, 0, 3, 0, 0, 0, 0x10, 0x10, 1]
def udpS : State := heard.puts [(Ob.ipAddress, 0x0A000001), (Ob.worustUdpPort, 48410)]
theorem wit_Datagram :
    udpS.phase = .run ∧ linked udpS 0 = true ∧ asked.sound = true ∧ asked.bytes.length ≤ datagramMost ∧
    (let t := (learnAddress udpS asked.mac.toNat 0).inc (Ob.ethRxFrames 0)
     ipUp t = true ∧ asked.toAddr.toNat = t.ob Ob.ipAddress ∧ asked.toPort.toNat = t.ob Ob.worustUdpPort ∧
     serverUp (arpHeard t 0x0A000002 asked.mac.toNat) = true) ∧
    8 ≤ asked.bytes.length ∧ leAt asked.bytes 0 1 = 1 ∧ 0 < leAt asked.bytes 1 1 % 16 ∧ leAt asked.bytes 1 1 % 16 < 12 ∧
    leAt asked.bytes 4 2 = asked.bytes.length - 8 ∧ { asked with sound := false }.sound = false := by decide +kernel

/-! ### Witnesses: timebases, schedule, events -/

def gcS (status : Nat) : State := pre.puts [(Ob.gcEnable 7, 1), (Ob.gcStatus 7, status)]
theorem wit_GrainClock :
    clocksRun (gcS 0) = true ∧ (gcS 0).flag (Ob.gcEnable 7) = true ∧ ¬((gcS 0).ob (Ob.gcCountMode 7) = 2 ∧ GcLine.a = .b) ∧
    (gcFilterBelow (gcS 0) 7 1000 = true ∧ gcFilterBelow (gcS 0) 7 999 = false) ∧ (gcS 0).due (.gcRate 7) 10000 = true ∧
    (let u := gcS 0
     u.flag (Ob.gcEnable 7) = true ∧ u.stBit (Ob.gcStatus 7) 4 = false ∧ u.gc[(7 : Fin 8)].lastEdge + u.micros (Ob.gcStallTime 7) ≤ u.osc) ∧
    (gcS 0).stBit (Ob.gcStatus 7) 1 = false ∧ (gcS 2).stBit (Ob.gcStatus 7) 1 = true ∧ (gcS 4).stBit (Ob.gcStatus 7) 2 = true ∧
    (gcS 4).gc[(7 : Fin 8)].qerrAt + 1000000 ≤ (gcS 4).osc := by decide +kernel
theorem wit_SignalLoss : Safe (gcS 2) ∧ Safe (gcS 0) := ⟨⟨fun h => absurd rfl h, rfl, rfl⟩, ⟨fun h => absurd rfl h, rfl, rfl⟩⟩
def mpS (valid miss status : Nat) : State :=
  { pre.puts [(Ob.mpEnable, 1), (Ob.mpStatus, status)] with mp := { pre.mp with hasValid := true, period := 20000, lastValid := valid, missAt := miss } }
theorem wit_MainsPhase :
    (mpS 0 0 1).flag Ob.mpEnable = true ∧ mpMissDue (mpS 99970000 0 1) = true ∧ mpMissDue (mpS 99970001 0 1) = false ∧
    mpLostDue (mpS 0 99920000 2) = true ∧ mpLostDue (mpS 0 99920001 2) = false := by decide
def slewS : State := { pre with wcs := { pre.wcs with slew := -5, slewAt := 99998000 } }
theorem wit_WallClock :
    (slewS.wcs.slew ≠ 0 ∧ slewS.wcs.slewAt + 2000 ≤ slewS.osc) ∧ rateDue (pre.put Ob.wcRateCorrection 0x358637BD) = true ∧
    ((pre.put Ob.wcSyncStatus 2).stBit Ob.wcSyncStatus 1 = true ∧
     (pre.put Ob.wcSyncStatus 2).wcs.lastMsg + (pre.put Ob.wcSyncStatus 2).micros Ob.wcSyncLossTime ≤ pre.osc) := by decide +kernel
def evs : State := { pre with router := { pre.router with cores := [⟨0, 33, false, false, 0, 0⟩] } }
theorem wit_Credits :
    evs.appDown = false ∧ evs.router.cores = [⟨0, 33, false, false, 0, 0⟩] ∧
    coresOut pre 33 < bits (srcConfig (pre.put (Ob.srcCfgASourceConfig 33) 1) 33) 7 0 ∧
    bits (srcConfig (evs.put (Ob.srcCfgASourceConfig 33) 1) 33) 7 0 ≤ coresOut evs 33 ∧
    coresOut evs 33 ≤ bits (srcConfig (evs.put (Ob.srcCfgASourceConfig 33) 1) 33) 7 0 := by decide

/-! ### Witnesses: plant and moisture -/

def ckptS (kind : Nat) : State := { pre with plant := { pre.plant with ckptRun := some ⟨kind, 0, 0, ckptBody pre⟩ } }
theorem wit_Checkpoints :
    checkpointDue pre = true ∧ (ckptS 1).plant.ckptRun.isSome = true ∧ (ckptS 2).plant.ckptRun.map (fun r => r.kind) = some 2 ∧
    (ckptS 2).winter.stage ≠ 2 ∧ ({ ckptS 2 with winter := ⟨2, 0, true⟩ } : State).winter.stage = 2 ∧ (ckptS 2).nand.ckpts.length < 16 := by decide +kernel
def stepS (mode : Nat) (run : Option StepRun) : State :=
  { pre.put (Ob.pmodelStepMode 15) mode with paths := pre.paths.set 15 { pre.paths[15] with clockOn := true, run := run } }
theorem wit_Model :
    (pathSt (stepS 0 none) 15).clockOn = true ∧ (stepS 0 none).ob (Ob.pmodelStepMode 15) = 0 ∧
    (pathSt (stepS 0 none) 15).nextStep ≤ (stepS 0 none).ticks ∧ modelHeld (stepS 0 none) = false ∧ (pathSt (stepS 0 none) 15).run = none ∧
    (pathSt (stepS 0 (some ⟨0, 0, [], []⟩)) 15).run.isSome = true ∧
    ((stepS 1 none).ob (Ob.pmodelStepMode 15) = 1 ∧ (pathSt (stepS 1 none) 15).since + 10000000 ≤ (stepS 1 none).osc) := by decide
def slot (kind : Nat) : SlotRun := ⟨0, 16, kind, false, none⟩
def cellS (kind : Nat) : State :=
  { pre.put (Ob.cellEnable 3) 1 with
    wc := 155000, diel := { pre.diel with cycleOn := true, cycleAt := 0, cycleLen := 100000, cells := pre.diel.cells.set 3 { pre.diel.cells[3] with slot := some (slot kind) } } }
theorem wit_Dielectric :
    0 < pre.ob Ob.identFittedCellPorts ∧ pre.wc % cyclePeriod pre = 0 ∧ pre.diel.cycleOn = false ∧ (cellS 0).diel.cycleLen ≤ cycleTime (cellS 0) ∧
    ((cellS 0).diel.cycleOn = true ∧ cellFitted (cellS 0) 3 = true ∧ (cellS 0).flag (Ob.cellEnable 3) = true ∧
     (cellS 0).diel.served.contains 3 = false ∧ 3 * 50000 ≤ cycleTime (cellS 0) ∧ cycleTime (cellS 0) < 3 * 50000 + 50000) ∧
    (cellS 0).diel.cells[(3 : Fin 4)].slot = some (slot 0) ∧ ((slot 0).wc : Int) + (slot 0).n * 2500 ≤ (cellS 0).wc - (cellS 0).diel.stepped ∧
    (cellS 2).diel.cells[(3 : Fin 4)].slot = some (slot 2) ∧ (slot 2).kind ≠ 0 := by decide +kernel
def capS : State := { pre with diel := { pre.diel with cells := pre.diel.cells.set 3 { pre.diel.cells[3] with capture := 1, sweeps := 16 } } }
def pendS : State :=
  { pre.put (Ob.cellCalStatus 0) 2 with
    diel := { pre.diel with cells := pre.diel.cells.set 0 { pre.diel.cells[0] with pend := some ([], 0), leff := some 0 } } }
theorem wit_Calibration :
    (capS.diel.cells[(3 : Fin 4)].capture ≠ 0 ∧ 16 ≤ capS.diel.cells[(3 : Fin 4)].sweeps) ∧ pendS.diel.cells[(0 : Fin 4)].pend = some ([], 0) ∧
    pendS.diel.cells[(0 : Fin 4)].leff = some 0 ∧ served pendS (.calAccept fw 0) = true := by decide +kernel

/-! ### Witnesses: loops and sequencing -/

def loopS : State :=
  { ope.puts [(Ob.loopActive 511, 1), (Ob.engStateEngineState 17, 3)] with
    loops := [newLoop 511 (restCtx []) false], queue := [⟨511, 0, 0, 0, false, []⟩], service := [⟨511, 0, 0, 0, 0, [], computeSample ope (newLoop 511 (restCtx []) false) 0, none, []⟩] }
theorem wit_Samples :
    let t := reach loopS 9
    t.inOperate = true ∧ engineServes t 17 = true ∧ engineServes t 0 = true ∧ (t.service.filter (fun v => v.engine == 17)).length < 12 ∧
    nextSample t = some ⟨511, 0, 0, 0, false, []⟩ ∧ (loopOf t 511).isSome = true ∧
    (inService t 511).map (fun v => (v.missing, v.engine)) = some ([], 0) ∧ (20000 : Nat) - 0 ≤ 20000 ∧ (20000 : Nat) < 20001 - 0 := by decide +kernel
theorem wit_Traces :
    (traceActs (pre.put (Ob.traceState 7) 3) 7 1 = true ∧ traceActs (pre.put (Ob.traceState 0) 1) 0 2 = true) ∧ injBusy pre 31 = false := by
  decide
/-- A load of 2.0 over the last second. -/
def loadS : State := { ope with loads := [(0, 0x40000000)] }
theorem wit_Engines :
    pre.due .loopLoad 1000000 = true ∧ loadS.due .loopLoad 1000000 = true ∧
    FX.gt (loadOver pre) FX.one = false ∧ FX.gt (loadOver loadS) FX.one = true ∧ pre.ob (Ob.engStateEngineState 17) ≠ 4 := by decide +kernel
theorem wit_Rounds :
    ope.inOperate = true ∧ ope.appDown = false ∧ ope.wc % 10000 = 0 ∧ ope.seq.busyTo ≤ ope.osc ∧
    ({ ope with seq := { ope.seq with busyTo := 100000001 } } : State).osc < 100000001 ∧ ope.wc % 10000000 = 0 ∧
    ({ ope with seq := { ope.seq with first := false } } : State).seq.first = false ∧ ope.seq.lastWc = ope.wc := by decide

/-! ### Witnesses: the message bus -/

def frame0 : CanFrame := ⟨true, false, false, false, false, 0x1234567, 0, []⟩
def entry0 : RxEntry := ⟨0, frame0, 0, true, false, 0⟩
def busS (status : Nat) (f : BusSt → BusSt) : State :=
  { pre.put (Ob.busStatus 3) status with bus := pre.bus.set 3 (f { pre.bus[3] with started := true }) }
theorem wit_BusControl :
    ((busS 0x100 id).bus[(3 : Fin 4)].started = true ∧ busBit (busS 0x100 id) 3 8 = true ∧ busBit (busS 0x100 id) 3 11 = false) ∧
    (busS 0 id).bus[(3 : Fin 4)].chosen = none ∧ pre.bus[(0 : Fin 4)].started = false := by decide
theorem wit_BusFrames :
    onBus (busS 2 id) 3 = true ∧ activeBuf (busS 2 (fun b => { b with chosen := some 2 })) 3 = some 2 ∧
    (releaseEntry (busS 2 (fun b => { b with rxq := [entry0] })) 3).isSome = true ∧ isWorust entry0 = true ∧
    isWorust { entry0 with matched := false } = false ∧ (busS 2 id).bus[(3 : Fin 4)].mode ≠ 3 ∧
    hearsFrame (reach (busS 2 id) 9) 3 (carriedFrame frame0) = true ∧ serverUp (busS 2 id) = true  := by decide
theorem wit_Recovery :
    (busBit (busS 0x800 id) 3 11 = true ∧ (busS 0x800 id).bus[(3 : Fin 4)].recovReq = false ∧
     (busS 0x800 id).bus[(3 : Fin 4)].busOffAt + ((busS 0x800 id).put (Ob.busRecoveryMode 3) 1).micros (Ob.busRecoveryDelay 3) ≤ (busS 0x800 id).osc) ∧
    (busS 0x1000 id).appDown = false ∧ 128 ≤ recoveryRunsMost (reach (busS 0x1000 id) 0) 3 ∧ (busS 0x1000 id).bus[(3 : Fin 4)].started = true ∧ busBit (busS 0x1000 id) 3 12 = true ∧ busBit pre 0 14 = false ∧
    busBit (pre.put (Ob.busStatus 0) 0x8000) 0 15 = true ∧ (busS 0 (fun b => { b with recovReq := true })).bus[(3 : Fin 4)].recovReq = true := by
  decide +kernel

/-! ### Witnesses: network and wake -/

def pointS : State :=
  { pre.puts [(Ob.chanChannelType 9, 8), (Ob.chanSourceBinding 9, 0x0B030501)] with net := { pre.net with points := [(9, 1000)] } }
def pubS (delta value : Nat) : State :=
  pre.puts [(Ob.pubEnable 31, 1), (Ob.pubChannel 31, 0), (Ob.pubDelta 31, delta), (Ob.chanChannelType 0, 1), (Ob.chanValue 0, value)]
theorem wit_Points :
    (boundChans pointS 8 0x0B 3 0x501).filter (fun c => match assoc pointS.net.points c with
      | some t => decide (t + pointS.micros Ob.worustPointTimeout ≤ pointS.osc)
      | none => false) = [9] ∧
    pubDue (pubS 0 0) 31 = true ∧ pubMoved (pubS 0x3F000000 0x3F800000) 31 = true ∧ pubMoved (pubS 0x3F000000 0) 31 = false ∧
    (pubS 0x3F000000 0).due (.publication 31) 10000 = true ∧ pointS.bus[(0 : Fin 4)].started = false ∧ serverUp heard = true ∧
    heard.bus[(0 : Fin 4)].started = true := by
  decide +kernel
def timeS (source : Nat) : State :=
  { pre.puts [(Ob.wcSyncSource, source), (Ob.tsyncMasterChannels, 8), (Ob.tsyncBusSyncChannel, 3), (Ob.ipIpStatus, 1)] with
    wc := 5000, net := { pre.net with pollOpen := source == 1, pollTid := 9, pollT1 := 1000 }
    bus := pre.bus.set 3 { pre.bus[3] with started := true, held := [(8, 50, 99100000), (9, 100, 99000000)] } }
theorem wit_Time :
    masterDue (timeS 0) 3 = true ∧ followsBus (reach (timeS 2) 9) 3 = true ∧ followsBus (timeS 2) 3 = true ∧
    (timeS 2).bus[(3 : Fin 4)].held.find? (fun h => h.1 == 9 && decide ((timeS 2).osc ≤ h.2.2 + 1000000)) = some (9, 100, 99000000) ∧ ipUp (timeS 1) = true ∧
    pollDue { timeS 1 with net := { (timeS 1).net with pollOpen := false } } = true ∧
    ((timeS 1).ob Ob.wcSyncSource = 1 ∧ (timeS 1).net.pollOpen = true ∧ (timeS 1).net.pollTid = 9 ∧
     ((reach (timeS 1) 5).wc : Int) - ((timeS 1).net.pollT1 : Int) - ((7 : Int) - 6) ≤ 10000) := by decide +kernel
def netS : State :=
  { pre.puts [(Ob.ethEnable 1, 1), (Ob.ethLinkStatus 0, 2), (Ob.ipIpStatus, 2), (Ob.ipAddressMode, 1), (Ob.ipAddress, 0x0A000001)] with
    net := { pre.net with leaseEnd := 100000000 } }
theorem wit_Addresses :
    (netS.flag (Ob.ethEnable 1) = true ∧ linkAdmits (netS.ob (Ob.ethLinkMode 1)) 5 = true ∧ netS.winter.stage ≤ 1 ∧
     netS.ob (Ob.ethLinkStatus 1) ≠ 5) ∧ netS.ob (Ob.ethLinkStatus 0) ≠ 0 ∧ (ipBit netS 1 = true ∧ netS.net.leaseEnd ≤ netS.osc) ∧
    ((netS.put Ob.ipIpStatus 0).ob Ob.ipAddressMode = 1 ∧ ipBit (netS.put Ob.ipIpStatus 0) 1 = false ∧
     netS.net.retryAt + 10000000 ≤ netS.osc) ∧ (linked netS 0 || linked netS 1) = true ∧ netS.ob Ob.ipAddress ≠ 0 ∧
    (netS.net.stormSeen = false ∧ ({ netS with net := { netS.net with stormSeen := true, stormAt := 99000001 } } : State).osc < 99000001 + 1000000) := by
  decide
def asleep (mode : Nat) : State :=
  { pre.puts [(Ob.wakeWakeEnable 3, 1), (Ob.wakeWakeMode 3, mode), (Ob.wakeWakeId 3, 0x80000000)] with
    phase := .winter, bus := pre.bus.set 3 { pre.bus[3] with asleep := true, errCount := 32 } }
theorem wit_Wake :
    armed (asleep 0) 3 0 = true ∧ armed (asleep 1) 3 1 = true ∧ wakeMatches (asleep 1) 3 (carriedFrame { frame0 with id := 0 }) = true ∧
    32 ≤ (asleep 1).bus[(3 : Fin 4)].errCount := by decide +kernel

/-! ### Witnesses: field interfaces -/

def pinS (status : Nat) (p : PinSt → PinSt) : State :=
  { pre.puts [(Ob.pinPinStatus 31, status), (Ob.pinWireBreakEnable 31, 1), (Ob.pinOpenLoadEnable 31, 1), (Ob.groupGroupStatus 3, 0)] with
    pins := pre.pins.set 31 (p pre.pins[31])
    link := { pre.link with rx := { pre.link.rx with io := List.replicate 32 true } } }
theorem wit_ShortPulse : Safe pre ∧ 2999 < pre.micros (Ob.pinFilterTime 31) ∧ pre.micros (Ob.pinFilterTime 31) ≤ 3000 :=
  ⟨⟨fun h => absurd rfl h, rfl, rfl⟩, by decide +kernel⟩
theorem wit_Pins :
    (pinS 0 id).due (.pulseRate 31) 10000 = true ∧
    (wireWatched (pinS 0 (fun p => { p with dir := 1 })) 31 = true ∧ pinBit (pinS 0 id) 31 3 = false ∧ pinBit (pinS 8 id) 31 3 = true) ∧
    (pinS 0 (fun p => { p with drive := true })).pins[(31 : Fin 32)].drive = true ∧
    (pinBit (pinS 32 id) 31 5 = true ∧ pinBit (pinS 32 id) 31 6 = false ∧ pinAsked (pinS 32 id) 31 = true ∧
     (pinS 32 id).pins[(31 : Fin 32)].overAt + 100000 ≤ (pinS 32 id).osc) ∧
    ((pinS 0 id).flag (Ob.pinOpenLoadEnable 31) = true ∧ pinBit (pinS 0 id) 31 7 = false) := by decide +kernel
theorem wit_PinReset : served pre (.pinReset fw 31) = true ∧ pinBit pre 31 6 = false ∧ Ready pre := ⟨by decide, by decide, rfl, rfl, rfl⟩
def silentS (n : Nat) : State :=
  { pre.put Ob.silenceSilenceState n with link := { pre.link with downRun := 100 } }
theorem wit_Groups :
    groupBit pre 2 0 = false ∧ groupBit pre 0 1 = false ∧ restorable (pre.put (Ob.groupGroupStatus 2) 1) 1 = true ∧
    ((silentS 0).ob Ob.silenceSilenceState = 0 ∧ (silentS 0).link.downAt + (silentS 0).micros Ob.silenceSilenceTime ≤ (silentS 0).osc) ∧
    ((silentS 1).ob Ob.silenceSilenceState = 1 ∧ (silentS 1).silenceAt + (silentS 1).micros Ob.silenceAllOffTime ≤ (silentS 1).osc) ∧
    ((silentS 2).ob Ob.silenceSilenceState ≠ 0 ∧ 100 ≤ (silentS 2).link.downRun) ∧ pre.due .safeCopy 10000 = true := by decide +kernel
/-- Silence with a frame since SilenceState 1, and none since then for SilenceTime. -/
def frameS : State := writeSafeCopy { silentS 1 with silenceAt := 1000, link := { (silentS 1).link with downAt := 2000 } }
theorem wit_SilenceAnew :
    (silentS 1).link.downAt ≤ (silentS 1).silenceAt ∧ frameS.silenceAt < frameS.link.downAt ∧
    frameS.link.downAt + frameS.micros Ob.silenceSilenceTime ≤ frameS.osc ∧ copyOk (checkCopy frameS) = true := by decide +kernel
def aiS : State :=
  { pre.puts [(Ob.aiEnable 15, 1), (Ob.rtEnable 7, 1)] with ai := pre.ai.set 15 ⟨[1, 1, 1, 1], [0, 0, 0, 0], ⟨99990000, true, true⟩⟩ }
def aoS (status : Nat) : State :=
  { pre.put (Ob.aoOutputStatus 7) status with
    ao := pre.ao.set 7 { pre.ao[7] with shortTicks := 3, clearTicks := 3, lowSince := 99900000, overAt := 99000000 } }
theorem wit_Analog :
    readingBeyond aiS (.ai 15 0x3D4CCCCD) = false ∧ readingBeyond aiS (.ai 15 0x3D4CCCCE) = true ∧
    aiS.flag (Ob.aiEnable 15) = true ∧ aiS.ai[(15 : Fin 16)].win.endAt ≤ aiS.osc ∧ aiS.flag (Ob.rtEnable 7) = true ∧
    aiS.rt[(7 : Fin 8)].win.endAt ≤ aiS.osc ∧ condDue aiS 15 .wireBreak = some true ∧
    (aoBit (aoS 0) 7 1 = false ∧ 3 ≤ (aoS 0).ao[(7 : Fin 8)].shortTicks) ∧ (aoBit (aoS 2) 7 1 = true ∧ 3 ≤ (aoS 2).ao[(7 : Fin 8)].clearTicks) ∧
    (aoBit (aoS 0) 7 5 = false ∧ (aoS 0).ao[(7 : Fin 8)].lowSince ≠ 0 ∧ (aoS 0).ao[(7 : Fin 8)].lowSince + 100000 ≤ (aoS 0).osc) ∧
    aoBit (aoS 0) 7 6 = false ∧ (aoBit (aoS 64) 7 6 = true ∧ (aoS 64).ao[(7 : Fin 8)].overAt + 1000000 ≤ (aoS 64).osc) := by decide +kernel
theorem wit_Trim :
    (pre.put (Ob.aoTrimStatus 7) 1).ob (Ob.aoTrimStatus 7) = 1 ∧ served (pre.put (Ob.aoTrimStatus 7) 1) (.trimMeasuredWrite fw 7 0x3B83126F) = true ∧
    (pre.put (Ob.aoTrimStatus 7) 3).ob (Ob.aoTrimStatus 7) = 3 := by decide
def fanS (mode status : Nat) (g : FanSt → FanSt) : State :=
  { pre.puts [(Ob.fanControlMode 7, mode), (Ob.fanFanStatus 7, status), (Ob.fanEnable 7, 1), (Ob.fanTachPulses 7, 2)] with
    fans := pre.fans.set 7 (g { pre.fans[7] with lastEdge := 99500000 }) }
theorem wit_Fans :
    (fanBit (fanS 2 1 id) 7 0 = true ∧ fanBit (fanS 2 1 id) 7 4 = false) ∧
    (fanBit (fanS 2 16 id) 7 4 = true ∧ fanBit (fanS 2 16 id) 7 3 = false ∧ (fanS 2 16 id).fans[(7 : Fin 8)].overAt + 1000000 ≤ (fanS 2 16 id).osc) ∧
    ((fanS 2 256 id).ob (Ob.fanTachPulses 7) ≠ 0 ∧ fanBit (fanS 2 256 id) 7 8 = true ∧ (fanS 2 256 id).fans[(7 : Fin 8)].lossAt + 500000 ≤ (fanS 2 256 id).osc) ∧
    ((fanS 2 1 (fun x => { x with lagSince := 97000000 })).fans[(7 : Fin 8)].lagSince ≠ 0 ∧ 97000000 + 3000000 ≤ (fanS 2 1 id).osc ∧
     fanBit (fanS 2 1 id) 7 2 = false) := by decide +kernel
def fanOn (start : FanStart) (g : FanSt → FanSt) : State :=
  fanS 2 3 (fun x => g { x with runSince := 98000000, start := start, value := 0x40A00000, applied := 0x41400000, regOn := true, wasOn := true })
theorem wit_FanTimers :
    regulates (fanOn .none id) 7 = true ∧ (fanOn .none id).due (.fanSpeed 7) 10000 = true ∧ kickExpired (fanOn (.kick 3) id) 7 = some 3 ∧ retryKick (fanOn (.wait 1) id) 7 = some 1 ∧
    stallDue (fanOn .none (fun x => { x with lowSince := 98000000 })) 7 = true ∧
    learnDue (fanOn .none (fun x => { x with learnAt := 90000000, learnCount := 3 })) 7 = true ∧
    tachLossDue (fanOn .none (fun x => { x with lastEdge := 99000000 })) 7 = true := by decide +kernel
theorem wit_FanReset :
    served pre (.fanReset fw 7) = true ∧ pre.sec.resetDue = none ∧ fanBit pre 7 3 = false ∧ fanBit pre 7 4 = false ∧ fanBit pre 7 5 = false ∧
    Ready pre :=
  ⟨by decide, by decide, by decide, by decide, by decide, rfl, rfl, rfl⟩

/-! ### Witnesses: thermal management, supplies, seasons -/

def hot (state status level : Nat) : State :=
  { pre.puts [(Ob.thermThermalState, state), (Ob.thermThermalStatus, status), (Ob.thermThrottleLevel, level), (Ob.thermH5Mode, 1),
      (Ob.thermTMax, 0x42C80000)] with wc := 250000, therm := { pre.therm with roundAt := some 100000000 } }
theorem wit_Thermal :
    baseBeyond 0x42AA0000 = false ∧ baseBeyond 0x42AA0001 = true ∧ (hot 0 32 0).therm.roundAt = some (hot 0 32 0).osc ∧
    policyRuns pre = true ∧ policyRuns { State.reset with phase := .boot 4 } = true ∧ (hot 2 0 0).lastRun .thermalRound ≠ (hot 2 0 0).wc / 250000 ∧
    fastRuns (hot 2 0 0) = true ∧ (hot 2 0 0).lastRun .fastSample ≠ (hot 2 0 0).wc / 10000 ∧
    graceDue (hot 2 8 0) = true ∧ (levelDue (hot 2 0 3) = true ∧ 2 ≤ (hot 2 0 3).ob Ob.thermThermalState) ∧
    (levelDue (hot 1 0 1) = true ∧ (hot 1 0 1).ob Ob.thermThermalState < 2) ∧
    (thermBit (hot 0 32 0) 5 = true ∧ (hot 0 32 0).therm.holdAt + 60000000 ≤ (hot 0 32 0).osc) := by decide +kernel
def halted : State := { State.reset with phase := .halt, supply := { State.reset.supply with latch := true } }
/-- A junction at the given temperature for the given µs; the threshold of the open straps is 115 °C. -/
def warm (celsius : Word) (held : Nat) : State := { pre with supply := { pre.supply with junctions := pre.supply.junctions.set 1 ⟨celsius, held⟩ } }
theorem wit_Halt :
    (Safe (warm 0x42E60001 1000) ∧ powered (warm 0x42E60001 1000) = true ∧ comparatorTrips (warm 0x42E60001 1000) = true) ∧ Safe halted ∧ halted.phase = .halt ∧ goes .mpMiss halted = true :=
  ⟨⟨⟨fun h => absurd rfl h, rfl, rfl⟩, by decide, by decide +kernel⟩, ⟨fun _ _ => ⟨by decide, by decide, by decide⟩, rfl, rfl⟩, by decide, by decide⟩
def supS (source status : Nat) : State := pre.puts [(Ob.supplySource, source), (Ob.supplySupplyStatus, status)]
theorem wit_Supplies :
    sourceOf (supS 1 6) ≠ 0 ∧ (sourceOf (setSupplyBit (supS 0 6) 1 false) = 0 ∧ supplyBit (setSupplyBit (supS 0 6) 1 false) 2 = true) ∧
    supplyBit (setSupplyBit (supS 0 2) 1 false) 2 = false ∧
    (sourceOf (setSupplyBit (supS 1 4) 1 true) = 1 ∧ sourceOf (setSupplyBit (supS 0 4) 1 true) ≠ 1) ∧
    (supplyBit (supS 1 6) 2 = true ∧ sourceOf (setSupplyBit (supS 1 6) 2 false) = 1 ∧ sourceOf (setSupplyBit (supS 0 6) 2 false) ≠ 1) ∧
    supplyBit (supS 0 2) 2 = false ∧ FX.gt (FX.ofBits32 0x42200000) (FX.ofNat 40) = false ∧ FX.gt (FX.ofBits32 0x42200001) (FX.ofNat 40) = true ∧
    (sourceOf (supS 2 8) = 2 ∧ (supS 2 8).plant.ckptRun = none ∧ (supS 2 8).winter.stage = 0 ∧ supplyBit (supS 2 8) 6 = false) ∧
    (sourceOf pre ≠ 2 ∧ ({ pre with osc := 86400000000 } : State).supply.testAt + 86400000000 ≤ 86400000000) := by decide +kernel
def heldS (kind : Option Nat) (phase : Phase) : State :=
  { supS 2 8 with phase, plant := { pre.plant with ckptRun := kind.map (fun k => ⟨k, 0, 0, ckptBody pre⟩) } }
theorem wit_Holdup :
    railsUp (heldS none (.boot 4)) = true ∧ (heldS (some 2) .run).plant.ckptRun.map (fun r => r.kind) = some 2 ∧
    (heldS (some 1) .run).plant.ckptRun.map (fun r => r.kind) = some 1 ∧ supplyBit (heldS (some 2) .run) 6 = false ∧
    ({ heldS none .run with winter := ⟨2, 0, true⟩ } : State).winter.stage ≠ 0 ∧ chains (heldS none .run) = true ∧ chains (heldS none (.boot 4)) = false ∧ supplyBit (supS 2 0x48) 6 = true := by decide +kernel
theorem wit_Winter :
    ({ pre with winter := ⟨1, 99900000, false⟩ } : State).winter.at_ + 100000 ≤ pre.osc ∧ ({ pre with winter := ⟨2, 0, true⟩ } : State).winter.stage = 2 := by decide
def off (cause : Nat) : State := { State.reset with phase := .off, supply := { State.reset.supply with upCause := cause } }
theorem wit_StartUp :
    (off 0).phase = .off ∧ (off 0).supply.upCause = 0 ∧ (off 1).supply.upCause = 1 ∧
    (bootDo (({ State.reset with phase := .boot 2, nand := { State.reset.nand with revoked := 15 } } : State).elapse 10) 2 0 0).boot.recovery = true ∧ State.reset.boot.recovery = false ∧
    (bootDo (State.reset.elapse (min 15000 15000)) 0 0 0x42340000).boot.recovery = false ∧
    (bootDo (({ State.reset with phase := .boot 7 } : State).elapse 10) 7 0 0x42340000).boot.recovery = false ∧ boot8.phase = .boot 8 := by decide +kernel
theorem wit_Strap : ([0, 0, 0, 0, 100000, 100000, 100000] : List Nat).length = 7 := rfl
theorem wit_Rail :
    (railsUp State.reset = true ∧ State.reset.router.raised = [] ∧ State.reset.sec.commit = none ∧ State.reset.phase ≠ .run) ∧
    (railsUp pre = true ∧ pre.router.raised = [] ∧ pre.sec.commit = none ∧ pre.phase = .run) := by decide

/-! ### Witnesses: configuration, security, fault masking -/

def committing : State := { pre with sec := { pre.sec with commit := some ⟨0, [], 0⟩ } }
theorem wit_Config :
    (committing.sec.commit.isSome = true ∧ committing.mgmtDown = false) ∧ chains pre = true ∧ pre.due .keySample 1000 = true ∧
    chains { State.reset with phase := .boot 6 } = true ∧
    writeCodes (pre.put Ob.configActiveSlot 0) (writeReq fw Ob.configConfigCommand .u8 [2]) (configCodes (pre.put Ob.configActiveSlot 0) 2) (revertEff (originOf fw)) = [] := by decide +kernel
theorem wit_Key :
    keyBeyond 0x42000000 = false ∧ keyBeyond 0x42000001 = true ∧ keyBeyond 0xBF000000 = false ∧
    10 ≤ (List.replicate 10 0x3F800000).length ∧ FX.le (FX.ofBits32 0x3F800000) FX.one = true ∧
    FX.lt (FX.ofBits32 0x40200000) (FX.ratio 5 2) = false := by decide +kernel
def recovering (image : Image) : State :=
  { State.reset with phase := .boot 1, boot := { State.reset.boot with recovery := true, recovNext := some 1024 }, nand := { State.reset.nand with imageA := image } }
theorem wit_Update :
    writeCodes (pre.puts [(Ob.updateUpdateState, 1), (Ob.updateUpdateTarget, 0)]) (writeReq fw Ob.updateUpdateCommand .u8 [2])
      (updateCodes (pre.puts [(Ob.updateUpdateState, 1), (Ob.updateUpdateTarget, 0)]) 2) updateVerify = [] ∧
    recoveryRuns (recovering (.flash [])) = true ∧ (recovering (.flash [])).boot.recovNext = some 1024 ∧ 1024 + 1024 ≤ slotBytes ∧
    (recovering (.flash [])).nand.imageA = .flash [] ∧ (imageInfo (recovering (.delivered 0 0 0 0)) false).isSome = true := by decide +kernel
def rescue : Datagram := ⟨[2, 0, 0, 0, 0, 4, 0, 0, 1, 0, 0, 0, 0xAA], 0xC0A80A0A, 48411, true, 0⟩
theorem wit_RecoveryDatagram :
    rescue.sound = true ∧ rescue.toAddr.toNat = recoveryAddress ∧ rescue.toPort.toNat = recoveryPort ∧
    (0xC0A80A14 : BitVec 32).toNat / 256 = recoveryAddress / 256 ∧ rescue.bytes.length = 12 + leAt rescue.bytes 8 2 ∧
    leAt rescue.bytes 8 2 ≤ 1024 ∧ leAt rescue.bytes 0 1 = 2 ∧
    (nextOf (.udpDatagram 0 0xC0A80A14 5000 rescue) (recovering (.flash []))).boot.recovNext = some 1025 := by decide +kernel
theorem wit_Erase : ({ pre with nand := { pre.nand with old := some pre.nand.store } } : State).nand.old.isSome = true := rfl
def pairsDown : State := { pre with appDown := true, mgmtDown := true, pairs := { pre.pairs with appDownAt := 95000000, mgmtDownAt := 95000000 } }
theorem wit_Faults :
    1 < pre.ob Ob.modelEnginesWorking ∧ (pre.put Ob.modelEnginesWorking 1).ob Ob.modelEnginesWorking = 1 ∧
    (pairDown pre .app = false ∧ pairRetry pre .app = false ∧ pairRetry { pre with pairs := { pre.pairs with mgmtRetry := true } } .mgmt = true) ∧
    (pairDown pairsDown .app = true ∧ pairDown pairsDown .mgmt = true ∧ pairsDown.pairs.appDownAt + 5000000 ≤ pairsDown.osc) ∧
    (InternalKind.recordLost, 3) ∈ [(InternalKind.noLoopEngine, 0), (.noParcelEngine, 1), (.link, 2), (.recordLost, 3)] ∧
    pre.stBit Ob.faultFaultStatus 3 = false ∧ pre.mgmtDown = false ∧ pre.due .counterSave 60000000 = true := by decide +kernel
theorem wit_Encoder :
    railsUp pre = true ∧ pre.enc[(7 : Fin 8)].off = false ∧
    ({ pre with enc := pre.enc.set 7 ⟨true, 99000000⟩ } : State).enc[(7 : Fin 8)].offAt + 1000000 ≤ pre.osc := by decide
/-- Pin 7 in limit `d` µs after its retry. -/
def encAfterRetry (d : Nat) : State := { pre with enc := pre.enc.set 7 ⟨false, pre.osc - d⟩ }
/-- Both branches of a limit (log entry 105): within 20 ms of the retry its time stays, from 20 ms on and with no retry the limit's own counts. -/
theorem wit_EncoderRetry :
    railsUp (encAfterRetry 19999) = true ∧ (encAfterRetry 19999).enc[(7 : Fin 8)].offAt ≠ 0 ∧
    (nextOf (.enc24CurrentLimit 7) (encAfterRetry 19999)).enc[(7 : Fin 8)] = ⟨true, pre.osc - 19999⟩ ∧
    (nextOf (.enc24CurrentLimit 7) (encAfterRetry 20000)).enc[(7 : Fin 8)] = ⟨true, pre.osc⟩ ∧
    pre.enc[(7 : Fin 8)].offAt = 0 ∧ (nextOf (.enc24CurrentLimit 7) pre).enc[(7 : Fin 8)] = ⟨true, pre.osc⟩ := by decide +kernel
/-- A block of exactly 65,536 bytes is taken in UpdateState 1 (R472). -/
theorem wit_updateBlock (d : List Byte) (h : d.length = 65536) :
    Applies (pre.put Ob.updateUpdateState 1) fw Ob.updateUpdateBlock .domain d (updateBlockCodes (pre.put Ob.updateUpdateState 1))
      (updateBlockEff d) := by
  refine ⟨⟨by decide, rfl, rfl, by decide⟩, ?_⟩
  have hb : (findBlock 0xA010).isSome = true := by decide +kernel
  obtain ⟨b, hb⟩ := Option.isSome_iff_exists.mp hb
  have hr : findRow 0xA010 3 = some ⟨3, 3, .domain, .wo, 0, .len 65536 65536, false, 0⟩ := by decide +kernel
  have hg : gateCodes (pre.put Ob.updateUpdateState 1) ⟨0, 0, 0⟩ 0xA010 ⟨3, 3, .domain, .wo, 0, .len 65536 65536, false, 0⟩ = [] := by
    decide +kernel
  have hx : xferOpen (pre.put Ob.updateUpdateState 1) 0xA010 3 = false := by decide
  have hu : updateBlockCodes (pre.put Ob.updateUpdateState 1) = [] := by decide
  have hc : constrained (pre.put Ob.updateUpdateState 1) = false := by decide
  have hw : writeReq fw Ob.updateUpdateBlock .domain d = ⟨⟨⟨0, 0, 0⟩, 0, 0, false⟩, false, 0xA010, 3, 12, d, none, []⟩ := rfl
  simp [writeCodes, baseCodes, hw, hb, hr, hg, hx, hu, hc, sizeCodes, tyCode, h]
/-! ### Ill-formed commands, one for each check, are refused -/

def nan : Word := 0x7FC00000
def illFormed : List Instr :=
  [.tickBoundary true [.ioCurrent 0 nan], .tickBoundary true [.groupVolts 0 nan], .tickBoundary true [.txCurrent 0 nan false],
   .tickBoundary true [.aoReadback 0 nan 0 false], .tickBoundary true [.aoReadback 0 0 nan false], .tickBoundary true [.fanCurrent 0 nan],
   .tickBoundary true [.supplyVolts 0 nan], .tickBoundary true [.supplyCurrent 0x7F800000], .tickBoundary true [.junction 0 nan 0], .txChoice ⟨0, 0, 101⟩, .recoveryComplete ⟨0, 0, -101⟩,
   .segopen { ask with via := .bus 0 0 } 0 0 0 true 0, .segment { ask with tid := 256 } 0 false [], .segment ask 0 true (List.replicate 8 0),
   .segment { ask with fd := true } 0 true (List.replicate 64 0), .segend { askUdp with fd := true } 0,
   .segmentTimeout { ask with via := .bus 0 0 }, .indexSnapshotRead { ask with tid := 256 } 0, .dielectricReading 0 (List.replicate 17 ⟨0, 0, 0, 0⟩) ⟨false, false⟩ false,
   .caldataWrite fw 0 [], .busError 0 0 ⟨false, .frame⟩ false false 0 0, .busError 0 7 ⟨false, .frame⟩ false false 0 0,
   .frameReceived 0 ⟨false, false, false, false, false, 2 ^ 11, 0, []⟩ 0 0, .frameReceived 0 ⟨false, false, false, false, false, 0, 16, List.replicate 8 0⟩ 0 0,
   .frameReceived 0 ⟨false, true, true, false, false, 0, 0, []⟩ 0 0, .frameReceived 0 ⟨false, false, false, true, false, 0, 0, []⟩ 0 0,
   .frameReceived 0 ⟨false, false, false, false, true, 0, 0, []⟩ 0 0, .frameReceived 0 ⟨false, true, false, false, false, 0, 1, [0]⟩ 0 0,
   .wakeFrame 0 ⟨true, false, false, false, false, 2 ^ 29, 0, []⟩, .rawTxFrame fw 0 (List.replicate 15 0), .rawTxFrame fw 0 (List.replicate 81 0),
   .worustRead { ask with via := .bus 0 0 } 0 0, .worustWrite ask 0 0 0 (List.replicate 9 0), .worustAbort { ask with tid := 256 } 0,
   .segmentAck { askUdp with fd := true } 0, .pointReceived 0 0 0 0 0 0, .pointTimeout 0 0x00FF, .pointTimeout 0 0x8000,
   .conversionWindow (.ai 0 nan), .conversionWindow (.rt 0 nan 0 false false), .conversionWindow (.rt 0 0 nan false false), .housekeepingRound [] 0,
   .fastSample [], .overvolt 0 nan, .holdupTest nan, .powerOn false false (List.replicate 7 0) (List.replicate 7 0) (List.replicate 7 0),
   .powerOn true false [] (List.replicate 7 0) (List.replicate 7 0), .powerOn true false (List.replicate 7 0) [] (List.replicate 7 0),
   .powerOn true false (List.replicate 7 0) (List.replicate 7 0) [], .bootStep 0 nan 0, .bootStep 0 0 nan, .cfgEnSample nan, .updateBlock fw [],
   .uncorrectableError (.accounts [])]
theorem test_illFormed : illFormed.all (fun i => !i.wellFormed) = true := by decide +kernel
/-- The limits of length that are too long to write out. -/
theorem test_tooLong (n : Nat) :
    (1048576 < n → (Instr.objectWrite fw 0 0 0 (List.replicate n 0)).wellFormed = false) ∧
    (1472 < n → (Instr.udpDatagram 0 0 0 ⟨List.replicate n 0, 0, 0, true, 0⟩).wellFormed = false) ∧
    (1024 < n → (Instr.recoveryImageData 0 0 0 (List.replicate n 0)).wellFormed = false) ∧
    (1024 < n → (Instr.segment askUdp 0 true (List.replicate n 0)).wellFormed = false) := by
  refine ⟨?_, ?_, ?_, ?_⟩ <;> intro h <;> simp [Instr.wellFormed, transferOk, segmentOk, askUdp] <;> omega
theorem test_wellFormed :
    ([.tickBoundary true [.ioCurrent 0 0], .segment ask 0 true (List.replicate 7 0), .frameReceived 0 ⟨true, false, true, true, true, 2 ^ 29 - 1, 15, List.replicate 64 0⟩ 0 0,
      .powerOn true false (List.replicate 7 0) (List.replicate 7 0) (List.replicate 7 0), .pointTimeout 0 0x7FFF] : List Instr).all Instr.wellFormed = true := by
  decide +kernel
/-- The table gives no row any bits: no word spells a command. -/
theorem test_noWords (nbits w : Nat) : decodeTableWord nbits w = none := rfl

/-! ### Commands against the spec's figures -/

/-- A figure within 2⁻ᵏ of another. -/
def near (x y : FX) (k : Nat) : Bool := FX.lt (FX.abs (FX.sub x y)) (FX.ratio 1 (2 ^ k))

/-- The stations of R332's example: node 20 reads 0x4290:08 from node 5 with TID 0x3A and PRIO 4. -/
def station : Request := ⟨.bus 0 20, 0x3A, 4, false⟩
def moduleFive : State :=
  { pre.puts [(Ob.worustNodeId, 5), (Ob.pmodelPredLead 0, 0x4197C28F), (Ob.ethLinkStatus 0, 2), (Ob.ipIpStatus, 1), (Ob.ipAddress, 0x0A000001), (Ob.ipMask, 0xFFFFFF00), (Ob.worustUdpPort, 48410)] with
    bus := pre.bus.set 0 { pre.bus[0] with started := true } }
/-- Its answer on the bus (buffer 1): RESPONSE with identifier 0x114A_053A and the bytes of 18.97 % w.b. -/
theorem test_worustRead :
    (nextOf (.worustRead station 0x4290 8) moduleFive).bus[(0 : Fin 4)].bufs[(1 : Fin 3)].frames.map (fun f => (f.id, f.data)) =
      [(0x114A053A, [0x09, 0x8F, 0xC2, 0x97, 0x41])] := by decide +kernel
/-- The same request as the datagram of the example. -/
theorem test_udpDatagram :
    (nextOf (.udpDatagram 0 0x0A000002 5000 ⟨[0x01, 0x02, 0x3A, 0x00, 0x03, 0x00, 0x00, 0x00, 0x90, 0x42, 0x08], 0x0A000001, 48410, true, 0⟩) moduleFive).net.ethOut.map
      (fun e => (e.addr, e.port, e.bytes.drop 8)) = [(0x0A000002, 5000, [0x09, 0x8F, 0xC2, 0x97, 0x41])] := by decide +kernel

/-! ### The cipher of R474, by the vectors of FIPS 197 (C.3) and IEEE 1619 (vector 10) -/

theorem test_aes256 :
    let rk := roundKeys (List.range 32)
    let plain := (List.range 16).map (· * 17)
    let out := [0x8E, 0xA2, 0xB7, 0xCA, 0x51, 0x67, 0x45, 0xBF, 0xEA, 0xFC, 0x49, 0x90, 0x4B, 0x49, 0x60, 0x89]
    aesEncipher rk plain = out ∧ aesDecipher rk out = plain := by decide +kernel
theorem test_xts :
    let key := [0x27, 0x18, 0x28, 0x18, 0x28, 0x45, 0x90, 0x45, 0x23, 0x53, 0x60, 0x28, 0x74, 0x71, 0x35, 0x26, 0x62, 0x49, 0x77, 0x57,
      0x24, 0x70, 0x93, 0x69, 0x99, 0x59, 0x57, 0x49, 0x66, 0x96, 0x76, 0x27, 0x31, 0x41, 0x59, 0x26, 0x53, 0x58, 0x97, 0x93, 0x23, 0x84,
      0x62, 0x64, 0x33, 0x83, 0x27, 0x95, 0x02, 0x88, 0x41, 0x97, 0x16, 0x93, 0x99, 0x37, 0x51, 0x05, 0x82, 0x09, 0x74, 0x94, 0x45, 0x92]
    let out := [0x1C, 0x3B, 0x3A, 0x10, 0x2F, 0x77, 0x03, 0x86, 0xE4, 0x83, 0x6C, 0x99, 0xE3, 0x70, 0xCF, 0x9B,
      0xEA, 0x00, 0x80, 0x3F, 0x5E, 0x48, 0x23, 0x57, 0xA4, 0xAE, 0x12, 0xD4, 0x14, 0xA3, 0xE6, 0x3B]
    xtsUnit false key 0xFF (List.range 32) = out ∧ xtsUnit true key 0xFF out = List.range 32 := by decide +kernel
/-- ENTER_SAFE (R74, R79): SAFE with SafeCause bit 0, and one record of the write. -/
theorem test_enterSafe :
    let t := nextOf (.enterSafe fw) pre
    t.ob Ob.opOperatingState = 3 ∧ t.staging.staged.length = 1 := by decide +kernel
theorem test_restart : (nextOf (.restart fw) pre).phase = .boot 0 ∧ (nextOf (.restart fw) pre).ob Ob.resetLastResetCause = 2 := by
  decide +kernel
/-- A write from outside by a plane that is disabled meets 0x0006_0002 (R457). -/
theorem test_planeDisabled :
    (nextOf (.purge node 0) (pre.put Ob.enableDataEnable 0)).ob Ob.abortLastAbortCode = 0x00060002 := by decide +kernel
/-- Nothing is served in BOOT (R75). -/
theorem test_boot : nextOf (.purge fw 0) State.reset = State.reset := by decide +kernel
/-- FilterTime after it, an accepted edge is counted and moves the position, and one that did not hold is a glitch (R86). -/
def gcLater (held : Nat) : State := pass (nextOf (.gcEdge 7 .a held ⟨3, 0⟩) (gcS 0)) 30
theorem test_gcEdge :
    (nextOf (.gcEdge 7 .a 1000 ⟨3, 0⟩) (gcS 0)).ob (Ob.gcPosition 7) = 0 ∧ (gcLater 1000).ob (Ob.gcPosition 7) = 1 ∧
    (gcLater 999).ob (Ob.gcGlitchCount 7) = 1 := by
  decide +kernel
/-- A second loss of signal is no new one (R91). -/
theorem test_gcSignalLoss : nextOf (.gcSignalLoss 7) (gcS 2) = gcS 2 := by decide +kernel
/-- The example of R346: the offset is 1,010 µs and the delay 440 µs; in OPERATE, WC is slewed. -/
def polled : State :=
  { (timeS 1).puts [(Ob.opOperatingState, 2), (Ob.wcSyncStatus, 3)] with
    wc := 5000000495, tickWc := 5000000500, net := { (timeS 1).net with pollOpen := true, pollTid := 9, pollT1 := 5000000000 } }
theorem test_timeReply :
    let t := nextOf (.timeReply 9 5000001230 5000001290 0) polled
    near (t.f Ob.tsyncLastDelay) (FX.ratio 440 1000000) 30 = true ∧ t.ob Ob.wcOffset = 1010 ∧ t.wcs.slew = 1010 := by decide +kernel
/-- TxOrder 0 sends the identifier that wins arbitration first, TxOrder 1 the lowest buffer (R310): 0x100, 0x080, 0x700 in buffers 0, 1, 2. -/
def three (order : Nat) : State :=
  let b (id : Nat) : TxBuf := { State.restTx with frames := [⟨false, false, false, false, false, id, 0, []⟩] }
  { (busS 2 (fun x => { x with bufs := ((x.bufs.set 0 (b 0x100)).set 1 (b 0x080)).set 2 (b 0x700) })).puts
      [(Ob.busTxOrder 3, order), (Ob.busTxBufferStatus 3 0, 1), (Ob.busTxBufferStatus 3 1, 1), (Ob.busTxBufferStatus 3 2, 1)] with
    wc := 0 }
theorem test_txChoice :
    let t := nextOf (.txChoice ⟨3, 4, 2⟩) (three 0)
    t.bus[(3 : Fin 4)].chosen = some 1 ∧ t.bus[(3 : Fin 4)].bufs[(1 : Fin 3)].sof = 6 ∧
    (nextOf (.txChoice ⟨3, 0, 0⟩) (three 1)).bus[(3 : Fin 4)].chosen = some 0 := by decide +kernel
/-- A start leaves an entry of the high-priority buffer that firmware has not released (R316). -/
theorem test_busEnable :
    let t := startBus (busS 10 (fun x => { x with hpb := some entry0 })) 3
    t.bus[(3 : Fin 4)].hpb.isSome = true ∧ busBit t 3 3 = true ∧ busBit t 3 1 = false := by decide +kernel
/-- Bus-off recovery is asked for once (R323). -/
theorem test_recoveryCommand :
    busBit (nextOf (.recoveryCommand fw 3) (busS 0x800 id)) 3 12 = true ∧
    (nextOf (.recoveryCommand fw 0) pre).ob Ob.abortLastAbortCode = 0x00030002 := by decide +kernel
/-- ADJUST_ADD (R147): a layer in the bin, the amounts in the accounts, the identity kept. -/
def adjS : State := pre.puts [(Ob.binAdjustDry 5, 547200), (Ob.binAdjustWater 5, 172800)]
theorem test_adjustAdd :
    let t := nextOf (.adjustAdd fw 5) adjS
    binDry t 5 = 547200 ∧ t.ob Ob.ledgerDryAdjustIn = 547200 ∧ t.ob Ob.ledgerWaterInBins = 172800 ∧ t.stBit Ob.ledgerLedgerStatus 0 = true := by
  decide +kernel
/-- ADJUST_REMOVE of more than the bin holds meets 0x0005_0001 (R147). -/
theorem test_adjustRemove : (nextOf (.adjustRemove fw 5) adjS).ob Ob.abortLastAbortCode = 0x00050001 := by decide +kernel
/-- R389: readings of 4.012 mA and 19.980 mA give gain 0.998 and offset 0.020 mA. -/
def trimS : State :=
  { pre.put (Ob.aoTrimStatus 0) 4 with ao := pre.ao.set 0 { pre.ao[0] with m1 := (FX.ratio 4012 1000000).toBits32, m2 := (FX.ratio 19980 1000000).toBits32 } }
theorem test_trimApply :
    let t := nextOf (.trimApply fw 0) trimS
    near (t.f (Ob.aoTrimGain 0)) (FX.ratio 998 1000) 20 = true ∧ near (t.f (Ob.aoTrimOffset 0)) (FX.ratio 20 1000000) 27 = true ∧
    t.ob (Ob.aoTrimStatus 0) = 0 := by decide +kernel
/-- R391: a Pt100 that reads 132.80 Ω stands at 84.99 °C. -/
theorem test_rtd :
    near ((nextOf (.conversionWindow (.rt 7 (BitVec.ofNat 32 (FX.ratio 13280 100).toBits32) 0 false false)) aiS).f (Ob.rtTemperature 7)) (FX.ratio 8499 100) 7 = true := by
  decide +kernel
/-- PIN_RESET ends a latch with event cause 15 (R365). -/
theorem test_pinReset : pinBit (nextOf (.pinReset fw 31) (pinS 96 id)) 31 6 = false ∧ pinBit (nextOf (.pinReset fw 31) (pinS 96 id)) 31 5 = false := by
  decide +kernel
/-- THERMAL_SHUTDOWN halts, HALT_CLEAR leaves the module without power (R416). -/
theorem test_halt :
    let t := nextOf .thermalShutdown (warm 0x42E60001 1000)
    t.phase = .halt ∧ (nextOf .haltClear t).phase = .off ∧ nextOf (.vmGood) halted = halted := by decide +kernel
/-- No trip at 115.0 °C, nor before 1 ms has passed above it, nor at 130.0 °C with both straps set (R415, R416); a tick brings the figures. -/
theorem test_noTrip :
    comparatorTrips (warm 0x42E60000 1000) = false ∧ comparatorTrips (warm 0x42E60001 999) = false ∧
    comparatorTrips { warm 0x43020000 1000 with straps := ⟨3, false, 0⟩ } = false ∧
    comparatorTrips (nextOf (.tickBoundary true [.junction 0 0x42E60001 1000]) { State.reset with phase := .winter }) = true := by
  decide +kernel
/-- A store below 45.0 V ends the charging step of BOOT only 2.0 s after the reset, with HOLDUPFAULT (R425). -/
theorem test_holdupCharge :
    let s : State := { State.reset with phase := .boot 4, osc := 500000 }
    let t := nextOf (.bootStep 10 0x3B83126F 0x42300000) s
    t.osc = 2000000 ∧ supplyBit t 6 = true ∧ (nextOf (.bootStep 10 0x3B83126F 0x42340000) s).osc = 500010 := by decide +kernel
/-- A current of exactly 10 mA clears OPENLOAD (R366). -/
theorem test_openLoad :
    pinBit (pinCurrent (pinS 128 id) 31 0x3C23D70A) 31 7 = false ∧ pinBit (pinCurrent (pinS 128 id) 31 0x3C23D709) 31 7 = true := by
  decide +kernel
/-- TachPulses 0 ends a start, and no kick of it expires (R398). -/
theorem test_noTach :
    let s := (fanOn (.kick 3) id).put (Ob.fanTachPulses 7) 0
    kickExpired s 7 = none ∧ (fanValueTick s 7 10).fans[(7 : Fin 8)].start = .none := by decide +kernel
/-- An infinite feedforward term is held saturated (R211). -/
theorem test_ffHeld : ffHeldUnits pre (.inf false) = 32767 ∧ ffHeldUnits pre (.inf true) = -32768 := ⟨rfl, rfl⟩
/-- A ring record that cannot be read cannot be read from its copy either (R484). -/
theorem test_badArchive :
    let s := nextOf (.uncorrectableError (.archive 1)) (archiveAppend pre (List.replicate 64 0xAA))
    archiveBad s 1 = true ∧ archiveBad (nextOf .archivePageWrite s) 1 = true := by decide +kernel
/-- The example of R512: TSEL1 and CFGKEY set, TSEL0 open. -/
theorem test_powerOn :
    let o := List.replicate 7 1000000
    let c := List.replicate 7 0
    (nextOf (.powerOn true true o c c) (off 0)).straps = ⟨2, true, 0⟩ := by decide +kernel
/-- After a power loss the straps are sampled anew, and an indeterminate one reads as the safe side with event 143 (R511, R512). -/
theorem test_powerLossStraps :
    let c := List.replicate 7 0
    let m := List.replicate 7 10000
    let t := nextOf (.powerOn true false c m c) { off 1 with straps := ⟨2, true, 0⟩ }
    t.straps = ⟨1, true, 2⟩ ∧ t.ob Ob.resetLastResetCause = 1 := by decide +kernel
/-- A mismatch of the management pair in BOOT is retried and counted once the boot ROM runs on it, and not before (R440, R483). -/
theorem test_lockstepBoot :
    (nextOf (.lockstepMismatch .mgmt true) { State.reset with phase := .boot 1 }).ob Ob.faultMgmtLockstepRetries = 1 ∧
    (nextOf (.lockstepMismatch .mgmt true) { State.reset with phase := .boot 0 }).ob Ob.faultMgmtLockstepRetries = 0 := by decide +kernel
/-- A commit within 20 µs of the pull, but for the wait for channels, is taken; a later one is the failure of its engine (R481). -/
theorem test_lateCommit :
    (nextOf (.sampleCommit 511 20001 1 0) loopS).ob (Ob.engStateEngineState 0) ≠ 4 ∧
    (nextOf (.sampleCommit 511 20001 0 0) loopS).ob (Ob.engStateEngineState 0) = 4 := by decide +kernel
/-- A channel that the cache lacks is fetched for any reader and counted, one that it holds is not (R36, R493). -/
theorem test_channelFetch :
    let t := nextOf (.channelFetch 7) pre
    t.ob Ob.faultChannelCacheMisses = 1 ∧ t.cache.contains 7 = true ∧ (nextOf (.channelFetch 7) t).ob Ob.faultChannelCacheMisses = 1 := by
  decide +kernel
/-- A load of 0.75 over the last half of the second is 0.375 over the second (R269). -/
theorem test_loadOver :
    FX.eq (loadOver { ope with loads := [(ope.osc, 0x40000000), (ope.osc - 500000, 0x3F400000), (0, 0)] }) (FX.ratio 3 8) = true := by decide +kernel
/-- An error in a free parcel entry removes nothing and lapses condition S (R489). -/
theorem test_freeParcel :
    let t := nextOf (.uncorrectableError (.parcel 5)) pre
    t.ob Ob.faultGuaranteeBreaks = 1 ∧ t.ob Ob.faultLostParcels = 0 := by decide +kernel
/-- Bits 7 and 11 of the loop Status clear with the context (R232). -/
theorem test_clearActing :
    (dropContext (loopS.put (Ob.loopStatus 511) 0xFFFF) 511).ob (Ob.loopStatus 511) = 0xF77F := by decide +kernel
/-- Both groups of FA beyond 32.0 V are one excursion: condition E lapses once (R489, R520). -/
theorem test_fieldExcursion :
    let t := fieldE (fieldE pre 0 true) 1 true
    t.ob Ob.faultGuaranteeBreaks = 1 ∧ (fieldE t 0 false).supply.outE = [.field 1] ∧
    (fieldE (fieldE t 0 false) 0 true).ob Ob.faultGuaranteeBreaks = 1 := by decide +kernel
/-- A write keeps the place that it found: of the actions of its effect the last one is not recorded (R461). -/
theorem test_yieldPlace :
    let t := recordWrite (journalAction (full 767) 0x6000 1 0 [] []) ⟨⟨⟨0, 0, 0⟩, 0, 0, false⟩, false, 0x1010, 2, 1, [3], none, []⟩ []
    t.staging.staged.length = 768 ∧ t.staging.lostActions = 1 ∧ t.staging.staged.getLast?.map (fun r => r.kind) = some 1 := by
  decide +kernel
/-- A single frame in silence leaves the outputs as they are; silence declared anew starts AllOffTime again (R371). -/
theorem test_silenceAnew :
    nextOf .silenceAllOff frameS = frameS ∧ (nextOf .silenceDeclared frameS).silenceAt = frameS.osc ∧
    (nextOf .silenceDeclared frameS).ob Ob.silenceSilenceState = 1 := by decide +kernel
/-- MSFREE while no mains frequency has been measured (R378, R379), and CALIBRATING only once the ordinary slot has completed (R193). -/
theorem test_statusBits :
    bits (aiStatus (pre.puts [(Ob.aiEnable 15, 1), (Ob.aiIntegrationMode 15, 3), (Ob.mpEnable, 1)]) 15) 6 6 = 1 ∧
    bits (cellStatusRead capS 3) 9 9 = 1 ∧
    bits (cellStatusRead { capS with diel := { capS.diel with cells := capS.diel.cells.set 3 { capS.diel.cells[3] with slot := some (slot 0) } } } 3) 9 9
      = 0 := by decide +kernel
/-- A pair of writes erases (R475): the command without its arm meets 0x0003_0002, and with it resets the module. -/
theorem test_erase :
    (nextOf (.eraseCommand fw 1) pre).ob Ob.abortLastAbortCode = 0x00030002 ∧
    (nextOf (.eraseCommand fw 1) (nextOf (.eraseArm fw 0x5EC0) pre)).phase = .boot 0 := by decide +kernel
/-- CFG_EN# is asserted by the tenth low sample, and not by the ninth (R514). -/
theorem test_cfgEn :
    (nextOf (.cfgEnSample 0x3F800000) { pre with sec := { pre.sec with keyLow := 9 } }).flag Ob.enableKeyAsserted = true ∧
    (nextOf (.cfgEnSample 0) { pre with sec := { pre.sec with keyLow := 8 } }).flag Ob.enableKeyAsserted = false := by decide +kernel
/-- VM above 36 V since the given time, or not, with a pulse begun 5 s ago. -/
def pulsed (since : Option Int) : State :=
  { pre with supply := { pre.supply with pulses := pre.supply.pulses.set 0 ⟨since, some 95000000⟩ } }
/-- OVERVOLT faults beyond 40 V, and above 36 V for longer than 100 ms or twice within 10 s (R519). -/
theorem test_overvolt :
    goes (.overvolt 0 0x42200000) pre = true ∧ exec (.overvolt 0 0x42200001) pre = .fault .absoluteMaximum ∧
    goes (.overvolt 0 0x42180000) (pulsed (some 99900000)) = true ∧
    exec (.overvolt 0 0x42180000) (pulsed (some 99899999)) = .fault .absoluteMaximum ∧
    exec (.overvolt 0 0x42180000) (pulsed none) = .fault .absoluteMaximum := by
  exact ⟨by decide +kernel, rfl, by decide +kernel, rfl, rfl⟩
/-- The last parcel engine's failure is beyond masking (R482, R487): FAULTSTATUS bit 1, and the trip of event 2 to SAFE. -/
theorem test_parcelEngine :
    (nextOf .parcelEngineFailure pre).ob Ob.modelEnginesWorking = pre.ob Ob.modelEnginesWorking - 1 ∧
    (nextOf .parcelEngineFailure (pre.put Ob.modelEnginesWorking 1)).stBit Ob.faultFaultStatus 1 = true := by decide +kernel
/-- SRAM_SCRUB counts what was corrected (R35). -/
theorem test_sramScrub : (nextOf (.sramScrub 2 3 4) pre).ob Ob.faultDramCorrected = 3 := by decide +kernel
/-- ENTRY_ENABLE_WRITE arms at the next tick (R111). -/
theorem test_entryEnable : (entryDyn (nextOf (.entryEnableWrite fw 1023 (.enable true)) pre) 1023).arming = true := by decide +kernel
/-- A full store turns a node's write away and keeps firmware's (R58, R461). -/
theorem test_full :
    (nextOf (.purge node 0) (full 704)).ob Ob.worustRequestsDropped = 1 ∧ (nextOf (.purge fw 0) (full 768)).storeQ.length = 1 := by
  decide +kernel
/-- The empty queue idles, and a step takes the front command. -/
theorem test_step : step pre = .next pre ∧ step { pre with pending := [.sramScrub 1 0 0] } = exec (.sramScrub 1 0 0) pre := ⟨rfl, rfl⟩

end Sys2Proof.Tests
end

section
/-! PROOF. Winter entry and start-up (R351, R431–R443): what each of their events makes of a state in which it occurs, and O49 from it. -/
namespace Sys2Proof.Machine

/-- A command whose effect is known leaves it. -/
theorem leaves_of_finish {c : Instr} {s t u : State} (hc : exec c s = finish s u) (hu : u = t) : Leaves c s t := hu ▸ hc

/-! ### Winter entry (R351, R431, R432) -/

/-- Once its 100 ms have passed the wait for buffers is over, whatever buffers are still owned (R351). -/
theorem bufferWaitOver_of_elapsed {s : State} (h : s.winter.at_ + 100000 ≤ s.osc) : bufferWaitOver s = true := by
  simp [bufferWaitOver, h]

/-- An accepted WinterCommand begins step 1 of the entry. -/
theorem winterCommand_writes (x : Sender) (s : State) :
    Writes (.winterCommand x) s x Ob.seasonWinterCommand .u8 [1] (winterCodes s) winterEff :=
  fun h => writeOf_applied (w := byteWrite x Ob.seasonWinterCommand 1 (winterCodes s) winterEff) rfl h

/-- Step 1 over, each started controller loses what it still holds and is told to stop, and step 2 goes on as far as the bus lets it. -/
theorem winterWaitEnd_eq {s : State} (hp : s.phase = .run) (hg : s.winter.stage = 1) (hc : s.winter.cancelled = false)
    (ht : s.winter.at_ + 100000 ≤ s.osc) :
    winterWaitEnd s =
      (let t := (List.finRange 4).foldl (fun s (n : Fin 4) =>
         if s.bus[n].started then
           let s := cancelAll s n
           setBus s n { s.bus[n] with stopping := true }
         else s) s
       winterOn { t with winter := { t.winter with cancelled := true } }) :=
  if_pos ⟨hp, hg, hc, bufferWaitOver_of_elapsed ht⟩

/-- From stage 2 of a running module on, the journal and the counters are written, and the transceivers sleep. -/
theorem winterReached_eq {s : State} (hp : s.phase = .run) (hg : s.winter.stage = 2) :
    winterReached s =
      (let t := (List.finRange 4).foldl withdrawWaiting (flushJournal (ckptFinish s))
       let t := setSeason (saveCounters (t.inc Ob.seasonWinterCount)) 3
       { t with phase := .winter, winter := ⟨0, 0, false⟩, bus := t.bus.map (fun b => { b with asleep := true, errCount := 0 }) }) :=
  if_pos ⟨hp, hg⟩

/-- The three commands of Winter entry. -/
theorem winterCommandsComplete : Parts.WinterCommandsComplete := by
  refine ⟨winterCommand_writes, fun s hp hg hc ht => ?_, fun s hp hg => ?_⟩
  · exact leaves_of_finish rfl (winterWaitEnd_eq hp hg hc ht)
  · exact leaves_of_finish rfl (winterReached_eq hp hg)

/-! ### Start-up (R425, R439, R440) -/

/-- A step lasts the time it took up to its limit; only the charging of the store lasts its whole 2.0 s below 45.0 V (R425). -/
theorem bootTime_eq (s : State) (k us volts : Nat) :
    bootTime s k us volts =
      (let left := (bootLimits[k]?).getD 0 - s.osc
       if k = 4 ∧ FX.lt (FX.ofBits32 volts) (FX.ofNat 45) = true then left else min us left) := by
  simp only [bootTime, Bool.and_eq_true, decide_eq_true_eq]

section
variable {s t : State} {k us cap volts : Nat} (hp : s.phase = .boot k) (hk : k < 8) (hr : s.boot.recovery = false)
  (ht : bootDo ({ s with linesHeld := false }.elapse (bootTime s k us volts)) k cap volts = t)
include hp hk hr ht

/-- Outside recovery a step of BOOT does its work, and BOOT goes on to the next one unless recovery begins with it (R440, R473). -/
theorem bootStep_eq : bootStep s us cap volts = if t.boot.recovery then t else { t with phase := .boot (k + 1) } := by
  subst ht
  have hgo : ¬ (s.boot.recovery || decide (8 ≤ k)) = true := by simpa [hr] using hk
  simp only [bootStep, hp, if_neg hgo]

/-- A step that leaves the module out of recovery is followed by the next. -/
theorem bootStep_proceeds (h : t.boot.recovery = false) : bootStep s us cap volts = { t with phase := .boot (k + 1) } := by
  rw [bootStep_eq hp hk hr ht, h]; rfl

/-- A step that begins a recovery is the last one. -/
theorem bootStep_recovers (h : t.boot.recovery = true) : bootStep s us cap volts = t := by
  rw [bootStep_eq hp hk hr ht, h]; rfl
end

/-- Power-on, a rail fault, the steps of BOOT and its end. -/
theorem startUpCommandsComplete : Parts.StartUpCommandsComplete := by
  refine ⟨fun _ _ _ _ _ s _ _ => finish_eq s _, fun s h => occurs_true (fun s => resetNow s 6 s.straps []) h, ?_,
    fun _ s _ => finish_eq s _⟩
  intro us cap volts s k hp hk hr left lasts t
  have ht : bootDo ({ s with linesHeld := false }.elapse (bootTime s k us volts.toNat)) k cap.toNat volts.toNat = t := by
    rw [bootTime_eq]
  exact ⟨fun h => leaves_of_finish rfl (bootStep_proceeds hp hk hr ht h),
    fun h => leaves_of_finish rfl (bootStep_recovers hp hk hr ht h)⟩

/-- Settles O49: each command is its effect followed by the shared end of commands, and its guard is the statement's hypothesis. -/
theorem seasonAndStartUpCommandsComplete : Obligations.SeasonAndStartUpCommandsComplete :=
  ⟨winterCommandsComplete, startUpCommandsComplete⟩

end Sys2Proof.Machine
end

section
/-! PROOF. The architecture (R23–R37, R519): every command ends as all commands do, or stops on a figure beyond its rating, from which O5
follows; and what the commands of the tick and of the memories make of a state in which they occur, which gives O17. -/
namespace Sys2Proof.Machine

/-! ### How a command ends -/

/-- What a frame on the bus meets ends by `finish`, whether or not a frame is being sent (R310, R311). -/
theorem onFrame_finishes (s : State) (n : Fin 4) (eff : State → Fin 3 → State) : ∃ u, onFrame s n eff = finish s u := by
  unfold onFrame
  split <;> exact ⟨_, rfl⟩

/-- A command whose figures lie within the ratings ends by `finish`, whatever its effect was: only five commands carry a rated figure, and
every other one is an effect, guarded or not, or a write. -/
theorem exec_finishes {c : Instr} {s : State} (h : beyondRating s c = false) : ∃ u, exec c s = finish s u := by
  cases c with
  | tickBoundary | overvolt | housekeepingRound | conversionWindow | cfgEnSample => exact ⟨_, if_neg (Bool.eq_false_iff.mp h)⟩
  | entryEnableWrite x e w => cases w <;> exact ⟨_, rfl⟩
  | frameSent | arbitrationLost => exact onFrame_finishes _ _ _
  | _ => exact ⟨_, rfl⟩

/-- A figure beyond its rating stops the command (R519). -/
theorem exec_stops {c : Instr} {s : State} (h : beyondRating s c = true) : exec c s = .fault .absoluteMaximum := by
  cases c with
  | tickBoundary | overvolt | housekeepingRound | conversionWindow | cfgEnSample => exact if_pos h
  | _ => exact Bool.noConfusion h

/-- Whatever next state a command answers is `after` of what its effect made. -/
theorem exec_next {c : Instr} {s t : State} (h : exec c s = .next t) : ∃ u, t = after s u := by
  cases hb : beyondRating s c with
  | true => rw [exec_stops hb] at h; nomatch h
  | false =>
    obtain ⟨u, hu⟩ := exec_finishes hb
    rw [hu, finish_eq] at h
    exact ⟨u, (Host.Outcome.next.inj h).symm⟩

/-- A step idles on an empty queue, or ends as its front command does. -/
theorem step_next {s t : State} (h : step s = .next t) : t = s ∨ ∃ s' u, t = after s' u := by
  unfold step at h
  split at h
  · exact .inl (Host.Outcome.next.inj h).symm
  · exact .inr ⟨_, exec_next h⟩

/-- Settles O5: an idle step leaves the safe state as it is, and the end of every command makes its state safe, because it routes what was
raised, carries out the reset that is due and puts the output lines in order (`after_safe`). -/
theorem stepKeepsSafe : Obligations.StepKeepsSafe := by
  intro s t hs ht
  rcases step_next ht with rfl | ⟨s', u, rfl⟩
  · exact hs
  · exact after_safe s' u

/-! ### The commands of the tick and of the memories -/

/-- A boundary within the ratings leaves what the tick makes. -/
theorem tickBoundary_leaves {s : State} {downOk : Bool} {meas : List Measure} (h : meas.any (beyondMax (nextTick s)) = false) :
    Leaves (.tickBoundary downOk meas) s (tickNow s downOk meas) :=
  if_neg (Bool.eq_false_iff.mp h)

/-- A boundary of the running module is the tick (R83), with the junctions' figures in the comparator. -/
theorem tickNow_run {s : State} (hp : s.phase = .run) (downOk : Bool) (meas : List Measure) :
    tickNow s downOk meas = runTick (takeJunctions s meas) downOk meas := by
  simp [tickNow, powered, hp]

/-- A boundary in the last step of BOOT, before its limit, is the tick of the field link (R440), and the lines that a reset found go
off (R437). -/
theorem tickNow_lastBoot {s : State} (hp : s.phase = .boot 8) (ht : s.osc + 10 ≤ 4500000) (downOk : Bool) (meas : List Measure) :
    tickNow s downOk meas = bootTick { takeJunctions s meas with linesHeld := false } downOk meas := by
  simp [tickNow, powered, hp, ht]

/-- An upstream frame, valid or discarded, is taken 8 µs after its boundary where it is awaited (R24), and none is awaited any more. -/
theorem upstreamNow_open {s t : State} {crcOk : Bool} (hc : clocksRun s = true) (ho : s.link.upOpen = true)
    (ht : (if crcOk then validFrame (reach s 8) else discardFrame (reach s 8)) = t) :
    upstreamNow s crcOk = releaseAwaited { t with link := { t.link with latch := [], upOpen := false } } := by
  subst ht
  exact if_pos (by simp [hc, ho])

/-- A channel that the cache lacks, or that a sample waits for, is fetched and counted as a miss (R36, R493). -/
theorem channelFetch_missing {s : State} {c : Fin 4096} (hp : s.phase = .run)
    (hm : s.cache.contains c.val = false ∨ s.service.any (fun v => v.missing.contains c.val) = true) :
    channelFetch s c =
      (let t := touchChan (s.inc Ob.faultChannelCacheMisses) c
       { t with service := t.service.map (fun (v : InService) => { v with missing := v.missing.filter (fun m => m != c.val) }) }) :=
  if_pos ⟨hp, by rwa [Bool.or_eq_true, Bool.not_eq_true']⟩

/-- While the rails are up a scrub counts what it corrected (R35, R484). -/
theorem scrubbed_eq {s : State} (h : railsUp s = true) (sram dram nand : Nat) :
    scrubbed s sram dram nand =
      (let t := if sram + dram + nand = 0 then s else maskedFault s 0 0
       ((t.incBy Ob.faultSramCorrected sram).incBy Ob.faultDramCorrected dram).incBy Ob.faultNandCorrected nand) :=
  if_pos h

/-- Settles O17: each command is its effect followed by the shared end of commands, and its guard is the statement's hypothesis. -/
theorem tickCommandsComplete : Obligations.TickCommandsComplete := by
  refine ⟨?run, ?lastBoot, ?valid, ?discarded, ?fetch, ?scrub⟩
  case run => exact fun downOk meas s hp hm => tickNow_run hp downOk meas ▸ tickBoundary_leaves hm
  case lastBoot => exact fun downOk meas s hp ht hm => tickNow_lastBoot hp ht downOk meas ▸ tickBoundary_leaves hm
  case valid => exact fun s hc ho => leaves_of_finish rfl (upstreamNow_open hc ho (if_pos rfl))
  case discarded => exact fun s hc ho => leaves_of_finish rfl (upstreamNow_open hc ho (if_neg Bool.false_ne_true))
  case fetch => exact fun c s hp hm => leaves_of_finish rfl (channelFetch_missing hp hm)
  case scrub => exact fun sram dram nand s hr => leaves_of_finish rfl (scrubbed_eq hr sram dram nand)

end Sys2Proof.Machine
end

section
/-! PROOF. The store (R53–R58, R67, R75, R76, R461): the order of aborts (O7), a write that is applied (O8, O15), aborted (O9), turned
away or made to wait (O11), the states that accept a write (O12, O16), and what reset leaves (O6). -/
namespace Sys2Proof.Machine

/-! ### What reset leaves (R73, R97, R440) -/

theorem reset_outputsAtRest : OutputsAtRest State.reset := ⟨by decide, by decide, by decide⟩

/-- Nothing was asked for and nothing was raised before the first command. -/
theorem reset_safe : Safe State.reset := ⟨fun _ _ => reset_outputsAtRest, rfl, rfl⟩

/-- Settles O6: every field is read off the state after reset. -/
theorem resetState : Obligations.ResetState :=
  ⟨rfl, rfl, rfl, by decide, rfl, reset_safe, reset_outputsAtRest, reset_stores_wf⟩

/-! ### The order of aborts (R55) -/

/-- A code comes no later than another in the order of R55: its class comes first, or is the same and its detail is no higher. -/
def AbortLe (c d : Nat) : Prop := classRank c < classRank d ∨ (classRank c = classRank d ∧ c % 2 ^ 16 ≤ d % 2 ^ 16)

/-- The one number that `pickAbort` compares orders codes as R55 does, because a detail lies below 2^16. -/
theorem abortLe_iff (c d : Nat) :
    AbortLe c d ↔ classRank c * 2 ^ 16 + c % 2 ^ 16 ≤ classRank d * 2 ^ 16 + d % 2 ^ 16 := by
  unfold AbortLe; omega

theorem pickAbort_cons (c : Nat) (l : List Nat) :
    pickAbort (c :: l) = some (match pickAbort l with
      | none => c
      | some d => if classRank c * 2 ^ 16 + c % 2 ^ 16 ≤ classRank d * 2 ^ 16 + d % 2 ^ 16 then c else d) := by
  rw [pickAbort]
  cases pickAbort l with
  | none => rfl
  | some d => exact (apply_ite some _ _ _).symm

/-- The abort reported is among those met, and none of them comes before it. -/
theorem pickAbort_first {l : List Nat} {c : Nat} (h : pickAbort l = some c) : c ∈ l ∧ ∀ d ∈ l, AbortLe c d := by
  induction l generalizing c with
  | nil => cases h
  | cons a l ih =>
    rw [pickAbort_cons] at h
    simp only [abortLe_iff] at ih ⊢
    cases hl : pickAbort l with
    | none =>
      rw [hl] at h
      cases h
      simp [pickAbort_none.mp hl]
    | some b =>
      obtain ⟨hb, hle⟩ := ih hl
      rw [hl] at h
      simp only [Option.some.injEq] at h
      split at h
      · next hab =>
        subst h
        exact ⟨List.mem_cons_self, List.forall_mem_cons.mpr ⟨Nat.le_refl _, fun d hd => Nat.le_trans hab (hle d hd)⟩⟩
      · next hab =>
        subst h
        exact ⟨List.mem_cons_of_mem _ hb, List.forall_mem_cons.mpr ⟨Nat.le_of_lt (Nat.not_le.mp hab), hle⟩⟩

/-- Settles O7: by induction on the codes met, each being compared with the first of those behind it. -/
theorem abortReportedIsFirst : Obligations.AbortReportedIsFirst :=
  ⟨fun _ => pickAbort_none, fun _ _ => pickAbort_first, by decide⟩

/-! ### A write that is served -/

/-- Settles O8: a command that is one object's write is that write in the store, which applies and records it. -/
theorem writesAreAppliedAndRecorded : Obligations.WritesAreAppliedAndRecorded := fun _ _ _ => writeOf_applied

section
variable (s : State) (w : WReq) (old : List Byte) (code : Nat)

/-- An abort writes objects and stages its record, nothing else (R53). -/
theorem abortWrite_eq : abortWrite s w old code =
    { s with
      objs := (noteAbort s w.who.o.iface w.idx w.sub code).objs
      staging := { s.staging with staged := s.staging.staged ++ [abortRec s w old code] } } := by
  cases s; rfl

theorem abortRec_names : (abortRec s w old code).kind = 2 ∧ (abortRec s w old code).code = code ∧
    (abortRec s w old code).index = w.idx ∧ (abortRec s w old code).sub = w.sub := by
  unfold abortRec
  cases w.stated <;> exact ⟨rfl, rfl, rfl, rfl⟩

/-- What an abort leaves in every object (R56). -/
theorem abortWrite_ob (k : Nat) : (abortWrite s w old code).ob k =
    if k = Ob.abortAbortCount then wrap 32 (s.ob Ob.abortAbortCount + 1)
    else if k = Ob.abortLastAbortInterface then w.who.o.iface
    else if k = Ob.abortLastAbortObject then w.idx * 2 ^ 16 + w.sub * 2 ^ 8
    else if k = Ob.abortLastAbortCode then code
    else s.ob k := by
  have hc : Ob.abortAbortCount ≠ Ob.abortLastAbortInterface := by decide
  have ho : Ob.abortAbortCount ≠ Ob.abortLastAbortObject := by decide
  have hl : Ob.abortAbortCount ≠ Ob.abortLastAbortCode := by decide
  simp only [abortWrite, stage_ob, noteAbort, inc_eq, ob_put, hc, ho, hl, if_false]

theorem ready_withStore {s : State} (h : Ready s) (o : List (Nat × Nat)) (g : Staging) : Ready { s with objs := o, staging := g } := h

/-- An abort leaves a ready module ready. -/
theorem abortWrite_ready (h : Ready s) : Ready (abortWrite s w old code) := by
  rw [abortWrite_eq]; exact ready_withStore h _ _
end

/-- A command that is a write which is served, and meets an abort, leaves what the abort makes. -/
theorem writeOf_aborted {c : Instr} {s : State} {w : ObjWrite} {code : Nat} (h : writeOf s c = some w) (ha : Admitted s w.x)
    (hc : pickAbort (writeCodes s w.req w.codes w.eff) = some code) :
    Leaves c s (abortWrite s w.req (oldBytes s (w.k / 256) (w.k % 256)) code) := by
  obtain ⟨hreach, hrun, hq, hplace⟩ := ha
  rw [Leaves, exec_writeOf h, heard, if_pos hreach, submit_aborted (w := w.req) hrun hq hplace hc, finish_eq]

/-- An effect that leaves the module ready and the queue as it was is all that the command leaves. -/
theorem after_ready {s t : State} (h : Ready t) (hq : t.pending = s.pending) : after s t = t := by
  obtain ⟨hrun, hreset, hraised⟩ := h
  rw [after_run hrun hreset hraised, ← hq]

/-- Settles O9: the abort raises nothing and asks for no reset, so that a ready module keeps it as it is. -/
theorem abortedWriteChangesNothingElse : Obligations.AbortedWriteChangesNothingElse := by
  intro c s w code hw hready ha hc
  have habort := abortWrite_eq s w.req (oldBytes s (w.k / 256) (w.k % 256)) code
  have hob := abortWrite_ob s w.req (oldBytes s (w.k / 256) (w.k % 256)) code
  have hafter : after s _ = _ := after_ready (abortWrite_ready s w.req (oldBytes s (w.k / 256) (w.k % 256)) code hready) (by rw [habort])
  refine ⟨_, (writeOf_aborted hw ha hc).trans (congrArg _ hafter), ?code, ?object, ?iface, ?count, fun k hk => ?other, ?record, ?frame⟩
  case code => exact (hob _).trans (by rw [if_neg (by decide), if_neg (by decide), if_neg (by decide), if_pos rfl])
  case object => exact (hob _).trans (by rw [if_neg (by decide), if_neg (by decide), if_pos rfl]; rfl)
  case iface => exact (hob _).trans (by rw [if_neg (by decide), if_pos rfl]; rfl)
  case count => exact (hob _).trans (if_pos rfl)
  case other =>
    simp only [List.mem_cons, List.not_mem_nil, or_false, not_or] at hk
    obtain ⟨hcode, hobject, hiface, hcount⟩ := hk
    exact (hob k).trans (by rw [if_neg hcount, if_neg hiface, if_neg hobject, if_neg hcode])
  case record => exact ⟨_, by rw [habort], abortRec_names s w.req _ code⟩
  case frame => rw [habort]

/-! ### A write that finds no place, or writes ahead of it (R58, R461) -/

section
variable {s : State} {w : WReq} {old : List Byte} {extra : List Nat} {eff : State → State} (hp : s.phase = .run)
include hp

/-- A write from outside that finds 704 places taken is only counted. -/
theorem submit_dropped (hi : w.who.o.iface ≠ 0) (hn : 704 ≤ placesUsed s) :
    submit s w old extra eff = (s.inc Ob.worustRequestsDropped, .dropped) := by simp [submit, hp, hi, hn]

/-- A write that is not turned away waits where others wait, or where firmware finds no place. -/
theorem submit_waits (hi : w.who.o.iface ≠ 0 → placesUsed s < 704) (hw : s.storeQ ≠ [] ∨ (w.who.o.iface = 0 ∧ 768 ≤ placesUsed s)) :
    submit s w old extra eff = (putWaiting s w, .waits) := by
  have hkept : ¬ (w.who.o.iface ≠ 0 && decide (704 ≤ placesUsed s)) = true := by simpa using hi
  have hbehind : (!s.storeQ.isEmpty || (w.who.o.iface = 0 && decide (768 ≤ placesUsed s))) = true := by simpa using hw
  rw [submit, if_neg (not_not_intro hp), if_neg hkept, if_pos hbehind]
end

/-- Only firmware has code 0 (R57). -/
theorem iface_of_code_zero {i : Iface} (h : ifaceCode i = 0) : i = .fw := by
  cases i with
  | fw => rfl
  | mb n => simp only [ifaceCode] at h; omega
  | eth n => simp only [ifaceCode] at h; omega

/-- Firmware's writes reach the store whatever the application cores do (R29). -/
theorem reaches_of_code_zero {s : State} {x : Sender} (h : ifaceCode x.iface = 0) : reaches s x = true := by
  simp [reaches, iface_of_code_zero h]

/-- A command that is a write which reaches the store leaves what the store makes of it. -/
theorem writeOf_leaves {c : Instr} {s t : State} {w : ObjWrite} {r : WRes} (h : writeOf s c = some w) (hr : reaches s w.x = true)
    (ht : submit s w.req (oldBytes s (w.k / 256) (w.k % 256)) w.codes w.eff = (t, r)) : Leaves c s t := by
  rw [Leaves, exec_writeOf h, heard, if_pos hr, ht, finish_eq]

/-- Settles O11: each clause is one branch of the store. -/
theorem fullStagingTurnsAwayOrWaits : Obligations.FullStagingTurnsAwayOrWaits := by
  refine ⟨fun c s w hw hp hr hi hn => ?outside, fun c s w hw hp hi hn => ?firmware, fun c s w hw hp hr hq hn => ?behind⟩
  case outside => exact writeOf_leaves hw hr (submit_dropped hp hi hn)
  case firmware => exact writeOf_leaves hw (reaches_of_code_zero hi) (submit_waits hp (fun h => absurd hi h) (.inr ⟨hi, hn⟩))
  case behind => exact writeOf_leaves hw hr (submit_waits hp hn (.inl hq))

/-! ### The states that accept a write (R67, R76) -/

/-- Codes that are one abort or none are empty exactly where the condition holds that keeps it away. -/
theorem abortUnless_nil (p : Prop) [Decidable p] (c : Nat) : (if p then [] else [c]) = [] ↔ p := by
  by_cases h : p <;> simp [h]

section
variable {s : State} (hp : s.phase = .run)
include hp

theorem inPreop_iff : s.inPreop = true ↔ s.opState = 1 := by simp [State.inPreop, hp]
theorem inOperate_iff : s.inOperate = true ↔ s.opState = 2 := by simp [State.inOperate, hp]
theorem inSafe_iff : s.inSafe = true ↔ s.opState = 3 := by simp [State.inSafe, hp]
end

/-- Settles O12: with no check and no commit under way a state command meets at most the abort of its state, and the module's states are
read off OperatingState. -/
theorem stateCommandsAcceptedIn : Obligations.StateCommandsAcceptedIn := by
  intro s hp hc hm
  refine ⟨?_, fun v => ?_⟩
  · simp only [stateCodes, hc, hm, Bool.false_eq_true, Bool.and_false, if_false, List.append_nil, abortUnless_nil, Bool.or_eq_true,
      Bool.and_eq_true, beq_iff_eq, inPreop_iff hp, inOperate_iff hp, inSafe_iff hp, and_self]
  · simp only [stateCodes, hc, hm, Bool.false_eq_true, Bool.and_false, if_false, List.append_nil]
    exact Decidable.byCases (fun h => .inl (if_pos h)) (fun h => .inr (if_neg h))

/-- Settles O16: the branch of type 2 of the aborts of a Value. -/
theorem fieldOutputAcceptedInOperate : Obligations.FieldOutputAcceptedInOperate := by
  intro s n hn
  simp only [chanValueCodes, hn, Bool.and_eq_true, Bool.not_eq_true', and_assoc]

/-! ### OBJECT_WRITE and the Values of channels (R53, R67, R68) -/

/-- The write of an object that is not one of the three command objects is the store's, with nothing to follow it. -/
theorem writeObj_plain {s : State} {w : WReq}
    (hk : key w.idx w.sub ∉ [Ob.opStateCommand, Ob.configConfigCommand, Ob.updateUpdateCommand]) :
    writeObj s w = submit s w (oldBytes s w.idx w.sub) (extraOf s w.idx w.sub w.data) (effOf w.who.o w.idx w.sub w.data) := by
  simp only [List.mem_cons, List.not_mem_nil, or_false, not_or] at hk
  obtain ⟨hstate, hconfig, hupdate⟩ := hk
  have h1 : ¬ (w.idx = 0x1010 ∧ w.sub = 2 ∧ w.data = [2] ∧ w.met = []) := fun h => hstate (by rw [h.1, h.2.1])
  rw [writeObj, if_neg h1, afterWrite, if_neg (fun h => hupdate (by rw [h.1, h.2.1])),
    if_neg (fun h => hconfig (by rw [h.1, h.2.1]))]

theorem objectWriteApplies : Parts.ObjectWriteApplies := by
  intro x idx sub type data s w hk ha hc
  obtain ⟨hreach, hrun, hq, hplace⟩ := ha
  have hw := (writeObj_plain (w := w) hk).trans (submit_applied (old := oldBytes s w.idx w.sub) hrun hq hplace (pickAbort_none.mpr hc))
  exact leaves_of_finish rfl (by rw [heard, if_pos hreach]; exact congrArg Prod.fst hw)

/-- Settles O15: OBJECT_WRITE is the store's write of the object it names, and each Value is one object's write. -/
theorem objectAndValueWritesComplete : Obligations.ObjectAndValueWritesComplete :=
  ⟨objectWriteApplies, fun x c v s => writeOf_applied (c := .fieldOutputValueWrite x c v) (s := s) rfl,
    fun x c v s => writeOf_applied (c := .operatorValueWrite x c v) (s := s) rfl⟩

end Sys2Proof.Machine
end

section
/-! PROOF. Outside the running module no access is served (O10, R75); and the state commands with the check of R77 (O14, R74, R76). -/
namespace Sys2Proof.Machine

/-! ### Outside the running module (R75) -/

section
variable {s : State} (hp : s.phase ≠ .run)
include hp

theorem submitOperate_unserved (w : WReq) : submitOperate s w = (s, .unserved) := by simp [submitOperate, hp]

/-- What follows a write follows none that was not served. -/
theorem afterWrite_unserved (w : WReq) (old : List Byte) (extra : List Nat) (eff : State → State) :
    afterWrite w (submit s w old extra eff) = (s, .unserved) := by simp [submit_unserved hp, afterWrite]

theorem writeObj_unserved (w : WReq) : writeObj s w = (s, .unserved) := by
  rw [writeObj, submitOperate_unserved hp, afterWrite_unserved hp, ite_self]

theorem serverUp_outsideRun : serverUp s = false := by simp [serverUp, hp]

theorem hears_outsideRun (a : Asker) : hears s a = false := by simp [hears, serverUp_outsideRun hp]

theorem queueRelease_outsideRun (n : Fin 4) : queueRelease s n = s := if_pos (.inl hp)

/-- Outside recovery no datagram reaches a module that does not run. -/
theorem udpDatagram_outsideRun (hr : recoveryRuns s = false) (e : Fin 2) (addr port : Nat) (d : Datagram) :
    udpDatagram s e addr port d = s := by simp [udpDatagram, hr, hp]

/-- No request over Worust has an effect. -/
theorem asked_outsideRun (q : Request) (serve : Asker → State → State) : asked q s serve = finish s s := by
  simp [asked, occurs, hears_outsideRun hp]
end

/-- A write that was not served changes nothing, whether or not it was heard. -/
theorem heard_unserved (s : State) (x : Sender) : heard s x (s, .unserved) = (s, .unserved) := ite_self _

/-- Settles O10: the store serves nothing, the server hears nobody, and neither a frame nor a queue entry nor a datagram is taken, so that
each command is the end of a command on a safe state. -/
theorem nothingServedOutsideRun : Obligations.NothingServedOutsideRun := by
  intro c s hs hp hc
  suffices h : exec c s = finish s s by rw [h, finish_eq, after_self hs]
  rcases hc with hw | ⟨x, _, _, _, _, rfl⟩ | ⟨x, rfl⟩ | ⟨x, rfl⟩ | ⟨x, rfl⟩ | ⟨q, _, _, rfl⟩ | ⟨q, _, _, _, _, rfl⟩ |
    ⟨q, _, _, _, _, _, rfl⟩ | ⟨q, _, _, _, rfl⟩ | ⟨q, _, rfl⟩ | ⟨q, _, rfl⟩ | ⟨q, _, rfl⟩ | ⟨q, _, rfl⟩ | ⟨hr, e, a, p, d, rfl⟩ |
    ⟨n, f, age, off, rfl⟩ | ⟨n, rfl⟩
  case inl =>
    obtain ⟨w, hw⟩ := Option.isSome_iff_exists.mp hw
    rw [exec_writeOf hw, submit_unserved hp, heard_unserved]
  · show finish s (heard s x (writeObj s _)).1 = finish s s
    rw [writeObj_unserved hp, heard_unserved]
  · show finish s (heard s x (submitOperate s _)).1 = finish s s
    rw [submitOperate_unserved hp, heard_unserved]
  · show finish s (heard s x (afterWrite _ (submit s _ _ _ _))).1 = finish s s
    rw [afterWrite_unserved hp, heard_unserved]
  · show finish s (heard s x (afterWrite _ (submit s _ _ _ _))).1 = finish s s
    rw [afterWrite_unserved hp, heard_unserved]
  iterate 8
    simp only [exec, execWorustRead, execWorustWrite, execSegopen, execSegment, execSegend, execIndexSnapshotRead, execWorustAbort,
      execSegmentAck, asked_outsideRun hp]
  · exact congrArg (finish s) (udpDatagram_outsideRun hp hr e _ _ d)
  · exact congrArg (finish s) (if_neg (by simpa [running] using hp))
  · exact congrArg (finish s) (queueRelease_outsideRun hp n)

/-! ### The state commands (R74, R76, R438) -/

/-- A StateCommand that is no more than its write leaves what it does. -/
theorem stateCommandsWrite : Parts.StateCommandsComplete :=
  ⟨fun x s => writeOf_applied (w := byteWrite x Ob.opStateCommand 1 (stateCodes s 1) (stateEff 1)) rfl,
   fun x s => writeOf_applied (w := byteWrite x Ob.opStateCommand 3 (stateCodes s 3) (stateEff 3)) rfl,
   fun x s => writeOf_applied (w := byteWrite x Ob.opStateCommand 4 (stateCodes s 4) (stateEff 4)) rfl,
   fun x s => writeOf_applied (w := byteWrite x Ob.opStateCommand 5 (stateCodes s 5) (stateEff 5)) rfl⟩

/-! ### The check (R77, R81) -/

/-- StateCommand 2 that is served, and meets no abort, starts the check and is answered later. -/
theorem submitOperate_starts {s : State} {w : WReq} (hp : s.phase = .run) (hq : s.storeQ = [])
    (hn : placesUsed s < (if w.who.o.iface = 0 then 768 else 704)) (hc : baseCodes s w (viaXfer w) ++ stateCodes s 2 = []) :
    submitOperate s w = (startCheck s (some w), .later) := by
  have hkept : ¬ (w.who.o.iface ≠ 0 && decide (704 ≤ placesUsed s)) = true := by
    split at hn <;> simp_all
  have hfirst : ¬ (!s.storeQ.isEmpty || (w.who.o.iface = 0 && decide (768 ≤ placesUsed s))) = true := by
    split at hn <;> simp_all
  rw [submitOperate, if_neg (not_not_intro hp), if_neg hkept, if_neg hfirst, hc]
  rfl

theorem enterOperateStartsTheCheck : Parts.EnterOperateStartsTheCheck := by
  intro x s ha hc
  obtain ⟨hreach, hrun, hq, hplace⟩ := ha
  refine leaves_of_finish rfl ?_
  rw [heard, if_pos hreach]
  exact congrArg Prod.fst (submitOperate_starts (w := writeReq x Ob.opStateCommand .u8 [2]) hrun hq hplace hc)

section
variable {s : State} {c : Check} (hc : s.check = some c) (hd : s.operateDue = false) (he : c.ended = false)
include hc hd he

/-- A check that no trip cause ended, and that passed, makes OPERATE due. -/
theorem checkEnd_passed (hv : c.verdict = 0) : checkEnd s = { s.put Ob.opConsistencyFault 0 with operateDue := true } := by
  simp [checkEnd, hc, hd, he, hv]

/-- One that failed names the object, and is aborted where it was asked for, or reported where AutoOperate began it. -/
theorem checkEnd_failed (hv : c.verdict ≠ 0) : checkEnd s =
    (let t := checkFails (s.put Ob.opConsistencyFault c.verdict) c 0x00050006
     if c.asker.isNone then raise t 212 c.verdict else t) := by
  simp [checkEnd, hc, hd, he, hv]
end

theorem checkEndDecides : Parts.CheckEndDecides := by
  intro s c hp hc hd he
  have hrun : running s = true := by simp [running, hp]
  have hleaves {t : State} (h : checkEnd s = t) : Leaves .consistencyCheckEnd s t := h ▸ occurs_true checkEnd hrun
  refine ⟨fun hv => hleaves (checkEnd_passed hc hd he hv), fun hv ha => hleaves ?_, fun hv ha => hleaves ?_⟩
  · obtain ⟨w, hw⟩ := Option.isSome_iff_exists.mp ha
    rw [checkEnd_failed hc hd he hv, hw]
    exact if_neg Bool.false_ne_true
  · rw [checkEnd_failed hc hd he hv, ha]
    exact if_pos rfl

/-- Settles O14: four writes of StateCommand, the one that starts the check, and the check's verdict. -/
theorem stateCommandsComplete : Obligations.StateCommandsComplete :=
  ⟨stateCommandsWrite, enterOperateStartsTheCheck, checkEndDecides⟩

end Sys2Proof.Machine
end

section
/-! PROOF. RESTART (O13, R436–R438). What no event, no record and no checkpoint changes: the phase, what the security functions hold, the
factory area and the straps. With it the reset that RESTART asks for is the one that follows, whatever the module was about to report. -/
namespace Sys2Proof.Machine

/-- What events, records and checkpoints leave alone: the phase, the security functions with the reset they ask for, the factory area and
the straps. -/
def standing (s : State) : Phase × SecSt × Factory × Straps := (s.phase, s.sec, s.factory, s.straps)

theorem standing_eq_iff {s t : State} :
    standing s = standing t ↔ s.phase = t.phase ∧ s.sec = t.sec ∧ s.factory = t.factory ∧ s.straps = t.straps := by
  simp [standing]

/-- What each step of a fold leaves alone, the fold leaves alone. -/
theorem foldl_keeps {σ α β : Type} (p : σ → β) {f : σ → α → σ} (h : ∀ s a, p (f s a) = p s) (l : List α) (s : σ) :
    p (l.foldl f s) = p s := by
  induction l generalizing s with
  | nil => rfl
  | cons a l ih => exact (ih _).trans (h s a)

theorem foldl_standing {α : Type} {f : State → α → State} (h : ∀ s a, standing (f s a) = standing s) (l : List α) (s : State) :
    standing (l.foldl f s) = standing s := foldl_keeps standing h l s

/-- The same where the fold gathers something beside the state. -/
theorem foldl_standing_fst {α γ : Type} {f : State × γ → α → State × γ} (h : ∀ x a, standing (f x a).1 = standing x.1) (l : List α)
    (x : State × γ) : standing (l.foldl f x).1 = standing x.1 := foldl_keeps (fun x : State × γ => standing x.1) h l x

theorem standing_withNet (s : State) (x : NetSt) : standing { s with net := x } = standing s := rfl
theorem standing_withNand (s : State) (x : Nand) : standing { s with nand := x } = standing s := rfl
theorem standing_withSeq (s : State) (x : SeqSt) : standing { s with seq := x } = standing s := rfl
theorem standing_withRouter (s : State) (x : Router) : standing { s with router := x } = standing s := rfl
@[simp] theorem standing_put (s : State) (k v : Nat) : standing (s.put k v) = standing s := rfl

/-! ### Messages (R335, R340, R341) -/

@[simp] theorem standing_setBus (s : State) (n : Fin 4) (b : BusSt) : standing (setBus s n b) = standing s := rfl
@[simp] theorem standing_loadBuf (s : State) (n : Fin 4) (b : Fin 3) (frames : List CanFrame) (who : Origin) (use seq : Nat) :
    standing (loadBuf s n b frames who use seq) = standing s := by simp [loadBuf]
@[simp] theorem standing_loadRest (s : State) (n : Fin 4) (b : Fin 3) : standing (loadRest s n b) = standing s := by
  unfold loadRest; split <;> simp

@[simp] theorem standing_dropFd (s : State) (n : Fin 4) : standing (dropFd s n) = standing s := by
  unfold dropFd
  split
  · rfl
  · exact (standing_setBus _ n _).trans (foldl_standing (fun t _ => standing_put t _ _) _ s)

@[simp] theorem standing_feedBus (s : State) (n : Fin 4) : standing (feedBus s n) = standing s := by
  have hrest : standing (loadRest (loadRest (dropFd s n) n 0) n 1) = standing s := by simp
  unfold feedBus
  split
  · rfl
  · dsimp only
    generalize loadRest (loadRest (dropFd s n) n 0) n 1 = t at hrest ⊢
    split <;> repeat' split
    all_goals simp [hrest]

@[simp] theorem standing_queueMsg (s : State) (n : Fin 4) (m : WMsg) : standing (queueMsg s n m).1 = standing s := by
  unfold queueMsg; dsimp only; split <;> simp

@[simp] theorem standing_sendAll (s : State) : standing (sendAll s) = standing s := by
  unfold sendAll
  exact foldl_standing (fun t _ => standing_put t _ _) _ s
@[simp] theorem standing_arpHold (s : State) (addr : Nat) (mac : Option Nat) : standing (arpHold s addr mac) = standing s := rfl

@[simp] theorem standing_sendUdp (s : State) (addr port : Nat) (bytes : List Byte) :
    standing (sendUdp s addr port bytes) = standing s := by
  unfold sendUdp
  split
  · rfl
  · next hop _ =>
    refine (standing_withNet _ _).trans ((foldl_standing (fun t _ => standing_put t _ _) _ _).trans ?_)
    split <;> simp

theorem standing_notifyOne (e : EvRec) (acc : State × List Nat) (u : Nat) : standing (notifyOne e acc u).1 = standing acc.1 := by
  unfold notifyOne
  dsimp only
  repeat' split
  all_goals simp

@[simp] theorem standing_notifyAll (s : State) (e : EvRec) : standing (notifyAll s e).1 = standing s :=
  foldl_standing_fst (standing_notifyOne e) _ _

/-! ### Routing (R116–R119) -/

@[simp] theorem standing_stage (s : State) (r : JRec) : standing (stage s r) = standing s := rfl
@[simp] theorem standing_setLost (s : State) (dest src n : Nat) : standing (setLost s dest src n) = standing s := rfl

theorem standing_routeTo (s : State) (dest time src payload : Nat) : standing (routeTo s dest time src payload).1 = standing s := by
  unfold routeTo
  dsimp only
  split
  · split
    · exact (standing_withRouter _ _).trans (standing_setLost s 0 src 0)
    · exact standing_setLost s 0 src _
  · split <;> split
    · simp only [standing_notifyAll, standing_setLost]
    · exact standing_setLost s 1 src _
    · exact (standing_stage _ _).trans (standing_setLost s 2 src 0)
    · exact standing_setLost s 2 src _

theorem standing_route (s : State) (time src payload : Nat) : standing (route s time src payload).1 = standing s := by
  have hfold := standing_put s Ob.routerTotalRaised (wrap 32 (s.ob Ob.routerTotalRaised + 1))
  unfold route
  dsimp only
  split
  all_goals
    simp only [inc_eq, standing_put]
    refine (foldl_standing_fst (fun acc d => ?_) _ _).trans hfold
    exact standing_routeTo acc.1 d time src payload

theorem standing_routeOnce (s : State) : standing (routeOnce s).1 = standing s := by
  unfold routeOnce
  refine (foldl_standing_fst (fun acc e => ?_) _ _).trans (standing_withRouter s _)
  exact standing_route acc.1 e.time e.source e.payload

/-! ### What an event does to the operating state (R78–R81, R120) -/

@[simp] theorem standing_noteRaise (s : State) (src payload : Nat) : standing (noteRaise s src payload) = standing s := rfl
@[simp] theorem standing_traceTrigger (s : State) (t : Fin 8) : standing (traceTrigger s t) = standing s := by
  simp [standing, traceTrigger]
@[simp] theorem standing_setOpState (s : State) (code cause : Nat) : standing (setOpState s code cause) = standing s := by
  simp [standing, setOpState]
@[simp] theorem standing_captureHold (s : State) : standing (captureHold s) = standing s := rfl
@[simp] theorem standing_touchChan (s : State) (n : Nat) : standing (touchChan s n) = standing s := rfl
@[simp] theorem standing_writeChan (s : State) (n value stat ts : Nat) : standing (writeChan s n value stat ts) = standing s := by
  simp [standing, writeChan, touchChan]
@[simp] theorem standing_setEntry (s : State) (e : Nat) (d : EntryDyn) : standing (setEntry s e d) = standing s := rfl
@[simp] theorem standing_takeContext (s : State) (n : Nat) : standing (takeContext s n) = standing s := by
  simp [standing, takeContext, clearActing]
@[simp] theorem standing_dropContext (s : State) (n : Nat) : standing (dropContext s n) = standing s := by
  simp [standing, dropContext, clearActing]

@[simp] theorem standing_journalAction (s : State) (idx sub code : Nat) (old new : List Byte) :
    standing (journalAction s idx sub code old new) = standing s := by
  unfold journalAction; dsimp only; split <;> rfl

@[simp] theorem standing_seqStep (s : State) (k v : Nat) : standing (seqStep s k v) = standing s := by
  unfold seqStep; split <;> simp

@[simp] theorem standing_noteTrip (s : State) (ev : Option Nat) : standing (noteTrip s ev) = standing s := by
  unfold noteTrip
  repeat' split
  all_goals simp

@[simp] theorem standing_leavePreop (s : State) : standing (leavePreop s) = standing s := by
  unfold leavePreop
  split
  · exact foldl_standing (fun t o => by simp) _ s
  · rfl

@[simp] theorem standing_repin (s : State) : standing (repin s) = standing s := by
  unfold repin
  dsimp only
  split
  · rfl
  · exact foldl_standing standing_touchChan _ _

@[simp] theorem standing_chansFromFrame (s : State) (fr : Frame) : standing (chansFromFrame s fr) = standing s := by
  unfold chansFromFrame
  exact foldl_standing (fun t n => by dsimp only; split <;> simp) _ s

@[simp] theorem standing_seqStandDown (s : State) : standing (seqStandDown s) = standing s := by
  have steps (l : List Nat) (key : Nat → Nat) (t : State) : standing (l.foldl (fun t n => seqStep t (key n) 0) t) = standing t :=
    foldl_standing (fun t n => standing_seqStep t (key n) 0) l t
  have puts (l : List Nat) (key : Nat → Nat) (t : State) : standing (l.foldl (fun t n => t.put (key n) 0) t) = standing t :=
    foldl_standing (fun t n => standing_put t (key n) 0) l t
  calc standing (seqStandDown s) = _ := standing_withSeq _ _
    _ = _ := puts _ Ob.aerStatus _
    _ = _ := puts _ Ob.dryerStatus _
    _ = _ := steps _ Ob.aerState _
    _ = _ := steps _ Ob.dryerStep _
    _ = _ := steps _ Ob.chainState _
    _ = _ := puts _ Ob.convFaultCause _
    _ = _ := steps _ Ob.convState s

section
variable {rz : State → Nat → Nat → State} (hrz : ∀ s src payload, standing (rz s src payload) = standing s)
include hrz

theorem standing_changeContext (s : State) (n : Nat) (takes : Bool) : standing (changeContext rz s n takes) = standing s := by
  unfold changeContext
  dsimp only
  split <;> split <;> simp [hrz]

theorem standing_abandonSamples (s : State) : standing (abandonSamples rz s) = standing s := by
  unfold abandonSamples
  refine (foldl_standing (fun t (l : LoopSt) => ?_) _ _).trans rfl
  dsimp only
  split
  · rw [hrz, standing_changeContext hrz]
  · exact standing_changeContext hrz _ _ _

theorem standing_burstsStopped (s : State) : standing (burstsStopped rz s) = standing s := by
  unfold burstsStopped
  exact foldl_standing (fun t e => (hrz _ 239 e).trans (standing_setEntry t e _)) _ s

theorem standing_endTestBy (cause : Nat) (s : State) (d : Fin 32) : standing (endTestBy rz cause s d) = standing s := by
  simp [endTestBy, hrz]

theorem standing_leaveOperate (s : State) : standing (leaveOperate rz s) = standing s := by
  simp only [leaveOperate, standing_seqStandDown]
  rw [foldl_standing (standing_endTestBy hrz 3), standing_abandonSamples hrz, standing_burstsStopped hrz]

theorem standing_enterSafeBy (s : State) (cause bit_ : Nat) (trip : Option Nat) :
    standing (enterSafeBy rz s cause bit_ trip) = standing s := by
  unfold enterSafeBy
  dsimp only
  split <;> simp [standing_leaveOperate hrz]

theorem standing_tripBy (s : State) (cause bit_ : Nat) (ev : Option Nat) : standing (tripBy rz s cause bit_ ev) = standing s := by
  have htrip (t : State) : standing (if t.inOperate then enterSafeBy rz t cause bit_ ev
      else if t.inSafe then noteTrip (t.putBit Ob.opSafeCause bit_ true) ev else t) = standing t := by
    repeat' split
    all_goals simp [standing_enterSafeBy hrz]
  unfold tripBy
  refine (htrip _).trans ?_
  split <;> rfl
end

/-- Whatever an event sets off, it leaves the standing facts alone. -/
theorem standing_raiseDeep (fuel : Nat) (s : State) (src payload : Nat) : standing (raiseDeep fuel s src payload) = standing s := by
  induction fuel generalizing s src payload with
  | zero => rfl
  | succ fuel ih =>
    have hslots := foldl_standing (f := fun t (i : Fin 8) =>
      if awaitsTrigger t src i then raiseDeep fuel (traceTrigger t i) 14 (t.ob (Ob.traceLoop i) % 512 + i.val * 2 ^ 16) else t)
      (fun t i => by split <;> simp [ih]) (List.finRange 8) (noteRaise s src payload)
    unfold raiseDeep
    dsimp only
    split
    · rw [standing_tripBy ih]; exact hslots
    · exact hslots

@[simp] theorem standing_raise (s : State) (src payload : Nat) : standing (raise s src payload) = standing s :=
  standing_raiseDeep 16 s src payload

theorem standing_routeRaised (fuel : Nat) (s : State) : standing (routeRaised fuel s) = standing s := by
  induction fuel generalizing s with
  | zero => exact standing_routeOnce s
  | succ fuel ih =>
    unfold routeRaised
    split
    · rfl
    · dsimp only
      rw [ih, foldl_standing (fun t u => standing_raise t 198 u)]
      exact standing_routeOnce s

@[simp] theorem standing_flush (s : State) : standing (flush s) = standing s := standing_routeRaised 4 s

/-! ### Records, checkpoints and counters (R152, R458–R462, R493) -/

@[simp] theorem standing_yieldPlace (s : State) : standing (yieldPlace s) = standing s := by
  rcases yieldPlace_cases s with h | ⟨g, i, h, -, -⟩
  · rw [h]
  · rw [h]; rfl

@[simp] theorem standing_recordWrite (s : State) (w : WReq) (old : List Byte) : standing (recordWrite s w old) = standing s := by
  simp [recordWrite]

@[simp] theorem standing_formLoss (s : State) : standing (formLoss s) = standing s := by
  unfold formLoss
  dsimp only
  split
  · rfl
  · exact standing_raise _ _ _

theorem standing_chainNext (s : State) : standing (chainNext s) = standing s := by
  unfold chainNext
  dsimp only
  repeat' split
  all_goals rfl

@[simp] theorem standing_chainAll (fuel : Nat) (s : State) : standing (chainAll fuel s) = standing s := by
  induction fuel generalizing s with
  | zero => rfl
  | succ fuel ih =>
    unfold chainAll
    split
    · rfl
    · rw [ih, standing_chainNext]

@[simp] theorem standing_writeOut (s : State) : standing (writeOut s) = standing s :=
  (standing_formLoss _).trans (standing_chainAll _ s)

@[simp] theorem standing_flushJournal (s : State) : standing (flushJournal s) = standing s := by
  unfold flushJournal
  dsimp only
  split <;> simp

@[simp] theorem standing_setPlant (s : State) (g : PlantSt → PlantSt) : standing (setPlant s g) = standing s := rfl

@[simp] theorem standing_ckptFinish (s : State) : standing (ckptFinish s) = standing s := by
  unfold ckptFinish
  split
  · rfl
  · simp only [standing_setPlant, putF_eq, standing_put]
    exact standing_withNand s _

@[simp] theorem standing_ckptWhole (s : State) : standing (ckptWhole s) = standing s :=
  (standing_ckptFinish _).trans (standing_setPlant s _)

@[simp] theorem standing_saveCounters (s : State) : standing (saveCounters s) = standing s := rfl
@[simp] theorem standing_putSlot (s : State) (slot : Nat) (c : List Byte) : standing (putSlot s slot c) = standing s := rfl

/-! ### A reset (R436–R438, R442, R512) -/

@[simp] theorem keepLines_factory (s b : State) : (keepLines s b).factory = b.factory := by unfold keepLines; split <;> rfl
@[simp] theorem keepLines_straps (s b : State) : (keepLines s b).straps = b.straps := by unfold keepLines; split <;> rfl

theorem puts_fold_factory (l : List (Nat × Nat)) (s : State) :
    (l.foldl (fun t (p : Nat × Nat) => t.put p.1 p.2) s).factory = s.factory :=
  foldl_keeps State.factory (fun t p => put_factory t p.1 p.2) l s

theorem puts_fold_straps (l : List (Nat × Nat)) (s : State) :
    (l.foldl (fun t (p : Nat × Nat) => t.put p.1 p.2) s).straps = s.straps :=
  foldl_keeps State.straps (fun t p => put_straps t p.1 p.2) l s

/-- An object reads what the object store lists. -/
theorem ob_of_objs {s t : State} (h : s.objs = t.objs) (k : Nat) : s.ob k = t.ob k := by simp only [State.ob, h]

section
variable (s : State) (cause : Nat) (straps : Straps) (evs : List (Nat × Nat))

/-- A reset finds the factory area as it was. -/
theorem resetNow_factory : (resetNow s cause straps evs).factory = s.factory := by
  simp only [resetNow, keepLines_factory, inc_eq, put_factory, puts_fold_factory, State.blank]
  repeat' split
  all_goals rfl

/-- A reset leaves the straps it was given. -/
theorem resetNow_straps : (resetNow s cause straps evs).straps = straps := by
  simp only [resetNow, keepLines_straps, inc_eq, put_straps, puts_fold_straps, State.blank]

/-- A reset leaves its cause (R436): of what it writes behind the cause nothing is the same object. -/
theorem resetNow_lastResetCause : (resetNow s cause straps evs).ob Ob.resetLastResetCause = cause := by
  have hcount : Ob.resetLastResetCause ≠ (if cause = 0 then Ob.resetPowerOnCount else Ob.resetResetCount) := by split <;> decide
  have hsource : Ob.resetLastResetCause ≠ Ob.supplySource := by decide
  have hsupply : Ob.resetLastResetCause ≠ Ob.supplySupplyStatus := by decide
  have hlist (u b : State) :
      ((resetObjs u straps cause).foldl (fun t (p : Nat × Nat) => t.put p.1 p.2) b).ob Ob.resetLastResetCause = cause := by
    simp only [resetObjs, List.foldl_append, List.foldl_cons, List.foldl_nil]
    rw [ob_put_ne _ _ hsupply, ob_put_ne _ _ hsource, ob_put_self]
  obtain ⟨u, b, hobjs⟩ : ∃ u b, (resetNow s cause straps evs).objs =
      (((resetObjs u straps cause).foldl (fun (t : State) (p : Nat × Nat) => t.put p.1 p.2) b).inc
        (if cause = 0 then Ob.resetPowerOnCount else Ob.resetResetCount)).objs := by
    simp only [resetNow, keepLines_objs]
    exact ⟨_, _, rfl⟩
  rw [ob_of_objs hobjs, inc_eq, ob_put_ne _ _ hcount, hlist]
end

/-- The standing facts of a state after a RESTART: BOOT at its first step, cause 2, and factory area and straps of before. -/
theorem restartNow_leaves (s : State) (cause : Nat) (writes : Bool) (evs : List (Nat × Nat)) :
    (restartNow s cause writes evs).phase = .boot 0 ∧ (restartNow s cause writes evs).ob Ob.resetLastResetCause = cause ∧
    (restartNow s cause writes evs).factory = s.factory ∧ (restartNow s cause writes evs).straps = s.straps := by
  have hwritten : standing (if writes then flushJournal (ckptWhole s) else s) = standing s := by split <;> simp
  obtain ⟨-, -, hfactory, hstraps⟩ := standing_eq_iff.mp hwritten
  exact ⟨resetNow_phase _ _ _ _, resetNow_lastResetCause _ _ _ _, (resetNow_factory _ _ _ _).trans hfactory,
    (resetNow_straps _ _ _ _).trans hstraps⟩

/-- Where the standing facts are those of a running module that was asked for a reset, that reset is carried out. -/
theorem resetIfDue_asked {s t : State} {cause : Nat} {writes : Bool} (h : standing t = standing s) (hp : s.phase = .run)
    (hr : s.sec.resetDue = some (cause, writes)) : resetIfDue t = restartNow t cause writes [] := by
  obtain ⟨hphase, hsec, -, -⟩ := standing_eq_iff.mp h
  simp [resetIfDue, hsec, hr, recoveryRuns, hphase, hp]

/-! ### The boundary behind a reset (R437) -/

/-- In the first step of BOOT a boundary only switches off the lines that the reset found. -/
theorem tickNow_firstBoot {s : State} (hp : s.phase = .boot 0) (downOk : Bool) : tickNow s downOk [] = { s with linesHeld := false } := by
  simp [tickNow, powered, hp, takeJunctions]

/-- The lines of a safe state in the first step of BOOT are off behind the next boundary. -/
theorem boundary_restsLines {s : State} (hs : Safe s) (hp : s.phase = .boot 0) (downOk : Bool) :
    ∃ u, exec (.tickBoundary downOk []) s = .next u ∧ u.phase = .boot 0 ∧ OutputsAtRest u := by
  obtain ⟨-, hdue, hraised⟩ := hs
  have hquiet : resetIfDue (flush { s with linesHeld := false }) = { s with linesHeld := false } := by
    rw [flush_nil (s := { s with linesHeld := false }) hraised, resetIfDue_none (s := { s with linesHeld := false }) hdue]
  refine ⟨_, tickBoundary_leaves rfl, ?_, ?_⟩
  · rw [tickNow_firstBoot hp, after, hquiet]
    exact (settle_phase _).trans hp
  · rw [tickNow_firstBoot hp, after, hquiet]
    exact settle_rest (s := { s with linesHeld := false }) (by simp [hp]) (by simp [linesStand, hp])

/-- Behind the end of a command stands what the reset left: the lines and the queue apart, nothing is added to it. -/
theorem after_keeps (s t : State) :
    (after s t).phase = (resetIfDue (flush t)).phase ∧ (after s t).objs = (resetIfDue (flush t)).objs ∧
    (after s t).factory = (resetIfDue (flush t)).factory ∧ (after s t).straps = (resetIfDue (flush t)).straps :=
  ⟨settle_phase _, settle_objs _, settle_factory _, settle_straps _⟩

/-- A command whose effect, on a running module, is to ask for a reset leaves the module in BOOT with that cause. -/
theorem after_restart {s t u : State} {cause : Nat} {writes : Bool} (h : standing t = standing u) (hp : u.phase = .run)
    (hr : u.sec.resetDue = some (cause, writes)) :
    (after s t).phase = .boot 0 ∧ (after s t).ob Ob.resetLastResetCause = cause ∧
    (after s t).factory = u.factory ∧ (after s t).straps = u.straps := by
  have hflushed := (standing_flush t).trans h
  obtain ⟨-, -, hfactory, hstraps⟩ := standing_eq_iff.mp hflushed
  obtain ⟨aphase, aobjs, afactory, astraps⟩ := after_keeps s t
  obtain ⟨rphase, rcause, rfactory, rstraps⟩ := restartNow_leaves (flush t) cause writes []
  rw [resetIfDue_asked hflushed hp hr] at aphase aobjs afactory astraps
  exact ⟨aphase.trans rphase, (ob_of_objs aobjs _).trans rcause, afactory.trans (rfactory.trans hfactory),
    astraps.trans (rstraps.trans hstraps)⟩

/-- Settles O13: neither the record of the write nor the events before it touch the reset it asked for, so that the module restarts, and the
boundary that follows finds a safe state in BOOT. -/
theorem restartResetsTheModule : Obligations.RestartResetsTheModule := by
  intro x s ha
  obtain ⟨-, hrun, -, -⟩ := ha.1
  obtain ⟨hphase, hcause, hfactory, hstraps⟩ := after_restart (s := s) (u := stateEff 4 s)
    (standing_recordWrite (stateEff 4 s) (writeReq x Ob.opStateCommand .u8 [4])
      (oldBytes s (Ob.opStateCommand / 256) (Ob.opStateCommand % 256)))
    hrun rfl
  exact ⟨_, writeOf_applied (w := byteWrite x Ob.opStateCommand 4 (stateCodes s 4) (stateEff 4)) rfl ha, hphase, hcause, after_pending _ _,
    hfactory, hstraps, boundary_restsLines (after_safe _ _) hphase⟩

end Sys2Proof.Machine
end

section
/-! PROOF. The requests over Worust (O18): READ and WRITE (R336, R337), segmented transfers and snapshots (R61–R64, R338, R339), and the
datagrams that carry messages (R340, R350). -/
namespace Sys2Proof.Machine

/-! ### A request that is taken in (R337) -/

/-- A request that the server hears leaves what serving it makes. -/
theorem leaves_of_asked {c : Instr} {q : Request} {serve : Asker → State → State} {s t : State} (hc : exec c s = asked q s serve)
    (hh : hears s (askerOf q) = true) (ht : serve (askerOf q) s = t) : Leaves c s t := by
  rw [Leaves, hc, ← ht]
  exact occurs_true (serve (askerOf q)) hh

theorem takeRequest_new {s : State} {a : Asker} (h : NewRequest s a) (serve : State → State) :
    takeRequest s a serve = serve (taken s a) := by
  obtain ⟨-, hprio, hnone, hserved, hroom⟩ := h
  simp only [takeRequest, hprio, hnone, hserved, if_neg (Nat.not_le.mpr hroom)]
  rfl

theorem serveRead_answers {s : State} {a : Asker} {idx sub ty : Nat} {v : List Byte} (h : NewRequest s a)
    (hv : readShort (taken s a) idx sub = .ok (ty, v)) : serveRead s a idx sub = answerReq (taken s a) a 5 (bytesLE 1 ty ++ v) := by
  simp only [serveRead, takeRequest_new h, hv]

/-- A write that the store applied is answered with RESPONSE where an answer is asked for. -/
theorem settleWrite_done (t : State) {w : WReq} (h : w.answer = true) : settleWrite (t, .done) w = answerReq t w.who 5 [] := by
  simp [settleWrite, answerRes, answerWrite, h]

theorem serveWrite_answers {s t : State} {a : Asker} {idx sub ty : Nat} {data : List Byte} (h : NewRequest s a)
    (ht : writeObj (taken s a) ⟨a, true, idx, sub, ty, data, none, []⟩ = (t, .done)) :
    serveWrite s a idx sub ty data = answerReq t a 5 [] := by
  simp only [serveWrite, takeRequest_new h, ht]
  exact settleWrite_done t rfl

theorem exec_worustRead (q : Request) (idx : BitVec 16) (sub : Byte) (s : State) :
    exec (.worustRead q idx sub) s = asked q s (fun a s => serveRead s a idx.toNat sub.toNat) := rfl

theorem exec_worustWrite (q : Request) (idx : BitVec 16) (sub type : Byte) (data : List Byte) (s : State) :
    exec (.worustWrite q idx sub type data) s = asked q s (fun a s => serveWrite s a idx.toNat sub.toNat type.toNat data) := rfl

theorem readAndWriteRequestsComplete : Parts.ReadAndWriteRequestsComplete := by
  refine ⟨fun q idx sub s ty v hn hv => ?read, fun q idx sub type data s t hn ht => ?write⟩
  case read => exact leaves_of_asked (exec_worustRead q idx sub s) hn.1 (serveRead_answers hn hv)
  case write => exact leaves_of_asked (exec_worustWrite q idx sub type data s) hn.1 (serveWrite_answers hn ht)

/-! ### Segmented transfers (R61–R64, R338, R339) -/

section
variable (q : Request) (idx : BitVec 16) (s : State)

theorem exec_segopen (sub type : Byte) (write : Bool) (n : BitVec 32) :
    exec (.segopen q idx sub type write n) s = asked q s (fun a s => serveOpen s a idx.toNat sub.toNat type.toNat write n.toNat) := rfl

theorem exec_indexSnapshotRead : exec (.indexSnapshotRead q idx) s = asked q s (fun a s => serveSnapshot s a idx.toNat) := rfl

theorem exec_segment (sq : BitVec 7) (last : Bool) (data : List Byte) :
    exec (.segment q sq last data) s = asked q s (fun a s => serveSegment s a sq.toNat last data) := rfl

theorem exec_segend (crc : BitVec 32) : exec (.segend q crc) s = asked q s (fun a s => serveEnd s a crc.toNat) := rfl

theorem exec_worustAbort (code : BitVec 32) : exec (.worustAbort q code) s = asked q s (fun a s => serveAbort s a code.toNat) := rfl

theorem exec_segmentAck (next : BitVec 7) : exec (.segmentAck q next) s = asked q s (fun a s => serveAck s a next.toNat) := rfl
end

section
variable {s : State} {a : Asker}

/-- The opening of a write that meets no abort takes a transfer, and is answered with the first acknowledgement (R61, R338). -/
theorem serveOpen_write {idx sub ty total : Nat} (h : NewRequest s a) (hc : openCodes (taken s a) a idx sub ty total = []) :
    serveOpen s a idx sub ty true total =
      answerReq (putXfers (taken s a) (s.net.xfers ++ [⟨a, idx, sub, true, ty, total, [], 0, 0, false, s.osc, 0, 0, false⟩])) a 5 [16] := by
  simp only [serveOpen, Bool.not_true, Bool.false_and, Bool.false_eq_true, if_false, if_true, takeRequest_new h, openWrite, hc,
    pickAbort_nil]
  rfl

/-- The opening of a read that finds a transfer free sends the copy it returns (R64). -/
theorem openRead_sends {idx sub : Nat} {v : List Byte} (hroom : s.net.xfers.length < 8) :
    openRead s a idx sub (.ok v) =
      (let x : Xfer := ⟨a, idx, sub, false, 0, v.length, v, 0, 0, false, s.osc, 0, 0, false⟩
       sendMore (answerReq (putXfers s (s.net.xfers ++ [x])) a 5 (bytesLE 4 v.length ++ [16])) x) := by
  simp only [openRead, slotCodes, if_neg (Nat.not_le.mpr hroom), List.append_nil, pickAbort_nil]
  rfl

/-- Only a read of type DOMAIN with length 0 of subindex 0xFF is a snapshot; every other read opens its object. -/
theorem serveOpen_read {idx sub ty total vty : Nat} {v : List Byte} (h : NewRequest s a) (hs : ¬(sub = 0xFF ∧ ty = 12 ∧ total = 0))
    (hroom : s.net.xfers.length < 8) (hv : readOb (taken s a) idx sub = .ok (vty, v)) :
    serveOpen s a idx sub ty false total =
      (let x : Xfer := ⟨a, idx, sub, false, 0, v.length, v, 0, 0, false, s.osc, 0, 0, false⟩
       sendMore (answerReq (putXfers (taken s a) (s.net.xfers ++ [x])) a 5 (bytesLE 4 v.length ++ [16])) x) := by
  have hobject : ¬ (!false && decide (sub = 0xFF) && decide (ty = 12) && decide (total = 0)) = true := by simpa [and_assoc] using hs
  rw [serveOpen, if_neg hobject, takeRequest_new h, hv]
  exact openRead_sends hroom

theorem serveSnapshot_sends {idx : Nat} {v : List Byte} (h : NewRequest s a) (hroom : s.net.xfers.length < 8)
    (hv : snapshot (taken s a) idx = .ok v) :
    serveSnapshot s a idx =
      (let x : Xfer := ⟨a, idx, 0xFF, false, 0, v.length, v, 0, 0, false, s.osc, 0, 0, false⟩
       sendMore (answerReq (putXfers (taken s a) (s.net.xfers ++ [x])) a 5 (bytesLE 4 v.length ++ [16])) x) := by
  rw [serveSnapshot, takeRequest_new h, hv]
  exact openRead_sends hroom

section
variable {x : Xfer} (hx : findXfer s a true = some x)
include hx

/-- A segment in sequence, within the length stated, and the last one reaching it, is taken, and acknowledged where it is the sixteenth or
the last (R62, R338). -/
theorem serveSegment_takes {seq : Nat} {last : Bool} {data : List Byte} (hfits : x.got + (unpad a x last data).length ≤ x.total)
    (hlast : last = true → x.total ≤ x.got + (unpad a x last data).length) (hseq : seq % 128 = x.nextSeq % 128) (hopen : x.last = false) :
    serveSegment s a seq last data =
      (let d := unpad a x last data
       let t := setXfer s { x with buf := x.buf ++ d, got := x.got + d.length, nextSeq := x.nextSeq + 1, last := last, lastAt := s.osc }
       if (x.nextSeq + 1) % 16 = 0 ∨ last = true then sendTo t a 5 (bytesLE 1 ((x.nextSeq + 1) % 128)) else t) := by
  have hlength : ¬ (x.total < x.got + (unpad a x last data).length ∨
      (last && decide (x.got + (unpad a x last data).length < x.total)) = true) := by
    simpa [hfits] using hlast
  simp only [serveSegment, hx, if_neg hlength, if_pos (And.intro hseq hopen), List.append_nil, pickAbort_nil, Bool.or_eq_true,
    decide_eq_true_eq]

/-- The end of a write transfer that is complete, with its CRC, makes the object change as one write (R62). -/
theorem serveEnd_writes {crc : Nat} {t : State} (htotal : x.got = x.total) (hcrc : crc32 x.buf = crc)
    (ht : writeObj { dropXfer s a with net := { (dropXfer s a).net with inProgress := x.who :: (dropXfer s a).net.inProgress } }
      ⟨x.who, true, x.idx, x.sub, x.ty, x.buf, some x.total, []⟩ = (t, .done)) :
    serveEnd s a crc = answerReq t x.who 5 [] := by
  simp only [serveEnd, hx, if_pos htotal, if_pos hcrc, List.append_nil, ht]
  exact settleWrite_done t rfl
end

/-- An acknowledgement of segments that are out closes the read behind the last one, and lets more go before (R338). -/
theorem serveAck_acknowledges {x : Xfer} {next : Nat} (hx : findXfer s a false = some x)
    (hnew : x.acked < x.acked + (next + 128 - x.acked % 128) % 128) (hout : x.acked + (next + 128 - x.acked % 128) % 128 ≤ x.sentTo) :
    serveAck s a next =
      (let k := x.acked + (next + 128 - x.acked % 128) % 128
       if k = segCount x then dropXfer (sendTo s x.who 9 (bytesLE 4 (crc32 x.buf))) a
       else sendMore (setXfer s { x with acked := k, lastAt := s.osc }) { x with acked := k, lastAt := s.osc }) := by
  have hsome : ¬ (x.acked + (next + 128 - x.acked % 128) % 128 ≤ x.acked ∨
      x.sentTo < x.acked + (next + 128 - x.acked % 128) % 128) := by omega
  simp only [serveAck, hx, if_neg hsome]

/-- A transfer silent for more than its time aborts while the server runs (R62, R338). -/
theorem xferTimeout_aborts {x : Xfer} (hup : serverUp s = true)
    (hx : s.net.xfers.find? (fun x => sameAsker x.who a && decide (x.lastAt + 1000000 < s.osc)) = some x) :
    xferTimeout s a = abortOpen s x 0x00020006 := by
  simp only [xferTimeout, hx, hup, if_true]
end

theorem transferRequestsComplete : Parts.TransferRequestsComplete := by
  refine ⟨?openWrite, ?openRead, ?snapshot, ?segment, ?segend, ?timeout, ?abort, ?ack⟩
  case openWrite =>
    exact fun q idx sub type n s hn hc => leaves_of_asked (exec_segopen q idx s sub type true n) hn.1 (serveOpen_write hn hc)
  case openRead =>
    exact fun q idx sub type n s ty v hn hs hr hv =>
      leaves_of_asked (exec_segopen q idx s sub type false n) hn.1 (serveOpen_read hn hs hr hv)
  case snapshot =>
    exact fun q idx s v hn hr hv => leaves_of_asked (exec_indexSnapshotRead q idx s) hn.1 (serveSnapshot_sends hn hr hv)
  case segment =>
    exact fun q sq last data s x hh hx hf hl hq ho =>
      leaves_of_asked (exec_segment q s sq last data) hh (serveSegment_takes hx hf hl hq ho)
  case segend =>
    exact fun q crc s x t hh hx hg hc ht => leaves_of_asked (exec_segend q s crc) hh (serveEnd_writes hx hg hc ht)
  case timeout => exact fun q s x hu hx => leaves_of_finish rfl (xferTimeout_aborts hu hx)
  case abort => exact fun q code s hh hx => leaves_of_asked (exec_worustAbort q s code) hh (if_pos hx)
  case ack => exact fun q next s x hh hx hn ho => leaves_of_asked (exec_segmentAck q s next) hh (serveAck_acknowledges hx hn ho)

/-! ### Datagrams (R340, R350) -/

section
variable {s : State} {e : Fin 2} {addr port : Nat}

/-- A sound datagram with a whole header and a message of its own kind is served (R340). -/
theorem udpMessage_serves {bytes : List Byte} (hup : serverUp s = true) (hlen : 8 ≤ bytes.length) (hver : leAt bytes 0 1 = 1)
    (hkind : 0 < leAt bytes 1 1 % 16) (hmost : leAt bytes 1 1 % 16 < 12) (hbody : leAt bytes 4 2 = bytes.length - 8) :
    udpMessage s e addr port bytes =
      serveMessage s ⟨⟨0x20 + e.val, addr, port⟩, leAt bytes 2 2, 0, false⟩ (leAt bytes 1 1 % 16) (bytes.drop 8) := by
  have hwhole : ¬ (bytes.length < 8 ∨ leAt bytes 0 1 ≠ 1 ∨ 12 ≤ leAt bytes 1 1 % 16 ∨ leAt bytes 4 2 ≠ bytes.length - 8) := by omega
  simp only [udpMessage, hup, Bool.not_true, Bool.false_eq_true, if_false, if_neg hwhole, if_neg (Nat.ne_of_gt hkind)]

variable {d : Datagram} (hp : s.phase = .run) (hl : linked s e.val = true)
include hp hl

/-- In the running module a linked port counts a bad frame as an error, and passes any other on (R340, R350). -/
theorem udpDatagram_run : udpDatagram s e addr port d =
    if d.sound = false ∨ datagramMost < d.bytes.length then s.inc (Ob.ethRxErrors e.val)
    else
      let t := (learnAddress s d.mac.toNat e.val).inc (Ob.ethRxFrames e.val)
      if ipUp t = false ∨ d.toAddr.toNat ≠ t.ob Ob.ipAddress ∨ d.toPort.toNat ≠ t.ob Ob.worustUdpPort then t
      else udpMessage (arpHeard t addr d.mac.toNat) e addr port d.bytes := by
  have hno : recoveryRuns s = false := by simp [recoveryRuns, hp]
  have hport : ¬ (s.phase ≠ .run ∨ linked s e.val = false) := by simp [hp, hl]
  rw [udpDatagram, hno, if_neg Bool.false_ne_true, if_neg hport]

theorem udpDatagram_error (hbad : d.sound = false ∨ datagramMost < d.bytes.length) :
    udpDatagram s e addr port d = s.inc (Ob.ethRxErrors e.val) := by rw [udpDatagram_run hp hl, if_pos hbad]

/-- A sound datagram for the module is its message, the sender's address being learned. -/
theorem udpDatagram_message {t : State} (hsound : d.sound = true) (hlen : d.bytes.length ≤ datagramMost)
    (ht : (learnAddress s d.mac.toNat e.val).inc (Ob.ethRxFrames e.val) = t) (hip : ipUp t = true)
    (haddr : d.toAddr.toNat = t.ob Ob.ipAddress) (hport : d.toPort.toNat = t.ob Ob.worustUdpPort) :
    udpDatagram s e addr port d = udpMessage (arpHeard t addr d.mac.toNat) e addr port d.bytes := by
  subst ht
  rw [udpDatagram_run hp hl, if_neg (by simp [hsound, hlen])]
  exact if_neg (by simp only [hip, haddr, hport, ne_eq, not_true_eq_false, Bool.true_eq_false, or_self, not_false_eq_true])
end

theorem datagramIsServed : Parts.DatagramIsServed := by
  refine ⟨fun e addr port d s hp hl hs hm hip ha hport hup hlen hver hk hmost hbody => ?sound, fun e addr port d s hp hl hbad => ?bad⟩
  case sound =>
    exact leaves_of_finish rfl ((udpDatagram_message hp hl hs hm rfl hip ha hport).trans (udpMessage_serves hup hlen hver hk hmost hbody))
  case bad => exact leaves_of_finish rfl (udpDatagram_error hp hl hbad)

/-- Settles O18: a request that is taken in is served as its function says, and a sound datagram is the message it carries. -/
theorem worustRequestsComplete : Obligations.WorustRequestsComplete :=
  ⟨readAndWriteRequestsComplete, transferRequestsComplete, datagramIsServed⟩

end Sys2Proof.Machine
end

section
/-! PROOF. The timebases (R86–R102): the loss and return of a grain clock's signal (O19), when a crossing of the mains phase is missed (O20),
and what the commands of the three clocks leave (O21). -/
namespace Sys2Proof.Machine

/-- An event whose effect changes nothing leaves a safe state as it was, whether or not it can occur. -/
theorem occurs_idle {s : State} {c : Bool} {eff : State → State} (hs : Safe s) (h : eff s = s) : occurs s c eff = .next s := by
  rw [occurs, h, ite_self, finish_eq, after_self hs]

/-! ### The signal of a grain clock (R91) -/

section
variable {s : State} {k : Fin 8}

/-- A loss under way, or a return with no loss before it, changes nothing. -/
theorem gcSignal_same {lost : Bool} (h : s.stBit (Ob.gcStatus k) 1 = lost) : gcSignal s k lost = s :=
  if_pos (beq_iff_eq.mpr h)

/-- The entry to SIGLOSS raises cause 3. -/
theorem gcSignal_loss (h : s.stBit (Ob.gcStatus k) 1 = false) :
    gcSignal s k true = raise (s.putBit (Ob.gcStatus k) 1 true) (224 + k.val) 3 := by simp [gcSignal, h]

/-- The return clears SIGLOSS and raises nothing. -/
theorem gcSignal_return (h : s.stBit (Ob.gcStatus k) 1 = true) : gcSignal s k false = s.putBit (Ob.gcStatus k) 1 false := by
  simp [gcSignal, h]
end

/-- Settles O19: each half finds SIGLOSS as its command would leave it. -/
theorem signalLossReportedOnce : Obligations.SignalLossReportedOnce :=
  fun k _ hs _ => ⟨fun h => occurs_idle (eff := fun s => gcSignal s k true) hs (gcSignal_same h),
    fun h => occurs_idle (eff := fun s => gcSignal s k false) hs (gcSignal_same h)⟩

/-! ### The edges of a grain clock (R85–R87) -/

/-- A change of one line that the mode looks at is one edge. -/
theorem gcLines_eq_one {single : Bool} {line : GcLine} (hb : ¬(single = true ∧ line = .b)) (hl : line ≠ .both) :
    gcLines single line = 1 := by
  cases line with
  | a => rfl
  | b => exact if_neg fun h => hb ⟨h, rfl⟩
  | both => exact absurd rfl hl

section
variable {s : State} {k : Fin 8} {c : GcChange} (hen : s.flag (Ob.gcEnable k) = true)
  (hn : gcLines (s.ob (Ob.gcCountMode k) == 2) c.line = 1)
include hen hn

/-- A pulse that the filter rejects is a glitch and no more (R86). -/
theorem gcJudge_glitch (hv : c.verdict = .glitch) : gcJudge s k c = s.inc (Ob.gcGlitchCount k) := by
  simp [gcJudge, hen, hn, hv]

/-- An edge that it accepts counts by the direction, where its mode counts on it (R85, R86). -/
theorem gcJudge_counts (hv : c.verdict = .counts) :
    gcJudge s k c =
      (gcDirection (gcAccept s k 1 c.due) k (c.line != .b) c.a c.b).elim (gcAccept s k 1 c.due)
        (fun fwd => gcCount (gcAccept s k 1 c.due) k fwd c.due) := by
  simp only [gcJudge, hen, hn, hv]
  cases gcDirection (gcAccept s k 1 c.due) k (c.line != .b) c.a c.b <;> rfl
end

/-! ### When an event of the timebases is due -/

theorem gcStalled_iff {s : State} {k : Fin 8} :
    gcStalled s k = true ↔
      s.flag (Ob.gcEnable k) = true ∧ s.stBit (Ob.gcStatus k) 4 = false ∧ s.gc[k].lastEdge + s.micros (Ob.gcStallTime k) ≤ s.osc := by
  simp only [gcStalled, Bool.and_eq_true, Bool.not_eq_true', decide_eq_true_eq, and_assoc]
  rfl

theorem qerrOver_iff {s : State} {k : Fin 8} :
    qerrOver s k = true ↔ s.stBit (Ob.gcStatus k) 2 = true ∧ s.gc[k].qerrAt + 1000000 ≤ s.osc := by
  simp [qerrOver]

/-- Settles O20: the six conjuncts of the guard of MP_MISS, each read as a proposition. -/
theorem missDueAfterOneAndAHalfPeriods : Obligations.MissDueAfterOneAndAHalfPeriods := by
  intro s
  simp only [mpMissDue, Bool.and_eq_true, Bool.not_eq_true', bne_iff_ne, beq_iff_eq, decide_eq_true_eq, and_assoc]

theorem slewDue_iff {s : State} : slewDue s = true ↔ s.wcs.slew ≠ 0 ∧ s.wcs.slewAt + 2000 ≤ s.osc := by simp [slewDue]

theorem syncLossDue_iff {s : State} :
    syncLossDue s = true ↔ s.stBit Ob.wcSyncStatus 1 = true ∧ s.wcs.lastMsg + s.micros Ob.wcSyncLossTime ≤ s.osc := by
  simp [syncLossDue]

/-! ### The commands of the three clocks -/

theorem grainClockCommandsComplete : Parts.GrainClockCommandsComplete := by
  refine ⟨?edge, ?judge, ?rate, ?stall, ?loss, ?back, ?qerr⟩
  case edge => exact fun k line held m s hc => leaves_of_finish rfl (if_pos hc)
  case judge =>
    intro k c s hen hb hl
    have hn : gcLines (s.ob (Ob.gcCountMode k) == 2) c.line = 1 := gcLines_eq_one (by rwa [beq_iff_eq]) hl
    refine ⟨gcJudge_glitch hen hn, fun hv => (gcJudge_counts hen hn hv).trans ?_⟩
    cases gcDirection (gcAccept s k 1 c.due) k (c.line != .b) c.a c.b <;> rfl
  case rate => exact fun k s hc hen hd => leaves_of_finish rfl (if_pos (by rw [hc, hen, hd]; rfl))
  case stall => exact fun k s hc hen hst ht => leaves_of_finish rfl (if_pos (by rw [hc, gcStalled_iff.mpr ⟨hen, hst, ht⟩]; rfl))
  case loss => exact fun k s hc h => leaves_of_finish rfl ((if_pos hc).trans (gcSignal_loss h))
  case back => exact fun k s hc h => leaves_of_finish rfl ((if_pos hc).trans (gcSignal_return h))
  case qerr => exact fun k s hc hq ht => leaves_of_finish rfl (if_pos (by rw [hc, qerrOver_iff.mpr ⟨hq, ht⟩]; rfl))

theorem mainsPhaseCommandsComplete : Parts.MainsPhaseCommandsComplete := by
  refine ⟨?crossing, ?miss, ?lost⟩
  case crossing => exact fun off s hc _ => leaves_of_finish rfl (if_pos hc)
  case miss => exact fun s hc hm => leaves_of_finish rfl (if_pos (by rw [hc, hm]; rfl))
  case lost => exact fun s hc hl => leaves_of_finish rfl (if_pos (by rw [hc, hl]; rfl))

/-- A sender's write of one object that meets no abort, and is served at once, leaves its effect and its record (R53, R458). -/
theorem writeKey_applied {s : State} {x : Sender} {k : Nat} {ty : Ty} {data : List Byte} {codes : List Nat} {eff : State → State}
    (h : Applies s x k ty data codes eff) : (writeKey s x k ty data codes eff).1 = recorded s x k ty data (eff s) := by
  obtain ⟨⟨hreach, hrun, hq, hplace⟩, hcodes⟩ := h
  rw [writeKey_eq, if_pos hreach, submit_applied (w := writeReq x k ty data) hrun hq hplace (pickAbort_none.mpr hcodes)]
  rfl

/-- A written time steps WC to it (R100, R101). -/
theorem wcTimeWrite_writes (x : Sender) (v : BitVec 64) (s : State) :
    Writes (.wcTimeWrite x v) s x Ob.wcTime .u64 (bytesLE 8 v.toNat) (wcTimeCodes s) (wcTimeEff v.toNat) :=
  fun h => leaves_of_finish rfl (writeKey_applied h)

theorem wallClockCommandsComplete : Parts.WallClockCommandsComplete := by
  refine ⟨?slew, ?rate, ?time, ?loss⟩
  case slew => exact fun s hc hs ht => leaves_of_finish rfl (if_pos (by rw [hc, slewDue_iff.mpr ⟨hs, ht⟩]; rfl))
  case rate => exact fun s hc hr => leaves_of_finish rfl (if_pos (by rw [hc, hr]; rfl))
  case time => exact wcTimeWrite_writes
  case loss => exact fun s hp hl ht => leaves_of_finish rfl (if_pos (by rw [running, hp, syncLossDue_iff.mpr ⟨hl, ht⟩]; rfl))

/-- Settles O21: each command is its effect followed by the shared end of commands, and its guard is the statement's hypotheses. -/
theorem timebaseCommandsComplete : Obligations.TimebaseCommandsComplete :=
  ⟨grainClockCommandsComplete, mainsPhaseCommandsComplete, wallClockCommandsComplete⟩

end Sys2Proof.Machine
end

section
/-! PROOF. The schedule and the event router: the writes of an entry (O22, R111) and the credits of a source at module firmware
(O23, R117, R118). -/
namespace Sys2Proof.Machine

/-! ### The writes of an entry (R111) -/

/-- Enable set where it was clear lets the entry arm anew; where it was set, it stays armed as it is. -/
theorem entryEnableEff_true (e : Nat) :
    entryEnableEff e true = fun s =>
      if s.flag (Ob.entryEnable e) = true then s.put (Ob.entryEnable e) 1
      else setEntry (s.put (Ob.entryEnable e) 1) e { entryDyn (s.put (Ob.entryEnable e) 1) e with arming := true, armed := false } := by
  funext s
  cases h : s.flag (Ob.entryEnable e) <;> simp [entryEnableEff, h, ofBool]

/-- Settles O22: Enable and Target are each one object's write, and the effect of Enable is a case of its new and its old value. -/
theorem entryWritesComplete : Obligations.EntryWritesComplete := by
  refine ⟨fun x e s => ?enable, fun x e s => ?disable, fun x e v s => ?target⟩
  case enable => exact entryEnableEff_true e ▸ writeOf_applied (c := .entryEnableWrite x e (.enable true)) (s := s) rfl
  case disable => exact writeOf_applied (c := .entryEnableWrite x e (.enable false)) (s := s) rfl
  case target => exact writeOf_applied (c := .entryEnableWrite x e (.target v)) (s := s) rfl

/-! ### The raises that were lost (R118) -/

theorem assoc_assocSet_self {α : Type} (l : List (Nat × α)) (k : Nat) (v : α) : assoc (assocSet l k v) k = some v := by
  induction l with
  | nil => simp [assocSet, assoc]
  | cons c rest ih =>
    unfold assocSet
    split
    · simp [assoc]
    · split
      · simp [assoc]
      · next hne => simpa [assoc, Ne.symm hne] using ih

theorem assoc_assocDrop_self {α : Type} (l : List (Nat × α)) (k : Nat) : assoc (assocDrop l k) k = none := by
  induction l with
  | nil => rfl
  | cons c rest ih =>
    by_cases hc : c.1 = k
    · simpa [assocDrop, hc] using ih
    · simpa [assocDrop, assoc, hc] using ih

/-- The lost count reads what was written to it. -/
theorem lostCount_setLost_self (s : State) (dest src n : Nat) : lostCount (setLost s dest src n) dest src = n := by
  simp only [lostCount, setLost]
  split
  · next h => simp [assoc_assocDrop_self, h]
  · simp [assoc_assocSet_self]

/-! ### The records that wait at the cores (R117) -/

theorem coresOut_cons {s : State} {e : EvRec} {rest : List EvRec} (h : s.router.cores = e :: rest) :
    coresOut s e.source = coresOut { s with router := { s.router with cores := rest } } e.source + 1 := by
  simp [coresOut, h]

/-- A source's record that joins those waiting takes one credit more. -/
theorem coresOut_snoc {s t : State} {e : EvRec} (h : t.router.cores = s.router.cores ++ [e]) :
    coresOut t e.source = coresOut s e.source + 1 := by
  simp [coresOut, h]

section
variable {s : State} {src : Nat} (time payload : Nat)

/-- With a credit left the record is queued, and the raises lost before it are told. -/
theorem routeTo_cores_of_credit (h : coresOut s src < bits (srcConfig s src) 7 0) :
    routeTo s 0 time src payload =
      ({ setLost s 0 src 0 with
          router := { (setLost s 0 src 0).router with cores := s.router.cores ++ [mkRec s 0 time src payload] } }, true, []) := by
  rw [routeTo, if_pos rfl, if_pos h]

/-- With none left the raise is lost there. -/
theorem routeTo_cores_of_none (h : bits (srcConfig s src) 7 0 ≤ coresOut s src) :
    routeTo s 0 time src payload = (setLost s 0 src (lostCount s 0 src + 1), false, []) := by
  rw [routeTo, if_pos rfl, if_neg (Nat.not_lt.mpr h)]
end

theorem recordReadReturnsTheCredit : Parts.RecordReadReturnsTheCredit :=
  ⟨fun s hp ha => leaves_of_finish rfl (if_pos (by simp [firmwareRuns, running, hp, ha])), fun _ _ _ => coresOut_cons⟩

theorem raiseObeysTheCredits : Parts.RaiseObeysTheCredits := by
  intro s time src payload
  refine ⟨fun h => ?queued, fun h => ?lost, fun h => ?bound⟩
  case queued => rw [routeTo_cores_of_credit time payload h]; exact ⟨rfl, rfl⟩
  case lost => rw [routeTo_cores_of_none time payload h]; exact ⟨rfl, rfl, lostCount_setLost_self s 0 src _⟩
  case bound =>
    by_cases hc : coresOut s src < bits (srcConfig s src) 7 0
    · rw [routeTo_cores_of_credit time payload hc]
      calc coresOut _ src = coresOut s src + 1 := coresOut_snoc (e := mkRec s 0 time src payload) rfl
        _ ≤ bits (srcConfig s src) 7 0 := hc
    · rw [routeTo_cores_of_none time payload (Nat.not_lt.mp hc)]
      exact h

/-- Settles O23: a raise finds a credit or finds none, and a record read is the first of those that wait. -/
theorem creditsBoundTheRecords : Obligations.CreditsBoundTheRecords := ⟨recordReadReturnsTheCredit, raiseObeysTheCredits⟩

end Sys2Proof.Machine
end

section
/-! PROOF. Parcels, ledger and drying model: what LEDGER_RESET leaves (O24, R145, R146), the checkpoint that becomes valid (O25, R151, R152),
and what the commands of paths, bins, ledger, checkpoints and model steps leave (O26, R130–R178). -/
namespace Sys2Proof.Machine

/-! ### One bit of a status word -/

/-- Adding an absent power of two sets its bit alone: the bits above it take no carry. -/
theorem testBit_two_pow_add_ne {n k j : Nat} (hk : n.testBit k = false) (hj : j ≠ k) : (2 ^ k + n).testBit j = n.testBit j := by
  rcases Nat.lt_or_gt_of_ne hj with hlt | hgt
  · exact Nat.testBit_two_pow_add_gt hlt n
  · obtain ⟨d, rfl⟩ := Nat.exists_eq_add_of_lt hgt
    have heven : n / 2 ^ k % 2 = 0 := by
      rw [Nat.testBit_eq_decide_div_mod_eq, decide_eq_false_iff_not] at hk
      omega
    have hup : (2 ^ k + n) / 2 ^ k = n / 2 ^ k + 1 := Nat.add_div_left n (Nat.two_pow_pos k)
    have hhigh : (2 ^ k + n) / 2 ^ (k + 1) = n / 2 ^ (k + 1) := by
      rw [Nat.pow_succ, ← Nat.div_div_eq_div_mul, ← Nat.div_div_eq_div_mul, hup]
      omega
    rw [show k + d + 1 = d + (k + 1) by omega, Nat.testBit_add, Nat.testBit_add, hhigh]

/-- A word with bit `k` is that bit added to the word without it. -/
theorem eq_two_pow_add_of_testBit {n k : Nat} (hk : n.testBit k = true) : ∃ m, n = 2 ^ k + m ∧ m.testBit k = false := by
  obtain ⟨m, rfl⟩ := Nat.exists_eq_add_of_le (Nat.ge_two_pow_of_testBit hk)
  exact ⟨m, rfl, by simpa [Nat.testBit_two_pow_add_eq] using hk⟩

/-- Setting a bit changes nothing, adds its power of two, or takes it away. -/
theorem setBit_cases (n k : Nat) (b : Bool) :
    (bit n k = b ∧ setBit n k b = n) ∨ (b = true ∧ bit n k = false ∧ setBit n k b = 2 ^ k + n) ∨
    ∃ m, b = false ∧ n = 2 ^ k + m ∧ bit m k = false ∧ setBit n k b = m := by
  by_cases h : bit n k = b
  · exact .inl ⟨h, by simp [setBit, h]⟩
  · cases b with
    | true =>
      have hclear : bit n k = false := Bool.eq_false_iff.mpr h
      exact .inr (.inl ⟨rfl, hclear, by simp [setBit, hclear, Nat.add_comm]⟩)
    | false =>
      have hset : bit n k = true := Bool.not_eq_false _ ▸ h
      obtain ⟨m, rfl, hm⟩ := eq_two_pow_add_of_testBit hset
      exact .inr (.inr ⟨m, rfl, rfl, hm, by simp [setBit, hset]⟩)

@[simp] theorem bit_setBit_self (n k : Nat) (b : Bool) : bit (setBit n k b) k = b := by
  rcases setBit_cases n k b with ⟨hb, h⟩ | ⟨rfl, hclear, h⟩ | ⟨m, rfl, -, hm, h⟩ <;> rw [h]
  · exact hb
  · rw [bit, Nat.testBit_two_pow_add_eq, ← bit, hclear, Bool.not_false]
  · exact hm

theorem bit_setBit_ne (n : Nat) {k j : Nat} (b : Bool) (hj : j ≠ k) : bit (setBit n k b) j = bit n j := by
  rcases setBit_cases n k b with ⟨-, h⟩ | ⟨-, hclear, h⟩ | ⟨m, -, rfl, hm, h⟩ <;> rw [h]
  · exact testBit_two_pow_add_ne hclear hj
  · exact (testBit_two_pow_add_ne hm hj).symm

/-! ### LEDGER_RESET (R145, R146) -/

/-- Objects set to 0 in turn read 0, and every other object reads as before. -/
theorem foldl_put_zero_ob (l : List Nat) (s : State) (j : Nat) :
    (l.foldl (fun s k => s.put k 0) s).ob j = if j ∈ l then 0 else s.ob j := by
  induction l generalizing s with
  | nil => simp
  | cons k l ih =>
    rw [List.foldl_cons, ih, ob_put]
    by_cases hl : j ∈ l <;> by_cases hk : j = k <;> simp [hl, hk]

theorem ledger_mem_ledgerKeys {i : Nat} (hi : i < 13) : key 0x4000 (1 + i) ∈ ledgerKeys :=
  List.mem_append_left _ (List.mem_append_left _ (List.mem_map.mpr ⟨i, List.mem_range.mpr hi, rfl⟩))

theorem pathAcct_mem_ledgerKeys {p i : Nat} (hp : p < 16) (hi : i < 8) : key (0x4080 + p) (1 + i) ∈ ledgerKeys :=
  List.mem_append_left _ (List.mem_append_right _ (List.mem_flatMap.mpr
    ⟨p, List.mem_range.mpr hp, List.mem_map.mpr ⟨i, List.mem_range.mpr hi, rfl⟩⟩))

theorem bin_mem_ledgerKeys {b : Nat} (hb : b < 64) : Ob.binDryReceived b ∈ ledgerKeys ∧ Ob.binDryUnloaded b ∈ ledgerKeys :=
  have hbin {k : Nat} (hk : k ∈ [Ob.binDryReceived b, Ob.binDryUnloaded b]) : k ∈ ledgerKeys :=
    List.mem_append_right _ (List.mem_flatMap.mpr ⟨b, List.mem_range.mpr hb, hk⟩)
  ⟨hbin List.mem_cons_self, hbin (List.mem_cons_of_mem _ List.mem_cons_self)⟩

/-- LedgerStatus is none of the accounts. -/
theorem ledgerStatus_notMem_ledgerKeys : Ob.ledgerLedgerStatus ∉ ledgerKeys := by
  simp only [ledgerKeys, Ob.ledgerLedgerStatus, Ob.binDryReceived, Ob.binDryUnloaded, key, List.mem_append, List.mem_map,
    List.mem_flatMap, List.mem_range, List.mem_cons, List.not_mem_nil, or_false]
  omega

/-- The accounts at 0 with CHECKFAIL clear, before the check of R146. -/
def zeroedAccounts (s : State) : State :=
  (ledgerKeys.foldl (fun s k => s.put k 0) s).putBit Ob.ledgerLedgerStatus 1 false

theorem zeroedAccounts_ob (s : State) {k : Nat} (hk : k ∈ ledgerKeys) : (zeroedAccounts s).ob k = 0 := by
  have hne : k ≠ Ob.ledgerLedgerStatus := fun h => ledgerStatus_notMem_ledgerKeys (h ▸ hk)
  rw [zeroedAccounts, putBit_eq, ob_put_ne _ _ hne, foldl_put_zero_ob, if_pos hk]

/-- Where every account reads 0 the identity of R146 holds. -/
theorem ledgerHolds_of_zero {s : State} (h : ∀ i < 13, s.ob (key 0x4000 (1 + i)) = 0) : ledgerHolds s = true := by
  have hin : s.ob Ob.ledgerDryIn = 0 := h 0 (by decide)
  have hadjustIn : s.ob Ob.ledgerDryAdjustIn = 0 := h 1 (by decide)
  have hprocess : s.ob Ob.ledgerDryInProcess = 0 := h 2 (by decide)
  have hbins : s.ob Ob.ledgerDryInBins = 0 := h 3 (by decide)
  have hout : s.ob Ob.ledgerDryOut = 0 := h 4 (by decide)
  have hadjustOut : s.ob Ob.ledgerDryAdjustOut = 0 := h 5 (by decide)
  simp only [ledgerHolds, hin, hadjustIn, hprocess, hbins, hout, hadjustOut, beq_self_eq_true]

/-- The check that follows finds the ledger balanced. -/
theorem ledgerReset_eq (s : State) : ledgerReset s = (zeroedAccounts s).putBit Ob.ledgerLedgerStatus 0 true :=
  if_pos (ledgerHolds_of_zero fun _ hi => zeroedAccounts_ob s (ledger_mem_ledgerKeys hi))

theorem ledgerReset_ob (s : State) {k : Nat} (hk : k ∈ ledgerKeys) : (ledgerReset s).ob k = 0 := by
  have hne : k ≠ Ob.ledgerLedgerStatus := fun h => ledgerStatus_notMem_ledgerKeys (h ▸ hk)
  rw [ledgerReset_eq, putBit_eq, ob_put_ne _ _ hne, zeroedAccounts_ob s hk]

theorem ledgerReset_balanced (s : State) : (ledgerReset s).stBit Ob.ledgerLedgerStatus 0 = true := by
  rw [ledgerReset_eq, State.stBit, putBit_eq, ob_put_self, bit_setBit_self]

theorem ledgerReset_checkFail (s : State) : (ledgerReset s).stBit Ob.ledgerLedgerStatus 1 = false := by
  rw [ledgerReset_eq, State.stBit, putBit_eq, ob_put_self, bit_setBit_ne _ _ (by decide), zeroedAccounts, putBit_eq, ob_put_self,
    bit_setBit_self]

/-- Objects written in turn are all that changes. -/
theorem foldl_put_zero_frame (l : List Nat) (s : State) (o : List (Nat × Nat)) :
    { l.foldl (fun s k => s.put k 0) s with objs := o } = { s with objs := o } :=
  foldl_keeps (fun t : State => { t with objs := o }) (f := fun s k => s.put k 0) (fun _ _ => rfl) l s

theorem put_frame (s : State) (k v : Nat) (o : List (Nat × Nat)) : { s.put k v with objs := o } = { s with objs := o } := rfl

/-- A reset of the ledger writes objects and nothing else. -/
theorem ledgerReset_frame (s : State) : ledgerReset s = { s with objs := (ledgerReset s).objs } := by
  generalize ho : (ledgerReset s).objs = o
  calc ledgerReset s = { ledgerReset s with objs := o } := by rw [← ho]
    _ = { s with objs := o } := by
      rw [ledgerReset_eq, zeroedAccounts, putBit_eq, putBit_eq, put_frame, put_frame, foldl_put_zero_frame]

theorem ledgerReset_ready {s : State} (h : Ready s) : Ready (ledgerReset s) := by
  rw [ledgerReset_frame]
  exact ready_withStore h _ s.staging

/-- The place that the write found is there for its record. -/
theorem ledgerReset_placesUsed (s : State) : placesUsed (ledgerReset s) = placesUsed s := by
  rw [ledgerReset_frame]; rfl

/-- A write that is admitted finds a place among the 768. -/
theorem Admitted.placesUsed_lt {s : State} {x : Sender} (h : Admitted s x) : placesUsed s < 768 := by
  obtain ⟨-, -, -, hplace⟩ := h
  split at hplace <;> omega

/-- Settles O24: on a ready module the command leaves the effect and the record of its write, the effect writes 0 to every account, and the
check behind it finds 0 on both sides of the identity. -/
theorem ledgerResetZeroesTheAccounts : Obligations.LedgerResetZeroesTheAccounts := by
  intro x s ha hready
  have hready' := ledgerReset_ready hready
  obtain ⟨-, -, hraised⟩ := hready'
  have hplace : placesUsed (ledgerReset s) < 768 := ledgerReset_placesUsed s ▸ ha.1.placesUsed_lt
  have hrec := recordWrite_eq (writeReq x Ob.ledgerLedgerReset .u8 [1])
    (oldBytes s (Ob.ledgerLedgerReset / 256) (Ob.ledgerLedgerReset % 256)) hraised hplace
  generalize hr : writeRec (ledgerReset s) _ _ _ _ _ _ _ _ = r at hrec
  have hafter : after s (stage (ledgerReset s) r) = stage (ledgerReset s) r :=
    after_ready (ready_withStore (ledgerReset_ready hready) _ _) (by rw [ledgerReset_frame]; rfl)
  refine ⟨stage (ledgerReset s) r, ?leaves, fun i hi => ?ledger, fun p hp i hi => ?path, fun b hb => ?bin, ?balanced, ?checkFail, ?nand,
    ?plant⟩
  case leaves =>
    exact (writeOf_applied (w := byteWrite x Ob.ledgerLedgerReset 1 (ledgerResetCodes s) ledgerReset) rfl ha).trans
      (congrArg _ ((congrArg (after s) hrec).trans hafter))
  case ledger => exact ledgerReset_ob s (ledger_mem_ledgerKeys hi)
  case path => exact ledgerReset_ob s (pathAcct_mem_ledgerKeys hp hi)
  case bin =>
    obtain ⟨hreceived, hunloaded⟩ := bin_mem_ledgerKeys hb
    exact ⟨ledgerReset_ob s hreceived, ledgerReset_ob s hunloaded⟩
  case balanced => exact ledgerReset_balanced s
  case checkFail => exact ledgerReset_checkFail s
  case nand => rw [ledgerReset_frame]; rfl
  case plant => rw [ledgerReset_frame]; rfl

/-! ### The checkpoint that becomes valid (R151, R152) -/

/-- NAND reads the areas that were enciphered under the key in force. -/
@[simp] theorem areas_keep (n : Nand) (a : Areas) : (n.keep a).areas = a := if_pos rfl

/-- The checkpoint that a run leaves in NAND, with its number and the digest of its body. -/
def ckptNext (s : State) (r : CkptRun) : Ckpt :=
  ⟨((ckptNewest s).map (·.seq + 1)).getD 1 % 2 ^ 32, r.kind, sha256 (ckptBytes r.body), r.body⟩

/-- A run that ends reports its number, the WC of its boundary and how long it took, and the newest 16 checkpoints stay in NAND. -/
theorem ckptFinish_eq {s : State} {r : CkptRun} (h : s.plant.ckptRun = some r) :
    ckptFinish s =
      (let all := s.nand.ckpts ++ [ckptNext s r]
       let t := { s with nand := s.nand.keep { s.nand.areas with ckpts := all.drop (all.length - 16) } }
       let t := ((t.put Ob.ckptSequence (ckptNext s r).seq).put Ob.ckptLastTime r.wc).putF Ob.ckptLastDuration
         (FX.div (FX.ofNat (s.osc - r.began)) (FX.ofNat 1000000))
       setPlant t (fun d => { d with ckptRun := none })) := by
  unfold ckptFinish
  rw [h]
  rfl

section
variable {s : State} {r : CkptRun} (h : s.plant.ckptRun = some r)
include h

theorem ckptFinish_sequence : (ckptFinish s).ob Ob.ckptSequence = (ckptNext s r).seq := by
  rw [ckptFinish_eq h]
  exact (ob_put_ne _ _ (by decide)).trans ((ob_put_ne _ _ (by decide)).trans (ob_put_self _ _ _))

theorem ckptFinish_lastTime : (ckptFinish s).ob Ob.ckptLastTime = r.wc := by
  rw [ckptFinish_eq h]
  exact (ob_put_ne _ _ (by decide)).trans (ob_put_self _ _ _)

theorem ckptFinish_ckptRun : (ckptFinish s).plant.ckptRun = none := by
  rw [ckptFinish_eq h]
  rfl

theorem ckptFinish_ckpts : (ckptFinish s).nand.ckpts =
    (s.nand.ckpts ++ [ckptNext s r]).drop ((s.nand.ckpts ++ [ckptNext s r]).length - 16) := by
  rw [ckptFinish_eq h]
  exact congrArg Areas.ckpts (areas_keep _ _)

/-- With fewer than 16 held none has to leave. -/
theorem ckptFinish_ckpts_of_room (hn : s.nand.ckpts.length < 16) : (ckptFinish s).nand.ckpts = s.nand.ckpts ++ [ckptNext s r] := by
  have hfits : (s.nand.ckpts ++ [ckptNext s r]).length - 16 = 0 := by
    rw [List.length_append, List.length_singleton]; omega
  rw [ckptFinish_ckpts h, hfits, List.drop_zero]
end

/-- Settles O25: what the run's end writes, object by object. -/
theorem validCheckpointIsReported : Obligations.ValidCheckpointIsReported :=
  fun _ _ h => ⟨ckptFinish_sequence h, ckptFinish_lastTime h, ckptFinish_ckptRun h, ckptFinish_ckpts_of_room h⟩

/-! ### Paths and bins (R130, R145–R147) -/

/-- LedgerReset is accepted in PREOP with nothing held. -/
theorem ledgerResetCodes_eq (s : State) :
    ledgerResetCodes s = (if s.inPreop = true ∧ noGrain s = true then [] else [0x00030002]) ++ stillCodes s := by
  simp only [ledgerResetCodes, Bool.and_eq_true]

/-- Enable set allocates the path's entries where it was clear. -/
theorem pathEnableEff_one (p : Nat) :
    pathEnableEff p 1 = fun s => if s.ob (Ob.pathEnable p) = 1 then s else syncStepClock (allocPath (s.put (Ob.pathEnable p) 1) p true) p := by
  funext s
  rw [pathEnableEff, if_pos rfl]

/-- Enable cleared returns them where it was set. -/
theorem pathEnableEff_zero (p : Nat) :
    pathEnableEff p 0 = fun s => if s.ob (Ob.pathEnable p) = 0 then s else syncStepClock ((releasePath s p).put (Ob.pathEnable p) 0) p := by
  funext s
  rw [pathEnableEff, if_neg Nat.zero_ne_one]

/-- AdjustCommand 3 has no abort of its own. -/
theorem adjustCodes_three (s : State) (b : Nat) : adjustCodes s b 3 = stillCodes s := List.append_nil _

/-- A command that is one object's write leaves it, where the write is served and meets no abort. -/
theorem writes_of_writeOf {c : Instr} {s : State} {x : Sender} {k : Nat} {ty : Ty} {data : List Byte} {codes : List Nat}
    {eff : State → State} (h : writeOf s c = some ⟨x, k, ty, data, codes, eff⟩) : Writes c s x k ty data codes eff := writeOf_applied h

theorem pathAndBinCommandsComplete : Parts.PathAndBinCommandsComplete := by
  refine ⟨fun x p s => ?enable, fun x p s => ?disable, fun x p s => ?purge, fun x b s => ?add, fun x b s => ?remove, fun x b s => ?empty,
    fun x s => ?reset⟩
  case enable => exact pathEnableEff_one p ▸ writes_of_writeOf rfl
  case disable => exact pathEnableEff_zero p ▸ writes_of_writeOf rfl
  case purge => exact writes_of_writeOf rfl
  case add => exact writes_of_writeOf rfl
  case remove => exact writes_of_writeOf rfl
  case empty => exact adjustCodes_three s b ▸ writes_of_writeOf rfl
  case reset => exact ledgerResetCodes_eq s ▸ writes_of_writeOf rfl

/-! ### Checkpoints (R149, R152, R153) -/

theorem running_of_phase {s : State} (hp : s.phase = .run) : running s = true := by simp [running, hp]

/-- A command that occurs while the module runs leaves its effect. -/
theorem leaves_of_running {c : Instr} {s t : State} {eff : State → State} (hc : exec c s = occurs s (running s) eff)
    (hp : s.phase = .run) (ht : eff s = t) : Leaves c s t := by
  subst ht
  exact hc.trans (occurs_true eff (running_of_phase hp))

section
variable {s : State} {r : CkptRun} (h : s.plant.ckptRun = some r)
include h

/-- Only behind the checkpoint of a power failure, and not of a Winter entry, do the journal and the counters follow at once. -/
theorem ckptValid_eq :
    ckptValid s = if r.kind = 2 ∧ s.winter.stage ≠ 2 then saveCounters (flushJournal (ckptFinish s)) else ckptFinish s := by
  simp only [ckptValid, h, Option.map_some, Option.some.injEq, powerFailWrite]

theorem ckptValid_powerFail (hk : r.kind = 2) (hw : s.winter.stage ≠ 2) :
    ckptValid s = saveCounters (flushJournal (ckptFinish s)) := (ckptValid_eq h).trans (if_pos ⟨hk, hw⟩)

theorem ckptValid_alone (hk : ¬(r.kind = 2 ∧ s.winter.stage ≠ 2)) : ckptValid s = ckptFinish s := (ckptValid_eq h).trans (if_neg hk)
end

theorem checkpointCommandsComplete : Parts.CheckpointCommandsComplete := by
  refine ⟨?page, ?periodic, ?valid, ?powerFail, ?winter⟩
  case page => exact fun s hp => leaves_of_running rfl hp rfl
  case periodic => exact fun s hd => occurs_true ckptPeriodic hd
  case valid => exact fun s r hp hr hk => leaves_of_running rfl hp (ckptValid_alone hr fun h => hk h.1)
  case powerFail => exact fun s r hp hr hk hw => leaves_of_running rfl hp (ckptValid_powerFail hr hk hw)
  case winter => exact fun s r hp hr _ hw => leaves_of_running rfl hp (ckptValid_alone hr fun h => h.2 hw)

/-! ### The steps of the drying model (R158, R178) -/

section
variable {s : State} {p : Nat} (hp : s.phase = .run) (hon : (pathSt s p).clockOn = true) (hheld : modelHeld s = false)
include hp hon hheld

section
variable (hm : s.ob (Ob.pmodelStepMode p) = 0) (hd : (pathSt s p).nextStep ≤ s.ticks)
include hm hd

/-- A timed step that is due moves the next one by an interval, whether it is made or the last still runs. -/
theorem stepTimed_eq {t : State} (ht : setPath s p (fun x => { x with nextStep := x.nextStep + stepTicks s p }) = t) :
    stepTimed s p =
      if (pathSt s p).run.isSome = true then (t.putBit (Ob.pmodelModelStatus p) 1 true).inc Ob.modelStepsSkipped else modelStep t p := by
  subst ht
  have hgo (g : PathSt → PathSt) : ¬ modelHeld (setPath s p g) = true := Bool.eq_false_iff.mp hheld
  exact (if_pos ⟨hp, hon, hm, hd⟩).trans (if_neg (hgo _))

/-- It is made where no step runs. -/
theorem stepTimed_steps (hr : (pathSt s p).run = none) :
    stepTimed s p = modelStep (setPath s p (fun x => { x with nextStep := x.nextStep + stepTicks s p })) p := by
  rw [stepTimed_eq hp hon hheld hm hd rfl, hr]
  exact if_neg Bool.false_ne_true

/-- It counts as skipped where one does. -/
theorem stepTimed_skips (hr : (pathSt s p).run.isSome = true) :
    stepTimed s p =
      ((setPath s p (fun x => { x with nextStep := x.nextStep + stepTicks s p })).putBit (Ob.pmodelModelStatus p) 1 true).inc
        Ob.modelStepsSkipped := (stepTimed_eq hp hon hheld hm hd rfl).trans (if_pos hr)
end

/-- After 10 s without a step displacement mode makes one. -/
theorem stepFallback_eq (hm : s.ob (Ob.pmodelStepMode p) = 1) (hs : (pathSt s p).since + 10000000 ≤ s.osc)
    (hr : (pathSt s p).run = none) : stepFallback s p = modelStep s p :=
  if_pos ⟨hp, hon, hm, hs, by rw [hheld]; rfl, by rw [hr]; rfl⟩
end

theorem modelCommandsComplete : Parts.ModelCommandsComplete := by
  refine ⟨fun p s hp hon hm hd hheld => ⟨fun hr => ?timed, fun hr => ?skipped⟩, ?fallback, ?publish⟩
  case timed => exact leaves_of_finish rfl (stepTimed_steps hp hon hheld hm hd hr)
  case skipped => exact leaves_of_finish rfl (stepTimed_skips hp hon hheld hm hd hr)
  case fallback => exact fun p s hp hon hm hs hheld hr => leaves_of_finish rfl (stepFallback_eq hp hon hheld hm hs hr)
  case publish => exact fun p s r hp _ => occurs_true (fun s => modelPublish s p) (running_of_phase hp)

/-- Settles O26: the writes of paths, bins and ledger, the checkpoints, and the steps of the model, each with its guard as hypotheses. -/
theorem plantCommandsComplete : Obligations.PlantCommandsComplete :=
  ⟨pathAndBinCommandsComplete, checkpointCommandsComplete, modelCommandsComplete⟩

end Sys2Proof.Machine
end

section
/-! PROOF. Thermal management (R407–R416): what a round, a fast sample, the timers of a round, the comparator's trip and its clearing leave
(O44). -/
namespace Sys2Proof.Machine

/-! ### The round and its timers (R407, R408, R413, R414) -/

theorem dueAtWc_iff {s : State} {t : Timer} {period : Nat} : s.dueAtWc t period = true ↔ s.lastRun t ≠ s.wc / period :=
  bne_iff_ne

theorem holdDue_iff {s : State} :
    holdDue s = true ↔ s.therm.roundAt = some s.osc ∧ thermBit s 5 = true ∧ s.therm.holdAt + 60000000 ≤ s.osc := by
  simp only [holdDue, inRound, Bool.and_eq_true, beq_iff_eq, decide_eq_true_eq, and_assoc]

/-- A command whose event occurs under the policy leaves its effect where both hold. -/
theorem leaves_of_policy {c : Instr} {s t : State} {due : Bool} {eff : State → State} (hc : exec c s = occurs s (policyRuns s && due) eff)
    (hp : policyRuns s = true) (hd : due = true) (ht : eff s = t) : Leaves c s t := by
  subst ht
  exact hc.trans (occurs_true eff (by rw [hp, hd]; rfl))

/-- With the base plate within its rating a round occurs as other events do (R519). -/
theorem exec_housekeepingRound {s : State} {base : Word} (reads : List TsRead) (hb : baseBeyond base.toNat = false) :
    exec (.housekeepingRound reads base) s =
      occurs s (policyRuns s && s.dueAtWc .thermalRound 250000)
        (fun s => housekeeping (s.ranAtWc .thermalRound 250000) reads base.toNat) :=
  if_neg (by rw [hb, Bool.and_false]; exact Bool.false_ne_true)

/-- A LevelInterval raises the level from ThermalState 2 on, and lowers it below. -/
theorem levelMoves_up {s : State} (h : 2 ≤ s.ob Ob.thermThermalState) : levelMoves s = levelUp s := if_pos h

theorem levelMoves_down {s : State} (h : s.ob Ob.thermThermalState < 2) :
    levelMoves s =
      (let t := throttleTo s (s.ob Ob.thermThrottleLevel - 1)
       if t.ob Ob.thermThrottleLevel = 0 then withdraw t else t) := if_neg (Nat.not_le.mpr h)

/-! ### The comparator's trip and its clearing (R416) -/

/-- In the running module the trip ends a commit, and checkpoint, journal and counters are in NAND as the module halts. -/
theorem thermalShutdown_run {s : State} (hp : s.phase = .run) (ht : comparatorTrips s = true) :
    thermalShutdown s =
      (let t := saveCounters (flushJournal (ckptFinish (ckptStart (warnCommit s) 2)))
       { t with phase := .halt, supply := { t.supply with latch := true } }) := by
  have htrips : ¬ (!(powered s && comparatorTrips s)) = true := by simp [powered, hp, ht]
  rw [thermalShutdown, if_neg htrips, hp]
  rfl

/-- The clearing of HALT leaves the module without power, with no line to go off. -/
theorem haltClear_halt {s : State} (hp : s.phase = .halt) :
    haltClear s = { s with phase := .off, linesHeld := false, supply := { s.supply with latch := false, upCause := 0 } } := by
  rw [haltClear, if_pos hp, powerOff, hp]
  rfl

/-- Settles O44: each command is its effect followed by the shared end of commands, and its guard is the statement's hypotheses. -/
theorem thermalCommandsComplete : Obligations.ThermalCommandsComplete := by
  refine ⟨?round, ?fast, ?grace, ?up, ?down, ?hold, ?trip, ?clear⟩
  case round => exact fun reads base s hp hb hd => leaves_of_policy (exec_housekeepingRound reads hb) hp (dueAtWc_iff.mpr hd) rfl
  case fast =>
    intro reads s hp hf hd
    exact leaves_of_finish rfl (if_pos (by rw [hp, hf, dueAtWc_iff.mpr hd]; rfl))
  case grace => exact fun s hp hg => leaves_of_policy rfl hp hg rfl
  case up => exact fun s hp hl hst => leaves_of_policy rfl hp hl (levelMoves_up hst)
  case down => exact fun s hp hl hst => leaves_of_policy rfl hp hl (levelMoves_down hst)
  case hold => exact fun s hp hr hb ht => leaves_of_policy rfl hp (holdDue_iff.mpr ⟨hr, hb, ht⟩) rfl
  case trip => exact fun s hp ht => leaves_of_finish rfl (thermalShutdown_run hp ht)
  case clear => exact fun s hp => leaves_of_finish rfl (haltClear_halt hp)

end Sys2Proof.Machine
end

section
/-! PROOF. The dielectric front end (R187–R197, R480): what a cycle, a slot, a reading and the calibration of a cell leave, each where it
occurs, and O27 from it. -/
namespace Sys2Proof.Machine

/-! ### The measurement (R187, R197) -/

/-- A cycle starts at its WC multiple on a module with ports fitted, once the one in progress, if any, is complete. -/
theorem dielectricCycle_starts {s : State} (hp : s.phase = .run) (hf : 0 < s.ob Ob.identFittedCellPorts)
    (hw : s.wc % cyclePeriod s = 0) (hd : s.diel.cycleOn = true → s.diel.cycleLen ≤ cycleTime s) : dielectricCycle s = cycleStart s := by
  have hover : (!s.diel.cycleOn || decide (s.diel.cycleLen ≤ cycleTime s)) = true := by
    cases hon : s.diel.cycleOn with
    | false => rfl
    | true => exact decide_eq_true (hd hon)
  exact if_pos ⟨hp, hf, hw, hover⟩

/-- The slot of a fitted and enabled cell starts once in the cycle, in its own 50 ms of it. -/
theorem dielectricSlot_starts {s : State} {c : Fin 4} (hp : s.phase = .run) (hon : s.diel.cycleOn = true)
    (hf : cellFitted s c.val = true) (he : s.flag (Ob.cellEnable c.val) = true) (hv : s.diel.served.contains c.val = false)
    (hb : c.val * 50000 ≤ cycleTime s) (ht : cycleTime s < c.val * 50000 + 50000) :
    dielectricSlot s c =
      (let t := { s with diel := { s.diel with served := s.diel.served ++ [c.val] } }
       updCell t c (fun x => { x with
         slot := some ⟨s.diel.cycleAt + c.val * 50000, s.ob Ob.feFrequencyCount, if x.sweeps < 16 then x.capture else 3, false, none⟩ })) :=
  if_pos ⟨hp, hon, hf, he, by rw [hv]; rfl, hb, ht⟩

/-- A reading as its slot's faults are noted (R197, R480): whether the synthesiser stayed in lock, a front-end fault counted, and a fault of
the DSP engine counted and not yet masked for the rest of the slot. -/
def readingNoted (s : State) (r : SlotRun) (x : SlotFaults) (engine : Bool) : State :=
  let t := s.putBit Ob.feStatus 0 (!x.unlocked)
  let t := if x.unlocked = true ∨ x.overload = true then t.inc Ob.feFrontEndFaults else t
  if engine = true then maskedFault (t.inc Ob.faultDspFaults) 0 (slotLeft t r) else t

section
variable {s : State} {c : Fin 4} {r : SlotRun} (hs : s.diel.cells[c].slot = some r) (hp : s.phase = .run)
  (hd : (r.wc : Int) + r.n * 2500 ≤ s.wc - s.diel.stepped) (sweep : List SweepPoint) (x : SlotFaults) (engine : Bool)
include hs hp hd

/-- Once its sweep has ended a reading notes the faults of its slot, and the slot's kind decides where the corrected sweep goes. -/
theorem dielectricReading_eq :
    dielectricReading s c sweep x engine =
      if r.kind = 0 then publishReading (readingNoted s r x engine) c r (corrected s r.n sweep) (x.unlocked || x.overload) engine
      else captureSweep (readingNoted s r x engine) c r (corrected s r.n sweep) (x.unlocked || x.overload) engine := by
  simp only [dielectricReading, hs, readingNoted, Bool.or_eq_true]
  exact if_pos ⟨hp, hd⟩

/-- The sweep of an ordinary slot is published. -/
theorem dielectricReading_publishes (hk : r.kind = 0) :
    dielectricReading s c sweep x engine =
      publishReading (readingNoted s r x engine) c r (corrected s r.n sweep) (x.unlocked || x.overload) engine :=
  (dielectricReading_eq hs hp hd sweep x engine).trans (if_pos hk)

/-- The sweep of a capture's slot is taken into it. -/
theorem dielectricReading_captures (hk : r.kind ≠ 0) :
    dielectricReading s c sweep x engine =
      captureSweep (readingNoted s r x engine) c r (corrected s r.n sweep) (x.unlocked || x.overload) engine :=
  (dielectricReading_eq hs hp hd sweep x engine).trans (if_neg hk)
end

theorem dielectricCommandsComplete : Parts.DielectricCommandsComplete := by
  refine ⟨?cycle, ?slot, fun c sweep x engine s r hp hs hd => ⟨fun hk => ?published, fun hk => ?captured⟩⟩
  case cycle => exact fun s hp hf hw hd => leaves_of_finish rfl (dielectricCycle_starts hp hf hw hd)
  case slot => exact fun c s hp hon hf he hv hb ht => leaves_of_finish rfl (dielectricSlot_starts hp hon hf he hv hb ht)
  case published => exact leaves_of_finish rfl (dielectricReading_publishes hs hp hd sweep x engine hk)
  case captured => exact leaves_of_finish rfl (dielectricReading_captures hs hp hd sweep x engine hk)

/-! ### Calibration (R192–R194) -/

/-- A capture whose 16 sweeps are in becomes its result. -/
theorem calCaptureDone_leaves {s : State} {c : Fin 4} (hp : s.phase = .run) (hc : s.diel.cells[c].capture ≠ 0)
    (hn : 16 ≤ s.diel.cells[c].sweeps) : Leaves (.calCaptureDone c) s (captureDone s c) :=
  occurs_true (fun s => captureDone s c) (by rw [running_of_phase hp, bne_iff_ne.mpr hc, decide_eq_true hn]; rfl)

/-- Acceptance of a record with its length replaces CalData by its bytes, and the record is no longer pending. -/
theorem calAccept_replaces {s : State} {c : Fin 4} {p : List Nat × Nat} {l : Nat} (hp : s.diel.cells[c].pend = some p)
    (hl : s.diel.cells[c].leff = some l) :
    Machine.calAccept c s =
      (updCell (s.putBytes (Ob.calDataCalData c) (calBytes p.1 l p.2)) c (fun y => { y with pend := none, leff := none })).put
        (Ob.cellCalStatus c) 3 := by
  simp only [Machine.calAccept, hp, hl]

theorem calibrationCommandsComplete : Parts.CalibrationCommandsComplete := by
  refine ⟨?empty, ?reference, ?done, ?accept, ?discard, ?written⟩
  case empty => exact fun x c s => writes_of_writeOf rfl
  case reference => exact fun x c s => writes_of_writeOf rfl
  case done => exact fun c s => calCaptureDone_leaves
  case accept => exact fun x c s p l hp hl ha => calAccept_replaces hp hl ▸ writes_of_writeOf rfl ha
  case discard => exact fun x c s => writes_of_writeOf rfl
  case written => exact fun x c d s => writes_of_writeOf rfl

/-- Settles O27: the measurement's commands leave their effects where they occur, and a calibration's are the writes of one object. -/
theorem moistureCommandsComplete : Obligations.MoistureCommandsComplete :=
  ⟨dielectricCommandsComplete, calibrationCommandsComplete⟩

end Sys2Proof.Machine
end

section
/-! PROOF. Loops, tests, traces and engines (R209–R269, R481): what a pull, a commit, the apply commands, the commands of tests and traces, the
load of a second and a failed engine leave, each where it occurs, and O28 from it. -/
namespace Sys2Proof.Machine

/-! ### Samples (R213, R214, R481) -/

/-- In OPERATE an engine in service with a free slot takes the next queued sample, and the channels it reads from the cache are touched. -/
theorem samplePull_pulls {s t : State} {e : Fin 18} {off : Fin 10} {q : Queued} {l : LoopSt} (ht : reach s off = t)
    (ho : t.inOperate = true) (he : engineServes t e = true) (hn : (t.service.filter (fun v => v.engine == e.val)).length < 12)
    (hq : nextSample t = some q) (hl : loopOf t q.loop = some l) :
    samplePull s e off =
      (let u := { t.tickFree with
         queue := t.queue.filter (fun x => x.loop != q.loop), service := t.service ++ [pulledSample t l e q] }
       ((loopReads t q.loop).filter (fun c => t.cache.contains c)).foldl touchChan u) := by
  subst ht
  have hgo : ((reach s off).inOperate && engineServes (reach s off) e &&
      decide (((reach s off).service.filter (fun v => v.engine == e.val)).length < 12)) = true := by
    rw [ho, he, decide_eq_true hn]; rfl
  rw [samplePull, if_pos hgo]
  simp only [hq, hl]

section
variable {s t : State} {n : Fin 512} {off : Fin 10} {v : InService} {l : LoopSt} {sv ms : Nat} (ht : reach s off = t)
  (ho : t.inOperate = true) (hv : inService t n.val = some v) (hm : v.missing = []) (hl : loopOf t n.val = some l)
include ht ho hv hm hl

/-- With its channels in, a sample in service is committed unless its service took more than 20 µs beside the wait for them. -/
theorem sampleCommit_eq :
    sampleCommit s n sv ms off =
      if 20000 < sv - ms then engineFails t (Fin.ofNat 18 v.engine) else commitSample t v l sv ms := by
  subst ht
  have hgo : ¬ (!(reach s off).inOperate || !v.missing.isEmpty) = true := by rw [ho, hm]; exact Bool.false_ne_true
  simp only [sampleCommit, hv, hl, if_neg hgo]

theorem sampleCommit_commits (h : sv - ms ≤ 20000) : sampleCommit s n sv ms off = commitSample t v l sv ms :=
  (sampleCommit_eq ht ho hv hm hl).trans (if_neg (Nat.not_lt.mpr h))

theorem sampleCommit_fails (h : 20000 < sv - ms) : sampleCommit s n sv ms off = engineFails t (Fin.ofNat 18 v.engine) :=
  (sampleCommit_eq ht ho hv hm hl).trans (if_pos h)
end

theorem sampleCommandsComplete : Parts.SampleCommandsComplete := by
  refine ⟨?pull, fun n sv ms off s v l ho hv hm hl => ⟨fun h => ?commit, fun h => ?late⟩⟩
  case pull => exact fun e off s q l ho he hn hq hl => leaves_of_finish rfl (samplePull_pulls rfl ho he hn hq hl)
  case commit => exact leaves_of_finish rfl (sampleCommit_commits rfl ho hv hm hl h)
  case late => exact leaves_of_finish rfl (sampleCommit_fails rfl ho hv hm hl h)

/-! ### Loops (R209, R223, R243) -/

section
variable {s : State} {n : Nat} {l : LoopSt} (hl : loopOf s n = some l)
include hl

/-- CoeffApply marks the shadow set of a loop that holds a context. -/
theorem coeffApplyEff_some :
    coeffApplyEff n s = setLoop s { l with coeffPend := true, coeffAgain := s.service.any (fun v => v.loop == n) } := by
  simp only [coeffApplyEff, hl]

/-- RegionApply adds its regions to those that the loop is to load. -/
theorem regionApplyEff_some (v : Nat) :
    regionApplyEff n v s =
      (let m := if v = 0xFF then 0xFE else 2 ^ v
       setLoop s { l with
         pendMask := l.pendMask ||| m, maskAgain := if s.service.any (fun y => y.loop == n) then l.maskAgain ||| m else 0 }) := by
  simp only [regionApplyEff, hl]
end

/-- A byte is written as it stands. -/
theorem byteWrite_toNat (x : Sender) (k : Nat) (v : Byte) (codes : List Nat) (eff : State → State) :
    byteWrite x k v.toNat codes eff = ⟨x, k, .u8, [v], codes, eff⟩ := by
  simp [byteWrite, bytesLE]

/-- A command that is one object's write, where the write is applied and `t` is what its effect makes of the state. -/
theorem leaves_of_writeOf {c : Instr} {s t : State} {x : Sender} {k : Nat} {ty : Ty} {data : List Byte} {codes : List Nat}
    {eff : State → State} (h : writeOf s c = some ⟨x, k, ty, data, codes, eff⟩) (ha : Applies s x k ty data codes eff) (ht : eff s = t) :
    Leaves c s (recorded s x k ty data t) := by
  subst ht
  exact writes_of_writeOf h ha

theorem loopWritesComplete : Parts.LoopCommandsComplete := by
  refine ⟨?activate, ?deactivate, ?coeff, ?region⟩
  case activate => exact fun x n s => writes_of_writeOf rfl
  case deactivate => exact fun x n s => writes_of_writeOf rfl
  case coeff => exact fun x n s l hl ha => leaves_of_writeOf rfl ha (coeffApplyEff_some hl)
  case region => exact fun x n v s l hl ha => leaves_of_writeOf (congrArg some (byteWrite_toNat ..)) ha (regionApplyEff_some hl v.toNat)

/-! ### Tests and traces (R260, R265, R266) -/

/-- A release has no abort of its own but that of a test that runs. -/
theorem injCodes_three (s : State) (d : Fin 32) : injCodes s d 3 = if injBusy s d = true then [0x00030002] else [] := by
  simp [injCodes]

theorem testAndTraceCommandsComplete : Parts.TestAndTraceCommandsComplete := by
  refine ⟨?start, ?ended, fun x d s => ?release, ?enable, ?rearm, ?trigger⟩
  case start => exact fun x d s => writes_of_writeOf rfl
  case ended => exact fun x d s => writes_of_writeOf rfl
  case release => exact injCodes_three s d ▸ writes_of_writeOf rfl
  case enable => exact fun x t s => writes_of_writeOf rfl
  case rearm => exact fun x t s => writes_of_writeOf rfl
  case trigger => exact fun x t s => writes_of_writeOf rfl

theorem traceCommandsActIn : Parts.TraceCommandsActIn := by
  refine fun s t => ⟨?rearm, ?trigger⟩
  case rearm => simp [traceActs]
  case trigger => simp [traceActs]

/-! ### Engines (R269, R481) -/

/-- A check of the load that is due in the running module leaves its effect. -/
theorem loopLoadCheck_leaves {s t : State} (hp : s.phase = .run) (hd : s.due .loopLoad 1000000 = true) (ht : loadCheck s = t) :
    Leaves .loopLoadCheck s t := by
  subst ht
  exact occurs_true loadCheck (by rw [running_of_phase hp, hd]; rfl)

theorem engineCommandsComplete : Parts.EngineCommandsComplete := by
  refine ⟨fun s hp hd hx => ?light, fun s hp hd hx => ?heavy, ?failed⟩
  case light => exact loopLoadCheck_leaves hp hd (if_neg (Bool.eq_false_iff.mp hx))
  case heavy => exact loopLoadCheck_leaves hp hd (if_pos hx)
  case failed => exact fun e s hup _ => occurs_true (fun s => engineFails s e) hup

/-- Settles O28: samples, loads and failed engines leave their effects where they occur, and the other commands are the writes of one object. -/
theorem loopCommandsComplete : Obligations.LoopCommandsComplete :=
  ⟨sampleCommandsComplete, loopWritesComplete, testAndTraceCommandsComplete, traceCommandsActIn, engineCommandsComplete⟩

end Sys2Proof.Machine
end

section
/-! PROOF. Sequencing (R271–R295): the states that accept a chain's commands (O30), what a round and an evaluation of aeration leave, each where
it occurs, and the commands of chains, dryers and aerated bins, each held for the next round (O29). -/
namespace Sys2Proof.Machine

/-! ### The states that accept a chain's commands (R281) -/

section
variable {s : State} {k : Nat}

/-- A start is accepted of a stopped chain with no plug detected. -/
theorem chainCodes_start : chainCodes s k 1 = [] ↔
    s.inOperate = true ∧ s.ob (Ob.chainState k) = 0 ∧
      (chainMembers s k).any (fun c => inActive s (Ob.convPlugChannel c)) = false := by
  simp only [chainCodes, abortUnless_nil, Bool.and_eq_true, beq_iff_eq, Bool.not_eq_true']

/-- A stop is accepted of a chain that starts or runs. -/
theorem chainCodes_stop : chainCodes s k 2 = [] ↔
    s.inOperate = true ∧ (s.ob (Ob.chainState k) = 1 ∨ s.ob (Ob.chainState k) = 2) := by
  simp only [chainCodes, abortUnless_nil, Bool.and_eq_true, Bool.or_eq_true, beq_iff_eq]

/-- A reset is accepted of a chain in fault, once every member is off and no plug is detected. -/
theorem chainCodes_reset : chainCodes s k 3 = [] ↔
    s.inOperate = true ∧ s.ob (Ob.chainState k) = 4 ∧ (chainMembers s k).all (fun c => !(convSt s c).on) = true ∧
      (chainMembers s k).any (fun c => inActive s (Ob.convPlugChannel c)) = false := by
  simp only [chainCodes, abortUnless_nil, Bool.and_eq_true, beq_iff_eq, Bool.not_eq_true', and_assoc]

/-- A chain's command meets at most the abort of its state. -/
theorem chainCodes_cases (v : Nat) : chainCodes s k v = [] ∨ chainCodes s k v = [0x00030002] :=
  Decidable.byCases (fun h => .inl (if_pos h)) (fun h => .inr (if_neg h))
end

/-- Settles O30: each command's acceptance is its row of R281, and no command has another abort of its own. -/
theorem chainCommandsAcceptedIn : Obligations.ChainCommandsAcceptedIn :=
  fun _ _ => ⟨chainCodes_start, chainCodes_stop, chainCodes_reset, chainCodes_cases⟩

/-! ### Rounds and evaluations (R271, R292) -/

section
variable {s : State} (ho : s.inOperate = true) (hup : s.appDown = false)
include ho hup

/-- Rounds run in OPERATE while the application cores are up (R275). -/
theorem roundsRun_of_operate : roundsRun s = true := by
  rw [roundsRun, ho, hup]
  rfl

section
variable (hw : s.wc % 10000 = 0) (took : Nat)
include hw

/-- A round that falls due starts unless the last one still runs. -/
theorem roundDue_eq : roundDue s took = if s.osc < s.seq.busyTo then s.inc Ob.seqRoundOverruns else sequencingRound s took :=
  if_pos ⟨roundsRun_of_operate ho hup, hw⟩

theorem roundDue_runs (hb : s.seq.busyTo ≤ s.osc) : roundDue s took = sequencingRound s took :=
  (roundDue_eq ho hup hw took).trans (if_neg (Nat.not_lt.mpr hb))

theorem roundDue_overruns (hb : s.osc < s.seq.busyTo) : roundDue s took = s.inc Ob.seqRoundOverruns :=
  (roundDue_eq ho hup hw took).trans (if_pos hb)
end

/-- The round of a WC multiple of 10 s, if it ran and was not the first, evaluates every bin. -/
theorem aerationDue_evaluates (hw : s.wc % 10000000 = 0) (hf : s.seq.first = false) (hl : s.seq.lastWc = s.wc) :
    aerationDue s = (List.range 64).foldl aerEvaluate s :=
  if_pos ⟨roundsRun_of_operate ho hup, hw, by rw [hf]; rfl, hl⟩
end

theorem roundCommandsComplete : Parts.RoundCommandsComplete := by
  refine ⟨?round, ?overrun, ?evaluate⟩
  case round => exact fun took s ho hup hw hb => leaves_of_finish rfl (roundDue_runs ho hup hw took hb)
  case overrun => exact fun took s ho hup hw hb => leaves_of_finish rfl (roundDue_overruns ho hup hw took hb)
  case evaluate => exact fun s ho hup hw hf hl => leaves_of_finish rfl (aerationDue_evaluates ho hup hw hf hl)

/-! ### The commands held for the next round (R281, R285, R294, R295) -/

theorem sequencerCommandsComplete : Parts.SequencerCommandsComplete := by
  refine ⟨?chainStart, ?chainStop, ?chainReset, ?dryerStart, ?dryerStop, ?dryerEmpty, ?dryerReset, ?mode, ?aerationReset⟩
  case chainStart => exact fun x k s => writes_of_writeOf rfl
  case chainStop => exact fun x k s => writes_of_writeOf rfl
  case chainReset => exact fun x k s => writes_of_writeOf rfl
  case dryerStart => exact fun x d s => writes_of_writeOf rfl
  case dryerStop => exact fun x d s => writes_of_writeOf rfl
  case dryerEmpty => exact fun x d s => writes_of_writeOf rfl
  case dryerReset => exact fun x d s => writes_of_writeOf rfl
  case mode => exact fun x b m s => writes_of_writeOf (congrArg some (byteWrite_toNat ..))
  case aerationReset => exact fun x b s => writes_of_writeOf rfl

/-- Settles O29: a round and an evaluation leave their effects where they occur, and the other commands are the writes of one object. -/
theorem sequencingCommandsComplete : Obligations.SequencingCommandsComplete :=
  ⟨roundCommandsComplete, sequencerCommandsComplete⟩

end Sys2Proof.Machine
end

section
/-! PROOF. The message bus controllers (R298–R327): what a stopped controller keeps when it is disabled (O31), the request for recovery (O33),
and what start and stop, the frames on the bus, the raw path and recovery leave, each where it occurs (O32). -/
namespace Sys2Proof.Machine

/-! ### One controller and one status bit written -/

section
variable (s : State) (n : Fin 4)

theorem setBus_bus_self (b : BusSt) : (setBus s n b).bus[n] = b := Vector.getElem_set_self n.isLt

theorem setBus_bus_ne (b : BusSt) {m : Fin 4} (h : m ≠ n) : (setBus s n b).bus[m] = s.bus[m] :=
  Vector.getElem_set_ne n.isLt m.isLt (fun hv => h (Fin.ext hv.symm))

@[simp] theorem setBusBit_bus (b : Nat) (v : Bool) : (setBusBit s n b v).bus = s.bus := rfl

@[simp] theorem busBit_setBusBit_self (b : Nat) (v : Bool) : busBit (setBusBit s n b v) n b = v := by
  rw [busBit, State.stBit, setBusBit, putBit_eq, ob_put_self, bit_setBit_self]

theorem setBusBit_ob (b : Nat) (v : Bool) {k : Nat} (h : k ≠ Ob.busStatus n) : (setBusBit s n b v).ob k = s.ob k :=
  ob_put_ne s _ h
end

/-! ### A stopped controller is disabled (R300) -/

theorem busEnable_ne_busStatus (n : Nat) : Ob.busEnable n ≠ Ob.busStatus n := by
  simp only [Ob.busEnable, Ob.busStatus, key]; omega

/-- Disabling a stopped controller empties its queue, and cancels and stops nothing. -/
theorem busDisableEff_stopped {n : Fin 4} {s : State} (h : s.bus[n].started = false) :
    busDisableEff n s =
      setBusBit (setBusBit (setBus (s.put (Ob.busEnable n) 0) n { s.bus[n] with rxq := [] }) n 2 false) n 16 false := by
  simp only [busDisableEff, putFlag_eq, put_bus, h, Bool.false_eq_true, if_false, setBusBit_bus, setBus_bus_self, Bool.not_false, if_true]
  rfl

/-- Settles O31: of the controllers only the one disabled is written, and Enable is none of the objects that its status bits are in. -/
theorem disabledControllerQueueIsEmpty : Obligations.DisabledControllerQueueIsEmpty := by
  intro n s h
  have hob (t : State) (b : Nat) := setBusBit_ob t n b false (busEnable_ne_busStatus n)
  rw [busDisableEff_stopped h]
  refine ⟨?enable, ?queue, ?started, fun m hm => ?others⟩
  case enable => rw [hob, hob, setBus_ob, ob_put_self]
  case queue => simp only [setBusBit_bus, setBus_bus_self]
  case started => simp only [setBusBit_bus, setBus_bus_self, h]
  case others => exact setBus_bus_ne _ n _ hm

/-! ### A request for recovery (R323) -/

theorem busRecoveryProgress_ne_busStatus (n : Nat) : Ob.busRecoveryProgress n ≠ Ob.busStatus n := by
  simp only [Ob.busRecoveryProgress, Ob.busStatus, key]; omega

section
variable {s : State} {n : Fin 4}

theorem recoveryRequest_repeated (h : s.bus[n].recovReq = true) : recoveryRequest s n = s := if_pos h

theorem recoveryRequest_first (h : s.bus[n].recovReq = false) :
    recoveryRequest s n =
      setBusBit (setBus (s.put (Ob.busRecoveryProgress n) 0) n { s.bus[n] with recovReq := true, recovAt := s.osc }) n 12 true :=
  if_neg (Bool.eq_false_iff.mp h)

/-- After a request one is made, whichever it was. -/
theorem recoveryRequest_recovReq (s : State) (n : Fin 4) : (recoveryRequest s n).bus[n].recovReq = true := by
  cases h : s.bus[n].recovReq with
  | true => rwa [recoveryRequest_repeated h]
  | false => rw [recoveryRequest_first h, setBusBit_bus, setBus_bus_self]
end

/-- Settles O33: a request finds the one before it made. -/
theorem repeatedRecoveryRequestDoesNothing : Obligations.RepeatedRecoveryRequestDoesNothing := by
  refine fun n s => ⟨recoveryRequest_repeated, fun h => ⟨?progress, ?recovering, ?again⟩⟩
  case progress =>
    rw [recoveryRequest_first h, setBusBit_ob _ _ _ _ (busRecoveryProgress_ne_busStatus n), setBus_ob, ob_put_self]
  case recovering => rw [recoveryRequest_first h, busBit_setBusBit_self]
  case again => exact recoveryRequest_repeated (recoveryRequest_recovReq s n)

/-! ### Start and stop (R298–R300, R303, R310) -/

/-- Enable is none of the objects that R303 constrains. -/
theorem timingFault_putEnable (s : State) (n v : Nat) : timingFault (s.put (Ob.busEnable n) v) n = timingFault s n := by
  have hfd : (s.put (Ob.busEnable n) v).ob (Ob.busFdEnable n) = s.ob (Ob.busFdEnable n) :=
    ob_put_ne s v (by simp only [Ob.busFdEnable, Ob.busEnable, key]; omega)
  have htiming (i : Nat) : (s.put (Ob.busEnable n) v).ob (key (0x7010 + n) i) = s.ob (key (0x7010 + n) i) :=
    ob_put_ne s v (by simp only [Ob.busEnable, key]; omega)
  simp only [timingFault, timingFaults, State.flag, hfd, htiming]
  rfl

/-- A bit timing that fails is the one abort of Enable 1. -/
theorem busEnableCodes_eq (s : State) (n : Nat) :
    busEnableCodes s n = if (timingFault s n).isSome = true then [0x00050006] else [] := by
  unfold busEnableCodes
  cases timingFault s n <;> rfl

/-- With a bit timing that passes, Enable 1 starts a controller that is not started. -/
theorem busEnableEff_sound {s : State} {n : Fin 4} (h : timingFault s n = none) :
    busEnableEff n s = (let t := s.put (Ob.busEnable n) 1; if t.bus[n].started = true then t else startBus t n) := by
  have hflag : s.putFlag (Ob.busEnable n) true = s.put (Ob.busEnable n) 1 := rfl
  have hstart : tryStartBus (s.put (Ob.busEnable n) 1) n = startBus (s.put (Ob.busEnable n) 1) n := by
    rw [tryStartBus, timingFault_putEnable, h]
  simp only [busEnableEff, hflag, hstart]

/-- Whether a write is applied depends on its effect only through the state the effect makes of the present one. -/
theorem Applies.congr {s : State} {x : Sender} {k : Nat} {ty : Ty} {data : List Byte} {codes : List Nat} {eff eff' : State → State}
    (h : Applies s x k ty data codes eff) (he : eff s = eff' s) : Applies s x k ty data codes eff' :=
  ⟨h.1, by rw [← h.2, writeCodes, writeCodes, he]⟩

/-- A write that is applied met none of its object's aborts. -/
theorem Applies.codes_nil {s : State} {x : Sender} {k : Nat} {ty : Ty} {data : List Byte} {codes : List Nat} {eff : State → State}
    (h : Applies s x k ty data codes eff) : codes = [] :=
  (List.append_eq_nil_iff.mp (List.append_eq_nil_iff.mp h.2).1).2

/-- A write of Enable 1 that is applied found the bit timing sound, and so starts the controller. -/
theorem busEnable_writes (x : Sender) (n : Fin 4) (s : State) :
    Writes (.busEnable x n) s x (Ob.busEnable n) .bool [1] (if (timingFault s n).isSome = true then [0x00050006] else [])
      (fun s => let t := s.put (Ob.busEnable n) 1; if t.bus[n].started = true then t else startBus t n) := by
  intro ha
  have hsound : timingFault s n = none :=
    Option.not_isSome_iff_eq_none.mp fun hf => List.cons_ne_nil _ _ ((if_pos hf).symm.trans ha.codes_nil)
  rw [← busEnableCodes_eq] at ha
  have heff := busEnableEff_sound hsound
  exact leaves_of_writeOf rfl (ha.congr heff.symm) heff

theorem integrates_of_integrating {s : State} {n : Fin 4} (hp : s.phase = .run) (hs : s.bus[n].started = true)
    (hi : busBit s n 8 = true) (ho : busBit s n 11 = false) : integrates s n = true := by
  rw [integrates, running_of_phase hp, hs, hi, ho]; rfl

theorem busControlCommandsComplete : Parts.BusControlCommandsComplete := by
  refine ⟨busEnable_writes, ?disable, ?integrated, ?mode, ?choice⟩
  case disable => exact fun x n s => writes_of_writeOf rfl
  case integrated => exact fun n s hp hs hi ho => leaves_of_finish rfl (if_pos (integrates_of_integrating hp hs hi ho))
  case mode => exact fun n s hp hs hc => leaves_of_finish rfl (if_pos (by rw [running_of_phase hp, hs, hc]; rfl))
  case choice => exact fun n off sof s hp hs => leaves_of_finish rfl (if_pos (by rw [running_of_phase hp, hs]; rfl))

/-! ### Frames on the bus (R298, R306, R310, R311, R314, R315, R321) -/

/-- A frame that is being sent, on a bus that the controller takes part on, meets its outcome. -/
theorem onFrame_active {s : State} {n : Fin 4} {b : Fin 3} (eff : State → Fin 3 → State) (hp : s.phase = .run) (ho : onBus s n = true)
    (hb : activeBuf s n = some b) : onFrame s n eff = finish s (winterOn (eff s b)) := by
  rw [onFrame, hb]
  exact congrArg (finish s) (if_pos (by rw [running_of_phase hp, ho]; rfl))

/-- A frame that the controller can take is received. -/
theorem takeFrame_heard {s : State} {n : Fin 4} {f : CanFrame} (h : hearsFrame s n f = true) (age : Nat) :
    takeFrame s n f age = wakeDuringEntry (frameReceived s n f age) n f := by
  rw [takeFrame, if_pos h]

section
variable {s t : State} {n : Fin 4} {e : RxEntry} (hp : s.phase = .run) (hup : s.appDown = false) (he : releaseEntry s n = some (e, t))
include hp hup he

/-- The entry that firmware takes goes to the server if it carries Worust traffic, and to the raw ring otherwise. -/
theorem queueRelease_entry :
    queueRelease s n = if isWorust e then (if serverUp t then busFrame t n e.frame e.time e.at_ else t) else toRawRing t n e := by
  have htakes : ¬ (s.phase ≠ .run ∨ s.appDown = true) := by simp [hp, hup]
  rw [queueRelease, if_neg htakes, he]

theorem queueRelease_served (hw : isWorust e = true) (hs : serverUp t = true) : queueRelease s n = busFrame t n e.frame e.time e.at_ := by
  rw [queueRelease_entry hp hup he, if_pos hw, if_pos hs]

theorem queueRelease_raw (hw : isWorust e = false) : queueRelease s n = toRawRing t n e :=
  (queueRelease_entry hp hup he).trans (if_neg (Bool.eq_false_iff.mp hw))
end

theorem busFrameCommandsComplete : Parts.BusFrameCommandsComplete := by
  refine ⟨?sent, ?lost, ?error, ?exception, ?received, fun n s e t hp hup he => ⟨fun hw hs => ?served, fun hw => ?raw⟩⟩
  case sent => exact fun n tdc s b hp ho hb => leaves_of_finish (onFrame_active _ hp ho hb) rfl
  case lost => exact fun n s b hp ho hb => leaves_of_finish (onFrame_active _ hp ho hb) rfl
  case error => exact fun n lec pl e p k tdc s hp ho => leaves_of_finish rfl (if_pos (by rw [running_of_phase hp, ho]; rfl))
  case exception =>
    exact fun n s hp ho hm => leaves_of_finish rfl (if_pos (by rw [running_of_phase hp, ho, bne_iff_ne.mpr hm]; rfl))
  case received => exact fun n f age off s hp hh => leaves_of_finish rfl ((if_pos (running_of_phase hp)).trans (takeFrame_heard hh age))
  case served => exact leaves_of_finish rfl (queueRelease_served hp hup he hw hs)
  case raw => exact leaves_of_finish rfl (queueRelease_raw hp hup he hw)

/-! ### The raw path, recovery and transceiver reports (R312, R323, R324, R327) -/

theorem recoveryWanted_iff {s : State} {n : Fin 4} :
    recoveryWanted s n = true ↔ busBit s n 11 = true ∧ s.ob (Ob.busRecoveryMode n) = 1 ∧ s.bus[n].recovReq = false ∧
      s.bus[n].busOffAt + s.micros (Ob.busRecoveryDelay n) ≤ s.osc := by
  simp only [recoveryWanted, busBit, Bool.and_eq_true, beq_iff_eq, Bool.not_eq_true', decide_eq_true_eq, and_assoc]

section
variable {s : State} {n : Fin 4} {u : Bool}

/-- A fault that the transceiver newly reports sets its bit, with the event. -/
theorem transceiver_reported (h : busBit s n (if u = true then 14 else 15) = false) :
    transceiver s n u true =
      busRaise (setBusBit s n (if u = true then 14 else 15) true) n 9 (if u = true then 2 else 1) :=
  (if_neg (by rw [h]; exact Bool.false_ne_true)).trans (if_pos rfl)

/-- One that it reports no longer clears it. -/
theorem transceiver_withdrawn (h : busBit s n (if u = true then 14 else 15) = true) :
    transceiver s n u false = setBusBit s n (if u = true then 14 else 15) false :=
  (if_neg (by rw [h]; exact Bool.false_ne_true)).trans (if_neg Bool.false_ne_true)
end

theorem rawAndRecoveryCommandsComplete : Parts.RawAndRecoveryCommandsComplete := by
  refine ⟨?frame, ?cancel, ?command, fun n s hp hup ho hm hr ht => ?delay, ?complete, ?reported, ?withdrawn⟩
  case frame => exact fun x n d s => writes_of_writeOf rfl
  case cancel => exact fun x n s => writes_of_writeOf rfl
  case command => exact fun x n s => writes_of_writeOf rfl
  case delay =>
    have hwanted : (firmwareRuns s && recoveryWanted s n) = true := by
      rw [firmwareRuns, running_of_phase hp, hup, recoveryWanted_iff.mpr ⟨ho, hm, hr, ht⟩]; rfl
    exact leaves_of_finish rfl ((if_pos hwanted).trans (recoveryRequest_first hr))
  case complete =>
    exact fun n off sof s hp hs hr hn =>
      leaves_of_finish rfl (if_pos (by rw [running_of_phase hp, hs, hr, decide_eq_true hn]; rfl))
  case reported => exact fun n u s hp h => leaves_of_finish rfl ((if_pos (running_of_phase hp)).trans (transceiver_reported h))
  case withdrawn => exact fun n u s hp h => leaves_of_finish rfl ((if_pos (running_of_phase hp)).trans (transceiver_withdrawn h))

/-- Settles O32: what happens on the bus leaves its effect where it occurs, and the other commands are the writes of one object. -/
theorem busCommandsComplete : Obligations.BusCommandsComplete :=
  ⟨busControlCommandsComplete, busFrameCommandsComplete, rawAndRecoveryCommandsComplete⟩

end Sys2Proof.Machine
end

section
/-! PROOF. The network (R333–R352): the states that accept a Winter entry (O48), the wake detectors (O35), and of the commands of points,
publications, time and addresses (O34) those that leave what is claimed, with the reply from the time server that does not. -/
namespace Sys2Proof.Machine

/-! ### The states that accept a Winter entry (R431, R452) -/

/-- An abort met under a condition is kept away where the condition does not hold. -/
theorem abortIf_nil (b : Bool) (c : Nat) : (if b then [c] else []) = [] ↔ b = false := by
  cases b <;> simp

theorem commitRuns_eq_false_iff {s : State} : commitRuns s = false ↔ s.sec.commit = none := by
  rw [commitRuns, Option.isSome_eq_false_iff, Option.isNone_iff_eq_none]

/-- Some channel is both enabled and able to wake. -/
theorem anyCanWake_iff {s : State} :
    (List.range 4).any (fun n => s.flag (Ob.busEnable n) && s.flag (Ob.wakeWakeEnable n)) = true ↔
      ∃ n < 4, s.flag (Ob.busEnable n) = true ∧ s.flag (Ob.wakeWakeEnable n) = true := by
  simp only [List.any_eq_true, List.mem_range, Bool.and_eq_true]

/-- Settles O48: each of the four aborts is kept away by its own part of the condition. -/
theorem winterAcceptedIn : Obligations.WinterAcceptedIn := by
  intro s
  simp only [winterCodes, List.append_eq_nil_iff, abortUnless_nil, abortIf_nil, anyCanWake_iff, commitRuns_eq_false_iff,
    Option.isSome_eq_false_iff, Option.isNone_iff_eq_none, Bool.and_eq_true, Bool.not_eq_true', and_assoc]

/-! ### The wake detectors (R351, R352) -/

section
variable {s : State} {n : Fin 4}

theorem wakePattern_wakes (h : armed s n 0 = true) : wakePattern s n = wakeUp s n 1 := if_pos h

theorem wakeFrame_wakes {f : CanFrame} (h : armed s n 1 = true) (hf : wakeMatches s n f = true) : wakeFrame s n f = wakeUp s n 2 :=
  (if_pos h).trans (if_pos hf)

theorem wakeErrors_wakes (h : armed s n 1 = true) (he : 32 ≤ s.bus[n].errCount) : wakeErrors s n = wakeUp s n 3 :=
  if_pos (by rw [h, decide_eq_true he]; rfl)

/-- What an armed detector decodes moves its error count. -/
theorem wakeDecoded_counts (h : armed s n 1 = true) (good : Bool) :
    wakeDecoded s n good =
      setBus s n { s.bus[n] with errCount := if good = true then s.bus[n].errCount - 1 else min 32 (s.bus[n].errCount + 1) } := if_pos h
end

/-- Settles O35: each command finds its detector armed, and ends as every command does. -/
theorem wakeCommandsComplete : Obligations.WakeCommandsComplete := by
  refine ⟨?pattern, ?frame, ?errors, ?decoded⟩
  case pattern => exact fun n s h => leaves_of_finish rfl (wakePattern_wakes h)
  case frame => exact fun n f s h hf => leaves_of_finish rfl (wakeFrame_wakes h hf)
  case errors => exact fun n s h he => leaves_of_finish rfl (wakeErrors_wakes h he)
  case decoded => exact fun n good s h => leaves_of_finish rfl (wakeDecoded_counts h good)

/-! ### Points and publications (R333, R342, R343) -/

theorem firmwareRuns_of_up {s : State} (hp : s.phase = .run) (hup : s.appDown = false) : firmwareRuns s = true := by
  rw [firmwareRuns, running_of_phase hp, hup]; rfl

/-- The channels of a point that had no report for PointTimeout (R342). -/
def lateChans (s : State) (n : Fin 4) (point : Nat) : List Nat :=
  (boundChans s 8 0x0B n.val point).filter (fun c => match assoc s.net.points c with
    | some t => decide (t + s.micros Ob.worustPointTimeout ≤ s.osc)
    | none => false)

/-- A channel of a point has no report any more. -/
def lapseChan (s : State) (c : Nat) : State :=
  let t := feedBit s c 0 false
  { t with net := { t.net with points := assocDrop t.net.points c } }

/-- In the running module the late channels of a point lapse together, with one event. -/
theorem pointLapse_late {s : State} {n : Fin 4} {point : Nat} (hp : s.phase = .run) (hl : lateChans s n point ≠ []) :
    pointLapse s n point = raise ((lateChans s n point).foldl lapseChan s) 199 (n.val * 2 ^ 16 + point) := by
  have hgo : ¬ ((lateChans s n point).isEmpty || s.phase != .run) = true := by simp [hl, hp]
  exact if_neg hgo

theorem pointCommandsComplete : Parts.PointCommandsComplete := by
  refine ⟨?cont, ?received, ?timeout, ?periodic, fun q s hp hd => ⟨fun hm => ?moved, fun hm => ?unmoved⟩⟩
  case cont => exact fun n s hp hup => occurs_true (fun s => contTimeout s n) (firmwareRuns_of_up hp hup)
  case received => exact fun n node point v fl age s hs hb => leaves_of_finish rfl (if_pos (by rw [hs, hb]; rfl))
  case timeout => exact fun n point s hp hl => leaves_of_finish rfl (pointLapse_late hp hl)
  case periodic => exact fun q s hd => occurs_true (fun s => pubPeriodic s q) hd
  case moved => exact leaves_of_finish rfl ((if_pos (by rw [running_of_phase hp, hd]; rfl)).trans (if_pos hm))
  case unmoved =>
    exact leaves_of_finish rfl ((if_pos (by rw [running_of_phase hp, hd]; rfl)).trans (if_neg (Bool.eq_false_iff.mp hm)))

/-! ### Ports and addresses (R348–R350) -/

section
variable {s : State}

theorem linkTakes_new {e status : Nat} (h : s.ob (Ob.ethLinkStatus e) ≠ status) :
    linkTakes s e status = ipFollow (raise (s.put (Ob.ethLinkStatus e) status) (192 + e) status) := if_neg h

/-- An enabled port takes a link that its setting admits. -/
theorem linkChange_links {e : Nat} {st : Fin 6} (hp : s.phase = .run) (he : s.flag (Ob.ethEnable e) = true)
    (ha : linkAdmits (s.ob (Ob.ethLinkMode e)) st = true) (hw : s.winter.stage ≤ 1) : linkChange s e st = linkTakes s e st :=
  if_pos ⟨hp, .inr ⟨he, Nat.le_of_lt_succ st.isLt, ha, hw⟩⟩

/-- Any port of the running module loses its link. -/
theorem linkChange_drops {e : Nat} (hp : s.phase = .run) : linkChange s e 0 = linkTakes s e 0 := if_pos ⟨hp, .inl rfl⟩

theorem leaseLapsed_iff : leaseLapsed s = true ↔ ipBit s 1 = true ∧ s.net.leaseEnd ≤ s.osc := by
  simp only [leaseLapsed, Bool.and_eq_true, decide_eq_true_eq]

theorem dhcpRetryDue_iff :
    dhcpRetryDue s = true ↔ s.ob Ob.ipAddressMode = 1 ∧ ipBit s 1 = false ∧ s.net.retryAt + 10000000 ≤ s.osc := by
  simp only [dhcpRetryDue, Bool.and_eq_true, beq_iff_eq, Bool.not_eq_true', decide_eq_true_eq, and_assoc]

/-- The state with one more drop of broadcasts counted on port `e`, and noted among those of the last second. -/
def dropNoted (s : State) (e d : Nat) : State :=
  let t := s.incBy (Ob.ethStormDrops e) d
  { t with net := { t.net with drops := (t.osc, d) :: t.net.drops.filter (fun x => decide (t.osc < x.1 + 1000000)) } }

section
variable {e d : Nat} (hp : s.phase = .run) (hd : 0 < d)
include hp hd

/-- In the running module drops are noted, and reported unless the last report was within a second. -/
theorem broadcastStorm_eq :
    broadcastStorm s e d =
      (let t := dropNoted s e d
       if t.net.stormSeen && decide (t.osc < t.net.stormAt + 1000000) then t
       else raise { t with net := { t.net with stormSeen := true, stormAt := t.osc } } 203 (sumBy t.net.drops (·.2))) :=
  if_neg (not_or.mpr ⟨not_not_intro hp, Nat.ne_of_gt hd⟩)

theorem broadcastStorm_reports (h : s.net.stormSeen = false ∨ s.net.stormAt + 1000000 ≤ s.osc) :
    broadcastStorm s e d =
      (let t := dropNoted s e d
       raise { t with net := { t.net with stormSeen := true, stormAt := t.osc } } 203 (sumBy t.net.drops (·.2))) := by
  have hquiet : ¬ (s.net.stormSeen && decide (s.osc < s.net.stormAt + 1000000)) = true := by
    rw [Bool.and_eq_true, decide_eq_true_eq]
    rintro ⟨hseen, hrecent⟩
    rcases h with h | h
    · exact Bool.false_ne_true (h.symm.trans hseen)
    · exact Nat.not_le.mpr hrecent h
  exact (broadcastStorm_eq hp hd).trans (if_neg hquiet)

theorem broadcastStorm_counts (hs : s.net.stormSeen = true) (ht : s.osc < s.net.stormAt + 1000000) :
    broadcastStorm s e d = dropNoted s e d :=
  (broadcastStorm_eq hp hd).trans (if_pos ((Bool.and_eq_true _ _).mpr ⟨hs, decide_eq_true ht⟩))
end
end

theorem addressCommandsComplete : Parts.AddressCommandsComplete := by
  refine ⟨?link, ?unlink, ?lapse, ?retry, ?bound, ?conflict, ?reported, ?counted⟩
  case link => exact fun e st s hp he ha hw hn => leaves_of_finish rfl ((linkChange_links hp he ha hw).trans (linkTakes_new hn))
  case unlink => exact fun e s hp hn => leaves_of_finish rfl ((linkChange_drops hp).trans (linkTakes_new hn))
  case lapse =>
    exact fun s hp hb ht => leaves_of_finish rfl (if_pos (by rw [running_of_phase hp, leaseLapsed_iff.mpr ⟨hb, ht⟩]; rfl))
  case retry =>
    exact fun s hp hm hb ht => leaves_of_finish rfl (if_pos (by rw [running_of_phase hp, dhcpRetryDue_iff.mpr ⟨hm, hb, ht⟩]; rfl))
  case bound => exact fun a m secs s hp hm hl => leaves_of_finish rfl (if_pos ⟨hp, hm, hl⟩)
  case conflict => exact fun a s hp ha => leaves_of_finish rfl (if_pos ⟨hp, ha⟩)
  case reported => exact fun e d s hp hd h => leaves_of_finish rfl (broadcastStorm_reports hp hd h)
  case counted => exact fun e d s hp hd hs ht => leaves_of_finish rfl (broadcastStorm_counts hp hd hs ht)

/-! ### A reply that time overtakes (R346)

TIME_REPLY first reaches its instant in the tick, and what the grain clocks accept on the way can trip the module (R86, R120). Leaving OPERATE
then gives a loop that waits its context back with SupervStatus 0 (R207, R216). A loop is a bare number in the state, and beyond
the 512 of the module, to which the statement does not confine it, the key of its SupervStatus is that of another object: for one number it is
SyncSource's. -/

/-- The loop number whose SupervStatus has the key of SyncSource. -/
def strayLoop : Nat := 64 * (0x5420 - 0x3418) + 1

theorem strayLoop_supervStatus : Ob.supStatusSupervStatus (strayLoop / 64) (strayLoop % 64) = Ob.wcSyncSource := by decide

/-- OPERATE, synchronised, with a poll of the time server open. On grain clock 0 an illegal transition is about to be judged, whose event
224 trips, and the stray loop leaves its context and is to take it again. -/
def tripsBeforeReply : State :=
  { State.reset.puts [(Ob.opOperatingState, 2), (Ob.gcEnable 0, 1), (Ob.wcSyncSource, 1), (Ob.wcSyncStatus, 1)] with
    phase := .run
    trips := [224]
    gc := State.reset.gc.set 0 { State.restGc with waits := [⟨.a, true, false, 0, .illegal⟩] }
    loops := [{ newLoop strayLoop (restCtx []) false with leaving := true, again := true }]
    net := { State.restNet with pollOpen := true } }

/-- The server is the source of time, but no longer at the instant of the reply, the trip on the way there having cleared SyncSource; and the
delay, 0, lies within the limit. -/
theorem tripsBeforeReply_meets :
    tripsBeforeReply.ob Ob.wcSyncSource = 1 ∧ (reach tripsBeforeReply 0).ob Ob.wcSyncSource ≠ 1 ∧
    ((reach tripsBeforeReply 0).wc : Int) - (tripsBeforeReply.net.pollT1 : Int) - (1 - 1) ≤ 10000 := by decide +kernel

/-- With another source of time by the instant of its arrival a reply from the server is ignored. -/
theorem timeReply_ignored {s : State} {tid : BitVec 16} {t2 t3 : BitVec 64} {off : Fin 10} (hp : s.phase = .run) (hup : s.appDown = false)
    (h : (reach s off).ob Ob.wcSyncSource ≠ 1) : Leaves (.timeReply tid t2 t3 off) s (reach s off) :=
  leaves_of_finish rfl ((if_pos (firmwareRuns_of_up hp hup)).trans (if_pos (.inr (.inl h))))

/-- Behind the end of a command a status bit reads what routing and a due reset left of it: the output lines bear on no object. -/
theorem after_stBit (s t : State) (k b : Nat) : (after s t).stBit k b = (resetIfDue (flush t)).stBit k b := by
  obtain ⟨-, hobjs, -⟩ := after_keeps s t
  rw [State.stBit, State.stBit, ob_of_objs hobjs]

/-- Refutes O34: in `tripsBeforeReply` the reply answers the open poll, and yet it is ignored, so that SLEWING stays clear where the offset
of 1 µs measured would set it. The clauses of points and of addresses hold (`pointCommandsComplete`, `addressCommandsComplete`). -/
theorem not_networkCommandsComplete : ¬ Obligations.NetworkCommandsComplete := by
  rintro ⟨-, ⟨-, -, -, -, hreply⟩, -⟩
  obtain ⟨hopen, hsource, hdelay⟩ := tripsBeforeReply_meets
  have hclaim := hreply 0 1 1 0 tripsBeforeReply rfl rfl hopen rfl rfl hdelay
  have hignored : Leaves (.timeReply 0 1 1 0) tripsBeforeReply (reach tripsBeforeReply 0) :=
    timeReply_ignored rfl rfl hsource
  have hsame := congrArg (State.stBit · Ob.wcSyncStatus 2) (Host.Outcome.next.inj (hignored.symm.trans hclaim))
  simp only [after_stBit] at hsame
  exact absurd hsame (by decide +kernel)

end Sys2Proof.Machine
end

section
/-! PROOF. The digital pins and logic silence (R360–R373): a pulse that its filter rejects (O37), a reset of a pin that is not latched (O38),
and what the commands of the pins, of their groups and of silence leave, each where it occurs (O39). -/
namespace Sys2Proof.Machine

/-! ### A pulse that the filter rejects (R360) -/

theorem pinPasses_iff {s : State} {i : Fin 32} {held : Nat} : pinPasses s i held = true ↔ s.micros (Ob.pinFilterTime i) ≤ held :=
  decide_eq_true_iff

/-- Settles O37: such a pulse cannot pass the filter, and an event that cannot occur leaves a safe state as it is. -/
theorem shortPulseIsRejected : Obligations.ShortPulseIsRejected := by
  intro i c s hs hshort
  have hrejected : (running s && pinPasses s i c.held) = false :=
    Bool.and_eq_false_imp.mpr fun _ => Bool.eq_false_iff.mpr fun h => Nat.not_le.mpr hshort (pinPasses_iff.mp h)
  exact (occurs_false (fun s => pinEdge (reach s c.off) i) hrejected).trans (congrArg Host.Outcome.next (after_self hs))

/-! ### The reset of a pin (R365) -/

/-- A latched pin loses LATCHED, OVERLOAD and its count of failed retries, with cause 15; any other pin goes on as it was. -/
theorem clearLatch_eq (s : State) (i : Fin 32) :
    clearLatch s i =
      if pinBit s i 6 = true then
        let t := setPinBit (setPinBit s i 6 false) i 5 false
        pinRaise (setPin t i { t.pins[i] with fails := 0, retrying := false, offTicks := 0 }) i 15
      else s := by
  simp only [clearLatch, Bool.not_eq_true', ← Bool.not_eq_true, ite_not]

theorem clearLatch_unlatched {s : State} {i : Fin 32} (h : pinBit s i 6 = false) : clearLatch s i = s :=
  (clearLatch_eq s i).trans (if_neg (Bool.eq_false_iff.mp h))

/-- Of a ready module an applied write without effect leaves all but its record as it was. -/
theorem recorded_self {s : State} {x : Sender} (hready : Ready s) (ha : Admitted s x) (k : Nat) (ty : Ty) (data : List Byte) :
    recorded s x k ty data s =
      stage s (writeRec s (originOf x) 1 (tyCode ty) (k / 256) (k % 256) 0 (oldBytes s (k / 256) (k % 256)) data) := by
  obtain ⟨-, -, hraised⟩ := hready
  exact recordWrite_eq _ _ hraised ha.placesUsed_lt

/-- Settles O38: the write has no effect, so that it leaves its record alone, and that raises nothing and asks for no reset. -/
theorem pinResetFrame : Obligations.PinResetFrame := by
  intro x i s hready hlatch ha
  have hleaves := leaves_of_writeOf (c := .pinReset x i) rfl ha (clearLatch_unlatched hlatch)
  rw [recorded_self hready ha.1] at hleaves
  exact ⟨_, hleaves.trans (congrArg _ (after_ready hready rfl)), rfl, rfl⟩

/-! ### The other commands of the pins (R360–R362, R365, R366) -/

theorem retryDue_iff {s : State} {i : Fin 32} :
    retryDue s i = true ↔
      pinBit s i 5 = true ∧ pinBit s i 6 = false ∧ pinAsked s i.val = true ∧ s.pins[i].overAt + 100000 ≤ s.osc := by
  simp only [retryDue, Bool.and_eq_true, Bool.not_eq_true', decide_eq_true_eq, and_assoc]

theorem pinCommandsComplete : Parts.PinCommandsComplete := by
  refine ⟨fun i c s hp hheld => ?edge, fun i s hp hd => ?rate, fun i s hp hw hb => ?broken, fun i s hp hw hb => ?whole,
    fun i s hp hd => ?overload, fun i s hp h5 h6 hasked ht => ?retry, fun x i s ha => ?reset, fun i s hp hen hd hb => ?openLoad⟩
  case edge =>
    exact occurs_true (fun s => pinEdge (reach s c.off) i) (by rw [running_of_phase hp, pinPasses_iff.mpr hheld]; rfl)
  case rate => exact occurs_true (fun s => pulseUpdate s i) (by rw [running_of_phase hp, hd]; rfl)
  case broken => exact occurs_true (fun s => wireBreak s i true) (by rw [running_of_phase hp, hw, hb]; rfl)
  case whole => exact occurs_true (fun s => wireBreak s i false) (by rw [running_of_phase hp, hw, hb]; rfl)
  case overload => exact occurs_true (fun s => overload s i) (by rw [running_of_phase hp, hd]; rfl)
  case retry =>
    exact occurs_true (fun s => overloadRetry s i)
      (by rw [running_of_phase hp, retryDue_iff.mpr ⟨h5, h6, hasked, ht⟩]; rfl)
  case reset =>
    exact leaves_of_writeOf (eff := fun s => clearLatch s i) rfl (ha.congr (clearLatch_eq s i).symm) (clearLatch_eq s i)
  case openLoad => exact occurs_true (fun s => openLoad s i) (by rw [running_of_phase hp, hen, hd, hb]; rfl)

/-! ### Logic silence (R371–R373) -/

section
variable {s : State}

theorem silenceDue_iff :
    silenceDue s = true ↔
      (s.ob Ob.silenceSilenceState = 0 ∨ s.ob Ob.silenceSilenceState = 1 ∧ s.silenceAt < s.link.downAt) ∧
        s.link.downAt + s.micros Ob.silenceSilenceTime ≤ s.osc := by
  simp only [silenceDue, silenceState, frameSince, Bool.and_eq_true, Bool.or_eq_true, beq_iff_eq, decide_eq_true_eq]

theorem allOffDue_iff :
    allOffDue s = true ↔
      s.ob Ob.silenceSilenceState = 1 ∧ s.link.downAt ≤ s.silenceAt ∧ s.silenceAt + s.micros Ob.silenceAllOffTime ≤ s.osc := by
  simp only [allOffDue, silenceState, frameSince, Bool.and_eq_true, beq_iff_eq, Bool.not_eq_true', decide_eq_true_eq,
    decide_eq_false_iff_not, Nat.not_lt, and_assoc]

theorem silenceEndDue_iff : silenceEndDue s = true ↔ s.ob Ob.silenceSilenceState ≠ 0 ∧ 100 ≤ s.link.downRun := by
  simp only [silenceEndDue, silenceState, Bool.and_eq_true, bne_iff_ne, ne_eq, decide_eq_true_eq]

/-- From SilenceState 0 a sound copy gives the outputs their SafeState, and one that is not switches them off (R371, R372). -/
theorem silenceDeclared_first (h : s.ob Ob.silenceSilenceState = 0) :
    silenceDeclared s =
      (let t := checkCopy (capturePre s)
       if copyOk t = true then toSilence t 1 12 else toSilence t 2 13) := by
  have hfirst : (silenceState s == 1) = false := by rw [silenceState, h]; rfl
  simp only [silenceDeclared, hfirst, Bool.false_eq_true, if_false, Bool.not_eq_true', ← Bool.not_eq_true, ite_not]

/-- Declared anew, silence with a sound copy only counts AllOffTime from now. -/
theorem silenceDeclared_anew (h : s.ob Ob.silenceSilenceState = 1) :
    silenceDeclared s =
      (let t := checkCopy s
       if copyOk t = true then { t with silenceAt := t.osc } else toSilence t 2 13) := by
  have hanew : (silenceState s == 1) = true := by rw [silenceState, h]; rfl
  simp only [silenceDeclared, hanew, if_true, Bool.not_eq_true', ← Bool.not_eq_true, ite_not]
end

/-- A check of the local copy that is due in the running module leaves what it finds, whether or not an upset came before it (R372). -/
theorem safeCopyCheck_leaves {s : State} (hp : s.phase = .run) (hd : s.due .safeCopy 10000 = true) (upset : Bool) :
    Leaves (.safeCopyCheck upset) s (copyChecked s upset) :=
  occurs_true (fun s => copyChecked s upset) (by rw [running_of_phase hp, hd]; rfl)

/-! ### The field supplies and their groups (R369) -/

theorem groupAndSilenceCommandsComplete : Parts.GroupAndSilenceCommandsComplete := by
  refine ⟨fun k s hc hb => ?warning, fun k s hc hb => ?trip, fun k s hc hr => ?restore, fun x g s => ?reset,
    fun s hp h0 ht => ?declared, fun s hp h1 hnone ht => ?allOff, fun s hp h1 hframe ht => ?anew, fun s hp h hrun => ?ended,
    fun s hp hd => ?sound, fun s hp hd => ?upset⟩
  case warning => exact occurs_true (fun s => supplyWarning s k) (by rw [hc, hb]; rfl)
  case trip => exact occurs_true (fun s => supplyTrip s k) (by rw [hc, hb]; rfl)
  case restore => exact occurs_true (fun s => supplyRestore s k) (by rw [hc, hr]; rfl)
  case reset => exact writes_of_writeOf rfl
  case declared =>
    exact leaves_of_finish rfl ((if_pos (by rw [running_of_phase hp, silenceDue_iff.mpr ⟨.inl h0, ht⟩]; rfl)).trans
      (silenceDeclared_first h0))
  case allOff =>
    exact occurs_true (fun s => toSilence s 2 13) (by rw [running_of_phase hp, allOffDue_iff.mpr ⟨h1, hnone, ht⟩]; rfl)
  case anew =>
    exact leaves_of_finish rfl ((if_pos (by rw [running_of_phase hp, silenceDue_iff.mpr ⟨.inr ⟨h1, hframe⟩, ht⟩]; rfl)).trans
      (silenceDeclared_anew h1))
  case ended => exact occurs_true silenceEnd (by rw [running_of_phase hp, silenceEndDue_iff.mpr ⟨h, hrun⟩]; rfl)
  case sound => exact safeCopyCheck_leaves hp hd false
  case upset => exact safeCopyCheck_leaves hp hd true

/-- Settles O39: what happens to the pins, their groups and the field link leaves its effect where it occurs, and the two resets are the
writes of one object. -/
theorem digitalCommandsComplete : Obligations.DigitalCommandsComplete :=
  ⟨pinCommandsComplete, groupAndSilenceCommandsComplete⟩

end Sys2Proof.Machine
end

section
/-! PROOF. The step and its queue (O1, O2, O3), and what stops a command (O4). -/
namespace Sys2Proof.Machine

/-- Settles O1: the front of the queue is the one branch of the step that is taken. -/
theorem stepRunsFrontCommand : Obligations.StepRunsFrontCommand := by
  intro c rest s h
  rw [step, h]

/-- Settles O2: an empty queue is the other branch. -/
theorem emptyQueueIdles : Obligations.EmptyQueueIdles := by
  intro s h
  rw [step, h]

/-- Settles O3: whatever a command made of the state, its end puts the queue back. -/
theorem commandsLeaveTheQueue : Obligations.CommandsLeaveTheQueue := by
  intro c s t h
  obtain ⟨u, rfl⟩ := exec_next h
  exact after_pending s u

/-- Settles O4: a command whose figures lie within the ratings ends as all commands do, and any other stops. -/
theorem onlyBeyondRatingStops : Obligations.OnlyBeyondRatingStops := by
  intro c s
  cases hb : beyondRating s c with
  | true => exact .inr ⟨rfl, exec_stops hb⟩
  | false =>
    obtain ⟨u, hu⟩ := exec_finishes hb
    exact .inl ⟨rfl, after s u, hu.trans (finish_eq s u)⟩

end Sys2Proof.Machine
end

section
/-! PROOF. Resets, power-on and wake (R434–R440, R511, R512): the class of a strap (O51), and what a power-on (O50), a wake (O36) and a
rail fault (O52) leave. -/
namespace Sys2Proof.Machine

/-! ### The class of a strap (R511) -/

/-- No read is at once at most 100 ohm and at least 100 kohm. -/
theorem countP_set_add_countP_open_le (reads : List Nat) :
    reads.countP (fun x => decide (x ≤ 100)) + reads.countP (fun x => decide (100000 ≤ x)) ≤ reads.length := by
  rw [reads.length_eq_countP_add_countP (fun x => decide (x ≤ 100))]
  refine Nat.add_le_add_left (List.countP_mono_left fun x _ hopen => ?_) _
  simp only [decide_eq_true_eq] at hopen ⊢
  omega

/-- Seven reads are all looked at, the class of set straps first. -/
theorem strapClass_eq {reads : List Nat} (h : reads.length = 7) :
    strapClass reads =
      if 4 ≤ reads.countP (fun x => decide (x ≤ 100)) then 0
      else if 4 ≤ reads.countP (fun x => decide (100000 ≤ x)) then 1 else 2 := by
  simp only [strapClass, List.take_of_length_le (Nat.le_of_eq h), List.countP_eq_length_filter]

/-- Settles O51: of seven reads at most one of the two classes holds four. -/
theorem strapClassHeldByFour : Obligations.StrapClassHeldByFour := by
  intro reads h
  have hdisjoint := countP_set_add_countP_open_le reads
  rw [strapClass_eq h]
  split
  · omega
  · split <;> omega

/-! ### What a reset leaves (R436, R437, R452) -/

/-- Where nothing was raised and no reset is asked for, the end of a command only puts the output lines and the queue in order. -/
theorem after_quiet {s t : State} (hraised : t.router.raised = []) (hdue : t.sec.resetDue = none) :
    after s t = { settle t with pending := s.pending } := by
  rw [after, flush_nil hraised, resetIfDue_none hdue]

/-- The state with what a commit in progress wrote. -/
def commitLeft (s : State) : State :=
  match s.sec.commit with
  | some c => if headerWritten s c then putSlot s c.target c.copy else s
  | none => s

/-- A commit in progress wrote to NAND alone. -/
theorem commitLeft_eq (s : State) : ∃ n, commitLeft s = { s with nand := n } := by
  unfold commitLeft
  repeat' split
  all_goals exact ⟨_, rfl⟩

theorem commitLeft_none {s : State} (h : s.sec.commit = none) : commitLeft s = s := by rw [commitLeft, h]

/-- Every block at rest, with the objects that a reset finds. -/
def resetBlocks (s : State) (cause : Nat) (straps : Straps) : State :=
  ((resetObjs (commitLeft s) straps cause).foldl (fun (t : State) (p : Nat × Nat) => t.put p.1 p.2)
    (State.blank (commitLeft s).nand (commitLeft s).factory straps)).inc (if cause = 0 then Ob.resetPowerOnCount else Ob.resetResetCount)

theorem foldl_put_eq (l : List (Nat × Nat)) (s : State) :
    ∃ o, l.foldl (fun (t : State) (p : Nat × Nat) => t.put p.1 p.2) s = { s with objs := o } := by
  induction l generalizing s with
  | nil => exact ⟨s.objs, rfl⟩
  | cons p l ih => exact ih (s.put p.1 p.2)

/-- But for the objects the blocks are those at rest, with NAND as the commit left it. -/
theorem resetBlocks_eq (s : State) (cause : Nat) (straps : Straps) :
    ∃ o, resetBlocks s cause straps = { State.blank (commitLeft s).nand (commitLeft s).factory straps with objs := o } := by
  obtain ⟨o, ho⟩ := foldl_put_eq (resetObjs (commitLeft s) straps cause) (State.blank (commitLeft s).nand (commitLeft s).factory straps)
  rw [resetBlocks, ho]
  exact ⟨_, rfl⟩

theorem resetBlocks_supplySource (s : State) (cause : Nat) (straps : Straps) :
    (resetBlocks s cause straps).ob Ob.supplySource = s.ob Ob.supplySource := by
  have hcount : Ob.supplySource ≠ (if cause = 0 then Ob.resetPowerOnCount else Ob.resetResetCount) := by split <;> decide
  have hstatus : Ob.supplySource ≠ Ob.supplySupplyStatus := by decide
  obtain ⟨n, hn⟩ := commitLeft_eq s
  simp only [resetBlocks, resetObjs, List.foldl_append, List.foldl_cons, List.foldl_nil]
  rw [inc_eq, ob_put_ne _ _ hcount, ob_put_ne _ _ hstatus, ob_put_self, hn]
  rfl

/-- The lines that are carried over a reset of the running module stand as they were; no other reset carries any. -/
theorem keepLines_run {s b : State} (h : s.phase = .run) :
    (keepLines s b).linesHeld = true ∧ (∀ i : Fin 32, (keepLines s b).pins[i].drive = s.pins[i].drive) ∧
    (∀ o : Fin 8, (keepLines s b).ao[o].applied = s.ao[o].applied) ∧ ∀ f : Fin 8, (keepLines s b).fans[f].applied = s.fans[f].applied := by
  rw [keepLines, if_pos h]
  exact ⟨rfl, by simp, by simp, by simp⟩

@[simp] theorem settle_wc (s : State) : (settle s).wc = s.wc := by unfold settle; split <;> rfl
@[simp] theorem keepLines_wc (s b : State) : (keepLines s b).wc = b.wc := by unfold keepLines; split <;> rfl

section
variable {s : State} {cause : Nat} {straps : Straps} {evs : List (Nat × Nat)}

theorem resetNow_supplySource : (resetNow s cause straps evs).ob Ob.supplySource = s.ob Ob.supplySource :=
  (keepLines_ob (commitLeft s) (resetBlocks s cause straps) _).trans (resetBlocks_supplySource s cause straps)

theorem resetNow_wc : (resetNow s cause straps evs).wc = 0 := by
  obtain ⟨o, ho⟩ := resetBlocks_eq s cause straps
  exact (keepLines_wc (commitLeft s) (resetBlocks s cause straps)).trans (by rw [ho]; rfl)

/-- Without a commit in progress NAND is as it was. -/
theorem resetNow_nand (h : s.sec.commit = none) : (resetNow s cause straps evs).nand = s.nand := by
  obtain ⟨o, ho⟩ := resetBlocks_eq s cause straps
  exact (keepLines_nand (commitLeft s) (resetBlocks s cause straps)).trans (by rw [ho, commitLeft_none h]; rfl)

/-- The lines of a module that ran stand until the next boundary. -/
theorem resetNow_lines_run (h : s.phase = .run) :
    (resetNow s cause straps evs).linesHeld = true ∧
    (∀ i : Fin 32, (resetNow s cause straps evs).pins[i].drive = s.pins[i].drive) ∧
    (∀ o : Fin 8, (resetNow s cause straps evs).ao[o].applied = s.ao[o].applied) ∧
    ∀ f : Fin 8, (resetNow s cause straps evs).fans[f].applied = s.fans[f].applied := by
  obtain ⟨n, hn⟩ := commitLeft_eq s
  have hlines := keepLines_run (s := commitLeft s) (b := resetBlocks s cause straps) (by rw [hn]; exact h)
  simp only [congrArg State.pins hn, congrArg State.ao hn, congrArg State.fans hn] at hlines
  exact hlines

theorem resetNow_linesHeld (h : s.phase ≠ .run) : (resetNow s cause straps evs).linesHeld = false := by
  obtain ⟨n, hn⟩ := commitLeft_eq s
  obtain ⟨o, ho⟩ := resetBlocks_eq s cause straps
  have hnot : ¬ (commitLeft s).phase = .run := by rw [hn]; exact h
  show (keepLines (commitLeft s) (resetBlocks s cause straps)).linesHeld = false
  rw [keepLines, if_neg hnot, ho]
  rfl
end

/-! ### Power-on, wake and rail fault -/

section
variable {s t : State} (hraised : t.router.raised = []) (hdue : t.sec.resetDue = none) (hboot : t.phase = .boot 0)
include hraised hdue hboot

/-- In BOOT every line is off behind the end of a command, unless a reset found it driven. -/
theorem after_boot_rests (hheld : t.linesHeld = false) : OutputsAtRest (after s t) := by
  rw [after_quiet hraised hdue]
  exact settle_rest (s := t) (by simp [hboot]) (by simp [linesStand, hboot, hheld])

/-- Lines that a reset found driven stand. -/
theorem after_boot_stands (hheld : t.linesHeld = true) : after s t = { t with pending := s.pending } := by
  rw [after_quiet hraised hdue, settle, if_pos (.inr (by simp [linesStand, hboot, hheld]))]
end

/-- A figure counted where a condition holds. -/
theorem mul_ite_one (p : Prop) [Decidable p] (n : Nat) : n * (if p then 1 else 0) = if p then n else 0 := by
  by_cases h : p
  · rw [if_pos h, if_pos h, Nat.mul_one]
  · rw [if_neg h, if_neg h, Nat.mul_zero]

/-- The straps that a power-on samples (R511): an indeterminate one reads as the safe side. -/
theorem sampleStraps_eq (t0 t1 key : List Nat) :
    sampleStraps t0 t1 key =
      { tsel := (if strapClass t0 = 0 then 1 else 0) + (if strapClass t1 = 0 then 2 else 0)
        key := !decide (strapClass key = 1)
        indet := (if strapClass t0 = 2 then 1 else 0) + (if strapClass t1 = 2 then 2 else 0) + (if strapClass key = 2 then 4 else 0) } := by
  simp only [sampleStraps, ofBool, beq_iff_eq, mul_ite_one]
  rfl

/-- A power-on is a reset of the cause that was kept, from the supply that qualified, with the straps sampled. -/
theorem powerOn_eq {s : State} (hp : s.phase = .off) {vm vb : Bool} (hv : (vm || vb) = true) (t0 t1 key : List Nat) :
    ∃ supply evs, powerOn s vm vb t0 t1 key =
      resetNow (({ s with supply := supply }.put Ob.supplySource (if vm then 0 else 1)).put Ob.supplySupplyStatus (if vm then 0 else 1))
        s.supply.upCause (sampleStraps t0 t1 key) evs :=
  ⟨_, _, if_pos ⟨hp, hv⟩⟩

/-- Settles O50: the reset of a power-on takes its cause, its straps and Source from what the power-on made, and finds no line driven. -/
theorem powerOnSamplesTheStraps : Obligations.PowerOnSamplesTheStraps := by
  intro vm vb t0 t1 key s hp _ hv
  obtain ⟨supply, evs, hon⟩ := powerOn_eq hp hv t0 t1 key
  have hsource : Ob.supplySource ≠ Ob.supplySupplyStatus := by decide
  have hstraps : (after s (powerOn s vm vb t0 t1 key)).straps = sampleStraps t0 t1 key := by
    rw [hon, after_quiet (resetNow_raised _ _ _ _) (resetNow_sec _ _ _ _)]
    exact (settle_straps _).trans (resetNow_straps _ _ _ _)
  rw [sampleStraps_eq] at hstraps
  refine ⟨_, finish_eq s _, ?phase, ?cause, ?source, ?rest, by rw [hstraps], by rw [hstraps], by rw [hstraps]⟩
  all_goals rw [hon]
  case rest =>
    exact after_boot_rests (resetNow_raised _ _ _ _) (resetNow_sec _ _ _ _) (resetNow_phase _ _ _ _) (resetNow_linesHeld (by simp [hp]))
  all_goals rw [after_quiet (resetNow_raised _ _ _ _) (resetNow_sec _ _ _ _)]
  case phase => exact (settle_phase _).trans (resetNow_phase _ _ _ _)
  case cause => exact (settle_ob _ _).trans (resetNow_lastResetCause _ _ _ _)
  case source => exact (settle_ob _ _).trans (resetNow_supplySource.trans (by rw [ob_put_ne _ _ hsource, ob_put_self]))

/-- Settles O36: behind the reset the three objects of the wake are written, and nothing is raised. -/
theorem wakeIsAResetOfCauseThree : Obligations.WakeIsAResetOfCauseThree := by
  intro n s h
  have hwinter : s.phase = .winter := by
    simp only [armed, Bool.and_eq_true, beq_iff_eq] at h
    exact h.1.1.1
  have hchannel : Ob.resetLastResetCause ≠ Ob.seasonLastWakeChannel := by decide
  have hkeys : ∀ n : Fin 4, Ob.resetLastResetCause ≠ Ob.wakeLastWakeCause n ∧ Ob.resetLastResetCause ≠ Ob.wakeWakeCount n ∧
      Ob.seasonLastWakeChannel ≠ Ob.wakeLastWakeCause n ∧ Ob.seasonLastWakeChannel ≠ Ob.wakeWakeCount n ∧
      Ob.wakeLastWakeCause n ≠ Ob.wakeWakeCount n := by decide
  obtain ⟨hcc, hcn, hwc, hwn, hlast⟩ := hkeys n
  have hraised : (wakeUp s n 1).router.raised = [] := resetNow_raised (saveCounters s) 3 s.straps [(144 + 12 * n.val + 11, 1)]
  have hdue : (wakeUp s n 1).sec.resetDue = none := resetNow_sec (saveCounters s) 3 s.straps [(144 + 12 * n.val + 11, 1)]
  have hphase : (wakeUp s n 1).phase = .boot 0 := resetNow_phase (saveCounters s) 3 s.straps [(144 + 12 * n.val + 11, 1)]
  have hheld : (wakeUp s n 1).linesHeld = false :=
    resetNow_linesHeld (s := saveCounters s) (cause := 3) (straps := s.straps) (evs := [(144 + 12 * n.val + 11, 1)])
      (by simp [saveCounters, hwinter])
  refine ⟨_, leaves_of_finish rfl (wakePattern_wakes h), ?phase, ?cause, ?channel, ?wake, ?rest⟩
  case rest => exact after_boot_rests hraised hdue hphase hheld
  all_goals rw [after_quiet hraised hdue]
  case phase => exact (settle_phase _).trans hphase
  all_goals refine (settle_ob _ _).trans ?_
  all_goals rw [wakeUp, inc_eq]
  case cause => rw [ob_put_ne _ _ hcn, ob_put_ne _ _ hcc, ob_put_ne _ _ hchannel, resetNow_lastResetCause]
  case channel => rw [ob_put_ne _ _ hwn, ob_put_ne _ _ hwc, ob_put_self]
  case wake => rw [ob_put_ne _ _ hlast, ob_put_self]

/-- Settles O52: the reset carries over NAND, straps, factory area and, of a module that ran, its lines, which the next boundary switches
off. -/
theorem railFaultResetsWithoutCheckpoint : Obligations.RailFaultResetsWithoutCheckpoint := by
  intro s hrails _ hcommit
  have hraised := resetNow_raised s 6 s.straps []
  have hdue := resetNow_sec s 6 s.straps []
  have hboot := resetNow_phase s 6 s.straps []
  have hafter := after_quiet (s := s) hraised hdue
  have hphase : (after s (resetNow s 6 s.straps [])).phase = .boot 0 := by rw [hafter]; exact (settle_phase _).trans hboot
  have hleaves : Leaves .railFault s (resetNow s 6 s.straps []) := occurs_true (fun s => resetNow s 6 s.straps []) hrails
  refine ⟨_, hleaves, hphase, ?cause, ?nand, ?straps, ?factory, ?wc, after_pending _ _, fun hrun => ?rest, fun hrun => ?stand,
    boundary_restsLines (after_safe _ _) hphase⟩
  case rest => exact after_boot_rests hraised hdue hboot (resetNow_linesHeld hrun)
  case stand =>
    obtain ⟨hheld, hlines⟩ := resetNow_lines_run (cause := 6) (straps := s.straps) (evs := []) hrun
    rw [after_boot_stands hraised hdue hboot hheld]
    exact hlines
  all_goals rw [hafter]
  case cause => exact (settle_ob _ _).trans (resetNow_lastResetCause _ _ _ _)
  case nand => exact (settle_nand _).trans (resetNow_nand hcommit)
  case straps => exact (settle_straps _).trans (resetNow_straps _ _ _ _)
  case factory => exact (settle_factory _).trans (resetNow_factory _ _ _ _)
  case wc => exact (settle_wc _).trans resetNow_wc

end Sys2Proof.Machine
end

section
/-! PROOF. The states that accept a trim (O41, R389), an update (O55, R472) and an erase (O57, R475), what the key refuses (O54, R456), and
the samples by which it counts as asserted (O53, R514). -/
namespace Sys2Proof.Machine

/-! ### The aborts of a command -/

theorem mem_abortUnless (p : Prop) [Decidable p] (c d : Nat) : d ∈ (if p then [] else [c]) ↔ d = c ∧ ¬ p := by
  by_cases h : p <;> simp [h]

theorem mem_abortIf (p : Prop) [Decidable p] (c d : Nat) : d ∈ (if p then [c] else []) ↔ d = c ∧ p := by
  by_cases h : p <;> simp [h]

theorem abortIf_nil_iff_not (p : Prop) [Decidable p] (c : Nat) : (if p then [c] else []) = [] ↔ ¬ p := by
  by_cases h : p <;> simp [h]

/-- Codes that are one abort or none. -/
theorem abortUnless_cases (p : Prop) [Decidable p] (c : Nat) : (if p then [] else [c]) = [] ∨ (if p then [] else [c]) = [c] :=
  Decidable.byCases (fun h => .inl (if_pos h)) (fun h => .inr (if_neg h))

theorem abortIf_cases (p : Prop) [Decidable p] (c : Nat) : (if p then [c] else []) = [] ∨ (if p then [c] else []) = [c] :=
  Decidable.byCases (fun h => .inr (if_pos h)) (fun h => .inl (if_neg h))

/-! ### Trims (R389) -/

/-- The commands but the third meet no range, only the states that they are accepted in. -/
theorem trimCodes_states (s : State) (o : Fin 8) {c : Nat} (hc : c ≠ 3) :
    trimCodes s o c = if !s.inPreop || (c == 2 && trimStatus s o != 2) then [0x00030002] else [] := by
  simp [trimCodes, hc]

/-- The figures of the third are aborted with another code than its states are. -/
theorem mem_trimCodes_three (s : State) (o : Fin 8) :
    0x00030002 ∈ trimCodes s o 3 ↔ (!s.inPreop || trimStatus s o != 4) = true := by
  simp only [trimCodes, List.mem_append, if_true, mem_abortIf, mem_abortUnless]
  simp

/-- Settles O41: TrimStatus stands beside PREOP in the guards of the second and the third command alone. -/
theorem trimCommandsAcceptedIn : Obligations.TrimCommandsAcceptedIn := by
  intro s o
  refine ⟨?start, ?abandon, ?measured, ?keep, fun c hc => ?others⟩
  case keep =>
    rw [mem_trimCodes_three, trimStatus, Decidable.not_and_iff_not_or_not, Bool.or_eq_true, Bool.not_eq_true', Bool.not_eq_true, bne_iff_ne]
  case others =>
    rw [trimCodes_states s o hc]
    exact abortIf_cases _ _
  all_goals rw [trimCodes_states s o (by decide), abortIf_nil_iff_not]
  all_goals simp [trimStatus]

/-! ### Updates (R472) -/

/-- Settles O55: each command's guard is its own branch. -/
theorem updateCommandsAcceptedIn : Obligations.UpdateCommandsAcceptedIn := by
  intro s
  refine ⟨?begin_, ?verify, ?activate, abortIf_nil_iff_not _ _⟩
  case begin_ =>
    simp only [updateCodes, abortIf_nil_iff_not, Bool.or_eq_true, decide_eq_true_eq, not_or, Bool.not_eq_true, commitRuns_eq_false_iff]
    rfl
  case verify =>
    by_cases h : updateState s = 1
    · simp [updateCodes, h, show s.ob Ob.updateUpdateState = 1 from h, Option.isSome_iff_ne_none]
    · simp [updateCodes, h, show s.ob Ob.updateUpdateState ≠ 1 from h]
  case activate =>
    simp only [updateCodes, abortUnless_nil, Bool.and_eq_true, decide_eq_true_eq]
    rfl

/-! ### The erase (R475) -/

/-- An arm counts for 10 s. -/
theorem eraseArmed_iff {s : State} : eraseArmed s = true ↔ ∃ t, s.sec.armAt = some t ∧ s.osc ≤ t + 10000000 := by
  cases h : s.sec.armAt <;> simp [eraseArmed, h]

/-- Settles O57: the one abort of EraseCommand is kept away by PREOP and an arm that counts. -/
theorem eraseNeedsACurrentArm : Obligations.EraseNeedsACurrentArm := by
  intro s
  exact ⟨by rw [eraseCodes, abortUnless_nil, Bool.and_eq_true, eraseArmed_iff], abortUnless_cases _ _⟩

/-! ### The key (R456, R514) -/

/-- Settles O54: of the two aborts of an access from outside, the second is the key's. -/
theorem keyGuardsTheManagementPlane : Obligations.KeyGuardsTheManagementPlane := by
  intro s o idx
  by_cases hfw : o.iface = 0
  · simp [admitCodes, hfw]
  · simp only [admitCodes, hfw, if_false, List.mem_append, mem_abortIf, mem_abortUnless, Bool.and_eq_true, decide_eq_true_eq,
      Bool.not_eq_true', and_assoc]
    simp [hfw]

/-- A sample at or below 1.0 V is low whatever came before it. -/
theorem sampleKey_low {s : State} {v : Nat} (h : FX.le (FX.ofBits32 v) FX.one = true) :
    (sampleKey s v).sec.keyLow = min 10 (s.sec.keyLow + 1) := by
  simp [sampleKey, h]

/-- A sample at or above 2.5 V begins the count again. -/
theorem sampleKey_high {s : State} {v : Nat} (hl : FX.le (FX.ofBits32 v) FX.one = false)
    (hh : FX.lt (FX.ofBits32 v) (FX.ratio 5 2) = false) : (sampleKey s v).sec.keyLow = 0 := by
  simp [sampleKey, hl, hh]

/-- No sample counts for more than one. -/
theorem sampleKey_keyLow_le (s : State) (v : Nat) : (sampleKey s v).sec.keyLow ≤ s.sec.keyLow + 1 := by
  simp only [sampleKey]
  split <;> omega

/-- KeyAsserted says whether the count has reached ten. -/
theorem sampleKey_asserted (s : State) (v : Nat) :
    (sampleKey s v).flag Ob.enableKeyAsserted = decide ((sampleKey s v).sec.keyLow = 10) := by
  have hput : ∀ b, ((s.putFlag Ob.enableKeyAsserted b).ob Ob.enableKeyAsserted != 0) = b := by
    intro b; rw [putFlag_eq, ob_put_self]; cases b <;> rfl
  exact hput _

/-- Behind at least one sample KeyAsserted says whether the count has reached ten. -/
theorem foldl_sampleKey_asserted {l : List Nat} (h : l ≠ []) (s : State) :
    (l.foldl sampleKey s).flag Ob.enableKeyAsserted = decide ((l.foldl sampleKey s).sec.keyLow = 10) := by
  rw [← List.dropLast_concat_getLast h, List.foldl_append]
  exact sampleKey_asserted _ _

/-- Low samples alone count one by one, up to ten. -/
theorem foldl_sampleKey_low {v : Nat} {l : List Nat} (h : ∀ x ∈ v :: l, FX.le (FX.ofBits32 x) FX.one = true) (s : State) :
    ((v :: l).foldl sampleKey s).sec.keyLow = min 10 (s.sec.keyLow + (v :: l).length) := by
  have hv := sampleKey_low (s := s) (h v List.mem_cons_self)
  induction l generalizing v s with
  | nil => exact hv
  | cons w l ih =>
    have hl := fun x hx => h x (List.mem_cons_of_mem v hx)
    rw [List.foldl_cons, ih hl _ (sampleKey_low (hl w List.mem_cons_self)), hv]
    simp only [List.length_cons]
    omega

theorem foldl_sampleKey_keyLow_le (l : List Nat) (s : State) : (l.foldl sampleKey s).sec.keyLow ≤ s.sec.keyLow + l.length := by
  induction l generalizing s with
  | nil => simp
  | cons v l ih =>
    have hstep := sampleKey_keyLow_le s v
    have hrest := ih (sampleKey s v)
    rw [List.foldl_cons, List.length_cons]
    omega

/-- Settles O53: ten low samples bring the count to ten from any figure, and a high one among the last ten leaves at most nine that count. -/
theorem keyNeedsTenLowSamples : Obligations.KeyNeedsTenLowSamples := by
  intro s l hlen
  have hl : l ≠ [] := by rintro rfl; simp at hlen
  have hsplit : l.foldl sampleKey s = (l.drop (l.length - 10)).foldl sampleKey ((l.take (l.length - 10)).foldl sampleKey s) := by
    rw [← List.foldl_append, List.take_append_drop]
  have hten : (l.drop (l.length - 10)).length = 10 := by rw [List.length_drop]; omega
  rw [foldl_sampleKey_asserted hl, decide_eq_true_eq, decide_eq_false_iff_not, hsplit]
  generalize l.drop (l.length - 10) = last at hten
  refine ⟨fun hlow => ?low, fun ⟨v, hv, hnot, hhigh⟩ => ?high⟩
  case low =>
    cases last with
    | nil => simp at hten
    | cons v last => rw [foldl_sampleKey_low hlow, hten]; omega
  case high =>
    obtain ⟨before, behind, rfl⟩ := List.append_of_mem hv
    have hcount := foldl_sampleKey_keyLow_le behind (sampleKey (before.foldl sampleKey ((l.take (l.length - 10)).foldl sampleKey s)) v)
    rw [sampleKey_high hnot hhigh] at hcount
    rw [List.length_append, List.length_cons] at hten
    rw [List.foldl_append, List.foldl_cons]
    omega

end Sys2Proof.Machine
end

section
/-! PROOF. Fault masking (R482–R487): what each fault makes of a state in which it occurs (O58), the saved counters (O59, R493), and the
encoder supply pins (O60, R506). -/
namespace Sys2Proof.Machine

/-! ### Faults (R482–R487) -/

/-- A masked fault is noted in the supply's account and may lapse condition E: the pairs do not hear of it. -/
theorem maskedFault_pairs (s : State) (before after : Nat) : (maskedFault s before after).pairs = s.pairs := by
  simp only [maskedFault]
  split <;> rfl

theorem pairRetry_maskedFault (s : State) (before after : Nat) (p : Pair) : pairRetry (maskedFault s before after) p = pairRetry s p := by
  cases p <;> simp only [pairRetry, maskedFault_pairs]

section
variable {s : State} (hup : pairUp s .app = true)
include hup

/-- While others work a failed parcel engine is masked (R482). -/
theorem parcelEngineFails_masked (h : 1 < s.ob Ob.modelEnginesWorking) :
    parcelEngineFails s =
      maskedFault ((s.put Ob.modelEnginesWorking (s.ob Ob.modelEnginesWorking - 1)).inc Ob.faultParcelEngineFaults) 0 50 := by
  have hworks : ¬ (pairUp s .app = false ∨ s.ob Ob.modelEnginesWorking = 0) := by simp [hup]; omega
  rw [parcelEngineFails, if_neg hworks, if_neg (by omega)]

/-- The last one is not. -/
theorem parcelEngineFails_last (h : s.ob Ob.modelEnginesWorking = 1) :
    parcelEngineFails s = beyondMasking (maskedFault ((s.put Ob.modelEnginesWorking 0).inc Ob.faultParcelEngineFaults) 0 50) 1 := by
  have hworks : ¬ (pairUp s .app = false ∨ s.ob Ob.modelEnginesWorking = 0) := by simp [hup, h]
  rw [parcelEngineFails, if_neg hworks, if_pos h, h]
end

/-- A retry of a pair is counted and noted. -/
def retried (s : State) (p : Pair) : State :=
  match p with
  | .app => { s.inc Ob.faultAppLockstepRetries with pairs := { s.pairs with appRetry := true } }
  | .mgmt => { s.inc Ob.faultMgmtLockstepRetries with pairs := { s.pairs with mgmtRetry := true } }

section
variable {s : State} {p : Pair} (hup : pairUp s p = true) (hdown : pairDown s p = false)
include hup hdown

/-- A mismatch of a pair that has had none since its last checkpoint is retried (R483). -/
theorem lockstep_retries {checkpointed : Bool} (h : pairRetry s p = false ∨ checkpointed = true) :
    lockstep s p checkpointed = retried (maskedFault s 0 60) p := by
  have hnew : ¬ (pairRetry (maskedFault s 0 60) p && !checkpointed) = true := by
    rw [pairRetry_maskedFault]
    rcases h with h | h <;> simp [h]
  rw [lockstep, if_neg (by simp [hup, hdown])]
  simp only [if_neg hnew]
  cases p <;> rfl

/-- A second one restarts the pair. -/
theorem lockstep_restarts (h : pairRetry s p = true) : lockstep s p false = pairRestart (maskedFault s 0 60) p := by
  have hagain : (pairRetry (maskedFault s 0 60) p && !false) = true := by rw [pairRetry_maskedFault, h]; rfl
  rw [lockstep, if_neg (by simp [hup, hdown])]
  exact if_pos hagain
end

/-- A fault beyond masking is reported once (R487). -/
theorem faultFound_new {s : State} {b : Nat} (h : s.stBit Ob.faultFaultStatus b = false) : faultFound s b = beyondMasking s b := by
  rw [faultFound, h]; rfl

/-- The four faults beyond masking that are named by a bit of FaultStatus. -/
theorem internalFault_named {s : State} {k : InternalKind} {b : Nat} (hp : s.phase = .run)
    (hk : (k, b) ∈ [(InternalKind.noLoopEngine, 0), (.noParcelEngine, 1), (.link, 2), (.recordLost, 3)]) :
    internalFault s k = faultFound s b := by
  simp only [List.mem_cons, Prod.mk.injEq, List.not_mem_nil, or_false] at hk
  refine (if_neg (not_not_intro hp)).trans ?_
  obtain ⟨rfl, rfl⟩ | ⟨rfl, rfl⟩ | ⟨rfl, rfl⟩ | ⟨rfl, rfl⟩ := hk <;> rfl

/-- When a pair that is down went down. -/
def downSince (s : State) (p : Pair) : Nat := match p with | .app => s.pairs.appDownAt | .mgmt => s.pairs.mgmtDownAt

/-- A restart that lasts 5 s resets the module. -/
theorem internalFault_overrun {s : State} {p : Pair} (hp : s.phase = .run) (hd : pairDown s p = true)
    (h : downSince s p + 5000000 ≤ s.osc) : internalFault s (.restartOverrun p) = internalReset s p :=
  (if_neg (not_not_intro hp)).trans (if_pos (by rw [hd, Bool.true_and]; exact decide_eq_true h))

/-- Settles O58: each fault is its effect followed by the shared end of commands, and its guard is the statement's hypothesis. -/
theorem faultCommandsComplete : Obligations.FaultCommandsComplete := by
  refine ⟨?engine, ?lastEngine, ?retry, ?restart, ?done, ?uncorrectable, ?fault, ?overrun, ?save⟩
  case engine => exact fun s hup h => leaves_of_finish rfl (parcelEngineFails_masked hup h)
  case lastEngine => exact fun s hup h => leaves_of_finish rfl (parcelEngineFails_last hup h)
  case retry => exact fun p b s hup hdown h => leaves_of_finish rfl ((lockstep_retries hup hdown h).trans (by cases p <;> rfl))
  case restart => exact fun p s hup hdown h => leaves_of_finish rfl (lockstep_restarts hup hdown h)
  case done => exact fun p s _ _ => leaves_of_finish rfl rfl
  case uncorrectable => exact fun m s _ => leaves_of_finish rfl rfl
  case fault => exact fun k b s hp hk h => leaves_of_finish rfl ((internalFault_named hp hk).trans (faultFound_new h))
  case overrun => exact fun p s hp hd h => leaves_of_finish rfl (internalFault_overrun hp hd (by cases p <;> exact h))
  case save => exact fun s hp hd h => leaves_of_finish rfl (if_pos ⟨hp, hd, h⟩)

/-! ### The saved counters (R493) -/

/-- A list of the counts that are not 0 tells each count. -/
theorem lookCell_counts (f : Nat → Nat) (keys : List Nat) {k : Nat} (hk : k ∈ keys) :
    (lookCell (keys.filterMap (fun k => if f k = 0 then none else some (k, f k))) k).getD 0 = f k := by
  have hall (l : List Nat) : (lookCell (l.filterMap (fun k => if f k = 0 then none else some (k, f k))) k).getD 0 =
      if k ∈ l then f k else 0 := by
    induction l with
    | nil => rfl
    | cons j l ih =>
      by_cases hzero : f j = 0
      · rw [List.filterMap_cons, if_pos hzero]
        refine ih.trans ?_
        by_cases hj : k = j
        · subst hj; simp [hzero]
        · simp [hj]
      · rw [List.filterMap_cons, if_neg hzero, lookCell]
        split
        · next hj => subst hj; simp
        · next hj => simp [ih, Ne.symm hj]
  rw [hall keys, if_pos hk]

/-- Settles O59: nothing but NAND's counters and the note of the save changes, and the running module keeps it as it is. -/
theorem counterSaveKeepsEveryCount : Obligations.CounterSaveKeepsEveryCount := by
  intro s hs hmgmt hdue
  have hready : Ready ((saveCounters s).ran .counterSave 60000000) := hs
  have hleaves : Leaves .counterSave s ((saveCounters s).ran .counterSave 60000000) :=
    leaves_of_finish rfl (if_pos ⟨hs.1, hmgmt, hdue⟩)
  exact ⟨_, hleaves.trans (congrArg _ (after_ready hready rfl)), fun k hk => lookCell_counts s.ob nandKeys hk, rfl⟩

/-! ### The encoder supply pins (R506) -/

theorem railsUp_of_run {s : State} (hp : s.phase = .run) : railsUp s = true := by simp [railsUp, powered, hp]

/-- Settles O60: the pin's entry alone is set, and the running module keeps it as it is. -/
theorem encoderSupplyCommandsComplete : Obligations.EncoderSupplyCommandsComplete := by
  intro k s hs
  have hrails := railsUp_of_run hs.1
  refine ⟨fun hon => ⟨encLimit s k, ?limit, ?off, ?time, ?others, rfl⟩,
    fun hoff hsecond => ⟨encRetry s k, ?retry, ?on, ?retried, ?others', rfl⟩⟩
  case limit =>
    exact (occurs_true (fun s => encLimit s k) (by rw [hrails, hon]; rfl)).trans (congrArg _ (after_ready hs rfl))
  case retry =>
    have hdue : encRetryDue s k = true := by rw [encRetryDue, hoff, decide_eq_true hsecond]; rfl
    exact (occurs_true (fun s => encRetry s k) (by rw [hrails, hdue]; rfl)).trans (congrArg _ (after_ready hs rfl))
  case others | others' => exact fun j hj => Vector.getElem_set_ne k.isLt j.isLt (fun h => hj (Fin.ext h.symm))
  all_goals simp [encLimit, encRetry]

end Sys2Proof.Machine
end

section
/-! PROOF. Current loops, RTD inputs and trims (R377–R391): what their events and writes make of a state in which they occur (O40). -/
namespace Sys2Proof.Machine

/-! ### Conversion windows, NOTACH and OPENLOOP -/

/-- The window of an enabled current-loop input that has ended is converted. -/
theorem converted_ai {s : State} {a : Fin 16} (hon : s.flag (Ob.aiEnable a) = true) (hend : s.ai[a].win.endAt ≤ s.osc) (r : Word) :
    converted s (.ai a r) = aiConverted s a r.toNat :=
  if_pos (by rw [hon, windowEnded, decide_eq_true hend]; rfl)

/-- An enabled RTD input is excited while the module runs. -/
theorem rtExcitation_ne_zero {s : State} {c : Fin 8} (hp : s.phase = .run) (hon : s.flag (Ob.rtEnable c) = true) : rtExcitation s c ≠ 0 := by
  rw [rtExcitation, hp, hon]
  simp only [beq_self_eq_true, Bool.and_self, if_true]
  split <;> decide

/-- The window of an excited RTD input that has ended is converted. -/
theorem converted_rt {s : State} {c : Fin 8} (hp : s.phase = .run) (hon : s.flag (Ob.rtEnable c) = true) (hend : s.rt[c].win.endAt ≤ s.osc)
    (o l : Word) (a b : Bool) : converted s (.rt c o l a b) = rtConverted s c o.toNat l.toNat a b :=
  if_pos (by rw [bne_iff_ne.mpr (rtExcitation_ne_zero hp hon), windowEnded, decide_eq_true hend]; rfl)

/-- A window within the ratings leaves its conversion. -/
theorem conversionWindow_leaves {s t : State} {r : Conversion} (hp : s.phase = .run) (hrated : readingBeyond s r = false)
    (ht : converted s r = t) : Leaves (.conversionWindow r) s t :=
  (if_neg (Bool.eq_false_iff.mp hrated)).trans (ht ▸ occurs_true (fun s => converted s r) (running_of_phase hp))

/-- NOTACH is set after three short ticks. -/
theorem notachDue_set {s : State} {o : Fin 8} (hb : aoBit s o 1 = false) (h : 3 ≤ s.ao[o].shortTicks) : notachDue s o = some true := by
  rw [notachDue, hb]
  exact if_pos h

/-- It is cleared after three ticks without one. -/
theorem notachDue_clear {s : State} {o : Fin 8} (hb : aoBit s o 1 = true) (h : 3 ≤ s.ao[o].clearTicks) : notachDue s o = some false := by
  rw [notachDue, hb]
  exact if_pos h

/-- NOTACH set is counted. -/
theorem notachChange_set (s : State) (o : Fin 8) :
    notachChange s o true = aoRaise ((setAoBit s o 1 true).inc (Ob.aoNotAchCount o)) o 1 := by
  simp only [notachChange, if_true]

theorem notachChange_clear (s : State) (o : Fin 8) : notachChange s o false = aoRaise (setAoBit s o 1 false) o 2 := by
  simp only [notachChange, Bool.false_eq_true, if_false]

/-- A change of NOTACH that is due leaves what it makes. -/
theorem aoNotach_leaves {s t : State} {o : Fin 8} {v : Bool} (hp : s.phase = .run) (h : notachDue s o = some v)
    (ht : notachChange s o v = t) : Leaves (.aoNotach o) s t :=
  leaves_of_finish rfl ((if_pos (running_of_phase hp)).trans (by simp only [h, ht]))

theorem openLoopDue_iff {s : State} {o : Fin 8} :
    openLoopDue s o = true ↔ aoBit s o 5 = false ∧ s.ao[o].lowSince ≠ 0 ∧ s.ao[o].lowSince + 100000 ≤ s.osc := by
  simp only [openLoopDue, Bool.and_eq_true, Bool.not_eq_true', bne_iff_ne, decide_eq_true_eq, and_assoc]

theorem overTempRetryDue_iff {s : State} {o : Fin 8} :
    overTempRetryDue s o = true ↔ aoBit s o 6 = true ∧ s.ao[o].overAt + 1000000 ≤ s.osc := by
  simp only [overTempRetryDue, Bool.and_eq_true, decide_eq_true_eq]

/-- The events of the current loops and the RTD inputs. -/
theorem analogCommandsComplete : Parts.AnalogCommandsComplete := by
  refine ⟨?ai, ?rt, ?confirm, ?notach, ?tach, ?open_, ?hot, ?retry⟩
  case ai => exact fun a r s hp hon hend hrated => conversionWindow_leaves hp hrated (converted_ai hon hend r)
  case rt => exact fun c o l a b s hp hon hend => conversionWindow_leaves hp rfl (converted_rt hp hon hend o l a b)
  case confirm =>
    intro a c s v hp hon hdue
    exact leaves_of_finish rfl ((if_pos (by rw [running_of_phase hp, hon]; rfl)).trans (by simp only [condApply, hdue]))
  case notach => exact fun o s hp hb h => aoNotach_leaves hp (notachDue_set hb h) (notachChange_set s o)
  case tach => exact fun o s hp hb h => aoNotach_leaves hp (notachDue_clear hb h) (notachChange_clear s o)
  case open_ =>
    exact fun o s hp hb hlow hlong =>
      occurs_true (fun s => openLoop s o) (by rw [running_of_phase hp, openLoopDue_iff.mpr ⟨hb, hlow, hlong⟩]; rfl)
  case hot => exact fun o s hp hb => occurs_true (fun s => overTemp s o) (by rw [running_of_phase hp, hb]; rfl)
  case retry =>
    exact fun o s hp hb h => occurs_true (fun s => overTempRetry s o) (by rw [running_of_phase hp, overTempRetryDue_iff.mpr ⟨hb, h⟩]; rfl)

/-! ### The trim (R389) -/

/-- The figure measured at the low drive is the first of the two. -/
theorem trimMeasuredEff_low {s : State} {o : Fin 8} (h : s.ob (Ob.aoTrimStatus o) = 1) (w : Nat) :
    trimMeasuredEff o w s =
      (let t := (s.put (Ob.aoTrimMeasured o) w).put (Ob.aoTrimStatus o) 2
       { t with ao := t.ao.set o { t.ao[o] with m1 := w } }) := by
  simp only [trimMeasuredEff, trimStatus, h]
  rfl

/-- The figure measured at the high drive is the second. -/
theorem trimMeasuredEff_high {s : State} {o : Fin 8} (h : s.ob (Ob.aoTrimStatus o) = 3) (w : Nat) :
    trimMeasuredEff o w s =
      (let t := (s.put (Ob.aoTrimMeasured o) w).put (Ob.aoTrimStatus o) 4
       { t with ao := t.ao.set o { t.ao[o] with m2 := w } }) := by
  simp only [trimMeasuredEff, trimStatus, h]
  rfl

/-- The four commands and the measured figure. -/
theorem trimCommandsComplete : Parts.TrimCommandsComplete := by
  refine ⟨?low, ?high, ?apply, ?cancel, ?first, ?second⟩
  case low | high | apply | cancel => exact fun x o s => writes_of_writeOf rfl
  case first => exact fun x o v s h ha => leaves_of_writeOf rfl ha (trimMeasuredEff_low h v.toNat)
  case second => exact fun x o v s h ha => leaves_of_writeOf rfl ha (trimMeasuredEff_high h v.toNat)

/-- Settles O40: each event leaves its effect where it occurs, and each command of the trim is one object's write. -/
theorem analogAndTrimCommandsComplete : Obligations.AnalogAndTrimCommandsComplete := ⟨analogCommandsComplete, trimCommandsComplete⟩

end Sys2Proof.Machine
end

section
/-! PROOF. The fans (R398–R405): a reset of a channel with nothing latched (O42), and what the other commands of the fans and the tachometers
make of a state in which they occur (O43). -/
namespace Sys2Proof.Machine

/-! ### The reset of a fan (R402, R403) -/

/-- FanStatus, FaultCause and the learned pair as a reset leaves them. -/
def fanObjsReset (s : State) (f : Fin 8) : State :=
  ([3, 4, 5, 6].foldl (fun s b => setFanBit s f b false) s).puts
    [(Ob.fanFaultCause f, 0), (Ob.fanLearnedVoltage f, 0), (Ob.fanLearnedCurrent f, 0)]

/-- What a reset makes of a channel with nothing latched. -/
def fanCleared (s : State) (f : Fin 8) : State :=
  setFan (fanObjsReset s f) f { (fanObjsReset s f).fans[f] with learnAt := 0, overRuns := 0, retryAt := 0 }

theorem fanResetEff_unlatched {s : State} {f : Fin 8} (h3 : fanBit s f 3 = false) (h4 : fanBit s f 4 = false) (h5 : fanBit s f 5 = false) :
    fanResetEff f s = fanCleared s f :=
  if_neg (by rw [h3, h4, h5]; decide)

/-- Bits that are cleared change objects alone. -/
theorem foldl_setFanBit_eq (f : Fin 8) (bs : List Nat) (s : State) :
    ∃ o, bs.foldl (fun s b => setFanBit s f b false) s = { s with objs := o } := by
  induction bs generalizing s with
  | nil => exact ⟨s.objs, rfl⟩
  | cons b bs ih => exact ih (setFanBit s f b false)

/-- The four objects and the fan's account are all that is written. -/
theorem fanCleared_eq (s : State) (f : Fin 8) :
    ∃ o, fanCleared s f = { s with objs := o, fans := s.fans.set f { s.fans[f] with learnAt := 0, overRuns := 0, retryAt := 0 } } := by
  obtain ⟨_, hbits⟩ := foldl_setFanBit_eq f [3, 4, 5, 6] s
  obtain ⟨o, hputs⟩ := foldl_put_eq [(Ob.fanFaultCause f, 0), (Ob.fanLearnedVoltage f, 0), (Ob.fanLearnedCurrent f, 0)]
    ([3, 4, 5, 6].foldl (fun s b => setFanBit s f b false) s)
  have hobjs : fanObjsReset s f = { s with objs := o } := by rw [fanObjsReset, State.puts, hputs, hbits]
  exact ⟨o, by rw [fanCleared, hobjs]; rfl⟩

/-- A bit that is cleared, and then others, reads clear. -/
theorem foldl_setFanBit_bit (f : Fin 8) (bs : List Nat) (s : State) (b : Nat) :
    fanBit (bs.foldl (fun s b => setFanBit s f b false) s) f b = (fanBit s f b && !bs.contains b) := by
  induction bs generalizing s with
  | nil => simp
  | cons c bs ih =>
    have hput : fanBit (setFanBit s f c false) f b = bit (setBit (s.ob (Ob.fanFanStatus f)) c false) b := by
      simp only [fanBit, setFanBit, State.stBit, putBit_eq, ob_put_self]
    rw [List.foldl_cons, ih, hput]
    by_cases h : b = c
    · subst h; simp
    · rw [bit_setBit_ne _ _ h]
      simp [h, fanBit, State.stBit]

/-- The keys of a fan's objects differ. -/
theorem fanKeys_ne (f : Fin 8) :
    [Ob.fanFanStatus f, Ob.fanFaultCause f, Ob.fanLearnedVoltage f, Ob.fanLearnedCurrent f].Nodup := by
  revert f; decide

theorem fanObjsReset_ob (s : State) (f : Fin 8) (k : Nat) :
    (fanObjsReset s f).ob k =
      if k = Ob.fanLearnedCurrent f then 0 else if k = Ob.fanLearnedVoltage f then 0 else if k = Ob.fanFaultCause f then 0
      else ([3, 4, 5, 6].foldl (fun s b => setFanBit s f b false) s).ob k := by
  simp only [fanObjsReset, State.puts, List.foldl_cons, List.foldl_nil, ob_put]

/-- Every other object reads as before. -/
theorem fanObjsReset_other (s : State) (f : Fin 8) {k : Nat}
    (hk : k ∉ [Ob.fanFanStatus f, Ob.fanFaultCause f, Ob.fanLearnedVoltage f, Ob.fanLearnedCurrent f]) :
    (fanObjsReset s f).ob k = s.ob k := by
  simp only [List.mem_cons, List.not_mem_nil, or_false, not_or] at hk
  obtain ⟨hstatus, hcause, hvoltage, hcurrent⟩ := hk
  rw [fanObjsReset_ob, if_neg hcurrent, if_neg hvoltage, if_neg hcause]
  exact foldl_keeps (·.ob k) (fun s b => ob_put_ne s _ hstatus) _ s

/-- FAULT, OVERLOAD, TACHFAULT and LEARNED read clear. -/
theorem fanObjsReset_bit (s : State) (f : Fin 8) {b : Nat} (hb : b ∈ [3, 4, 5, 6]) : fanBit (fanObjsReset s f) f b = false := by
  have hkeys := fanKeys_ne f
  simp only [List.nodup_cons, List.mem_cons, List.not_mem_nil, or_false, not_or] at hkeys
  obtain ⟨⟨hcause, hvoltage, hcurrent⟩, -⟩ := hkeys
  have hstatus : fanBit (fanObjsReset s f) f b = fanBit ([3, 4, 5, 6].foldl (fun s b => setFanBit s f b false) s) f b := by
    rw [fanBit, State.stBit, fanObjsReset_ob, if_neg hcurrent, if_neg hvoltage, if_neg hcause]; rfl
  rw [hstatus, foldl_setFanBit_bit, List.contains_iff_mem.mpr hb]
  exact Bool.and_false _

/-- Settles O42: without a latch the effect writes the four objects and the fan's account, and raises nothing, so that only the record
of the write is staged beside it. -/
theorem fanResetFrame : Obligations.FanResetFrame := by
  intro x f s hready h3 h4 h5 ha
  obtain ⟨o, ho⟩ := fanCleared_eq s f
  have hready' : Ready (fanCleared s f) := by rw [ho]; exact hready
  have ⟨_, _, hraised⟩ := hready'
  have hplace : placesUsed (fanCleared s f) < 768 := by rw [ho]; exact ha.1.placesUsed_lt
  have hrec := recordWrite_eq (writeReq x (Ob.fanFanReset f) .u8 [1]) (oldBytes s (Ob.fanFanReset f / 256) (Ob.fanFanReset f % 256))
    hraised hplace
  generalize writeRec (fanCleared s f) _ _ _ _ _ _ _ _ = r at hrec
  have hleaves := leaves_of_writeOf (c := .fanReset x f) rfl ha (fanResetEff_unlatched h3 h4 h5)
  have hafter : after s (stage (fanCleared s f) r) = stage (fanCleared s f) r :=
    after_ready (ready_withStore hready' _ _) (by rw [ho]; rfl)
  refine ⟨stage (fanCleared s f) r, hleaves.trans (congrArg _ ((congrArg (after s) hrec).trans hafter)), ?rest⟩
  have hobs (k : Nat) : (stage (fanCleared s f) r).ob k = (fanObjsReset s f).ob k := (stage_ob _ r k).trans (ob_of_objs rfl k)
  refine ⟨fun b hb => ?bits, ?cause, ?voltage, ?current, fun k hk => ?objects, fun g hg => ?fans, ?applied, ?frame⟩
  case bits => exact (congrArg (bit · b) (hobs _)).trans (fanObjsReset_bit s f hb)
  case cause | voltage | current => rw [hobs, fanObjsReset_ob]; simp
  case objects => exact (hobs k).trans (fanObjsReset_other s f hk)
  all_goals rw [stage, ho]
  case fans => exact Vector.getElem_set_ne f.isLt g.isLt (fun h => hg (Fin.ext h.symm))
  case applied => simp

/-! ### The other commands of the fans (R399, R401, R403) -/

/-- A kick that did not prove leaves what a failed kick makes. -/
theorem fanKickTimeout_leaves {s : State} {f : Fin 8} {k : Nat} (hp : s.phase = .run) (h : kickExpired s f = some k) :
    Leaves (.fanKickTimeout f) s (kickFailed s f k) :=
  leaves_of_finish rfl ((if_pos (running_of_phase hp)).trans (by simp only [h]))

/-- A kick that is due begins. -/
theorem fanRetry_leaves {s : State} {f : Fin 8} {k : Nat} (hp : s.phase = .run) (h : retryKick s f = some k) :
    Leaves (.fanRetry f) s (fanApply (beginKick s f k) f) :=
  leaves_of_finish rfl ((if_pos (running_of_phase hp)).trans (by simp only [h]))

theorem overloadRetryDue_iff {s : State} {f : Fin 8} :
    overloadRetryDue s f = true ↔ fanBit s f 4 = true ∧ fanBit s f 3 = false ∧ s.fans[f].overAt + 1000000 ≤ s.osc := by
  simp only [overloadRetryDue, Bool.and_eq_true, Bool.not_eq_true', decide_eq_true_eq, and_assoc]

theorem fanCommandsOfTheChannelComplete : Parts.FanCommandsComplete := by
  refine ⟨?regulate, fun f s k => fanKickTimeout_leaves, fun f s k => fanRetry_leaves, ?stall, ?overload, ?retry,
    fun x f s => writes_of_writeOf rfl, ?learn⟩
  case regulate =>
    exact fun f s hp hr hd => occurs_true (fun s => fanApply (regulate (s.ran (.fanSpeed f) 10000) f) f)
      (by rw [running_of_phase hp, hr, hd]; rfl)
  case stall => exact fun f s hp h => occurs_true (fun s => fanStalls s f) (by rw [running_of_phase hp, h]; rfl)
  case overload => exact fun f s hp hon hb => occurs_true (fun s => fanOverload s f) (by rw [running_of_phase hp, hon, hb]; rfl)
  case retry =>
    exact fun f s hp hover hfault h =>
      occurs_true (fun s => fanOverloadRetry s f) (by rw [running_of_phase hp, overloadRetryDue_iff.mpr ⟨hover, hfault, h⟩]; rfl)
  case learn => exact fun f s hp h => occurs_true (fun s => learnEnd s f) (by rw [running_of_phase hp, h]; rfl)

/-! ### Tachometers (R398, R404, R405) -/

theorem judgeDue_iff {s : State} {f : Fin 8} :
    judgeDue s f = true ↔ s.ob (Ob.fanTachPulses f) ≠ 0 ∧ fanBit s f 8 = true ∧ s.fans[f].lossAt + 500000 ≤ s.osc := by
  simp only [judgeDue, hasTach, Bool.and_eq_true, bne_iff_ne, decide_eq_true_eq, and_assoc]

theorem lagDue_iff {s : State} {f : Fin 8} :
    lagDue s f = true ↔ s.ob (Ob.fanTachPulses f) ≠ 0 ∧ s.fans[f].lagSince ≠ 0 ∧ s.fans[f].lagSince + 3000000 ≤ s.osc := by
  simp only [lagDue, hasTach, Bool.and_eq_true, bne_iff_ne, decide_eq_true_eq, and_assoc]

/-- A shortfall that is not yet reported is reported. -/
theorem fanNotach_new {s : State} {f : Fin 8} (h : fanBit s f 2 = false) : fanNotach s f true = fanRaise (setFanBit s f 2 true) f 5 :=
  if_neg (by rw [h]; decide)

theorem tachCommandsComplete : Parts.TachCommandsComplete := by
  refine ⟨?edge, ?loss, ?judge, ?timeout⟩
  case edge => exact fun f off s hp => occurs_true (fun s => tachEdge (reach s off) f) (running_of_phase hp)
  case loss => exact fun f s hp h => occurs_true (fun s => tachLost s f) (by rw [running_of_phase hp, h]; rfl)
  case judge =>
    exact fun f s hp htach hlost h =>
      occurs_true (fun s => tachJudge s f) (by rw [running_of_phase hp, judgeDue_iff.mpr ⟨htach, hlost, h⟩]; rfl)
  case timeout =>
    intro f s hp htach hlag h hb
    have hdue : (running s && lagDue s f) = true := by rw [running_of_phase hp, lagDue_iff.mpr ⟨htach, hlag, h⟩]; rfl
    exact fanNotach_new hb ▸ occurs_true (fun s => fanNotach s f true) hdue

/-- Settles O43: each event leaves its effect where it occurs, and the reset is the write of one object. -/
theorem fanCommandsComplete : Obligations.FanCommandsComplete := ⟨fanCommandsOfTheChannelComplete, tachCommandsComplete⟩

end Sys2Proof.Machine
end

section
/-! PROOF. The supplies (R420–R425, R432): what a loss, a return, an overvoltage, the hold-up and its daily test make of a state in which
they occur (O47). -/
namespace Sys2Proof.Machine

/-! ### Losses and returns (R420–R423) -/

/-- A bit of SupplyStatus is not Source. -/
theorem sourceOf_setSupplyBit (s : State) (b : Nat) (v : Bool) : sourceOf (setSupplyBit s b v) = sourceOf s :=
  ob_put_ne s _ (by decide)

section
variable {s : State} (hp : powered s = true)
include hp

theorem not_unpowered : ¬ (!powered s) = true := by simp [hp]

/-- A loss of VM of a module that VM does not supply is only noted. -/
theorem vmFail_unused (b : Bool) (h : sourceOf s ≠ 0) : vmFail s b = setSupplyBit s 1 false :=
  (if_neg (not_unpowered hp)).trans (if_pos (by rwa [sourceOf_setSupplyBit]))

section
variable (h : sourceOf (setSupplyBit s 1 false) = 0)
include h

/-- With VB there it takes over. -/
theorem vmFail_switches (b : Bool) (hvb : supplyBit (setSupplyBit s 1 false) 2 = true) :
    vmFail s b = switchSource (maskedFault (setSupplyBit s 1 false) 100 0) 1 [] :=
  (if_neg (not_unpowered hp)).trans ((if_neg (not_not_intro h)).trans (if_pos hvb))

/-- Without VB the module is on its store. -/
theorem vmFail_holdup (b : Bool) (hvb : supplyBit (setSupplyBit s 1 false) 2 = false) :
    vmFail s b = enterHoldup (setSupplyBit s 1 false) b [] :=
  (if_neg (not_unpowered hp)).trans ((if_neg (not_not_intro h)).trans (if_neg (Bool.eq_false_iff.mp hvb)))
end

/-- VM is the source again where VB was. -/
theorem vmGood_switches (h : sourceOf (setSupplyBit s 1 true) = 1) : vmGood s = switchSource (setSupplyBit s 1 true) 0 [] :=
  (if_neg (not_unpowered hp)).trans (if_pos h)

theorem vmGood_notes (h : sourceOf (setSupplyBit s 1 true) ≠ 1) : vmGood s = setSupplyBit s 1 true :=
  (if_neg (not_unpowered hp)).trans (if_neg h)

/-- A loss of VB that was there is reported, out of its range, and takes the source with it where VB supplied the module. -/
theorem vbLost_eq (hvb : supplyBit s 2 = true) (a b : Bool) :
    vbLost s a b =
      (let t := rangeE (setSupplyBit s 2 false) (.supply 1) true
       if sourceOf t ≠ 1 then coreRaises t [(135, 0)]
       else if a then switchSource (maskedFault t 100 0) 0 [(135, 0)] else enterHoldup t b [(135, 0)]) := by
  rw [vbLost, if_neg (not_unpowered hp), if_pos hvb]

theorem vbAvailable_new (hvb : supplyBit s 2 = false) :
    vbAvailable s = coreRaises (lowEnds (setSupplyBit s 2 true) (.supply 1) (s.ob Ob.supplyVbVoltage)) [(135, 1)] :=
  if_neg (by rw [hp, hvb]; decide)
end

/-! ### Hold-up (R424, R425, R462) -/

section
variable {s : State} (hr : railsUp s = true) (hs : sourceOf s = 2)
include hr hs

/-- A supply that returns in hold-up is the source again, and a Winter entry that the warning met is abandoned (R432). -/
theorem holdupReturn_eq {t : State} (ht : powerFailEnds s = t) (vm : Bool) :
    holdupReturn s vm =
      (let u := raise (setSupplyBit (takeSource t (if vm = true then 0 else 1)) 3 false) 137 (if vm = true then 0 else 1)
       if s.winter.stage = 0 then u else abandonWinter u 2 []) := by
  subst ht
  rw [holdupReturn, if_pos ⟨hr, hs⟩]
  simp only [bne_iff_ne, ne_eq, ite_not]

/-- Where the store is sound, the records staged since the warning are written before the power is off. -/
theorem holdupEnd_sound {t : State} (hb : supplyBit s 6 = false) (ht : powerFailEnds s = t) :
    holdupEnd s = powerOff (if chains t = true then flushJournal t else t) 1 := by
  subst ht
  refine (if_pos ⟨hr, hs⟩).trans ?_
  simp only [hb, Bool.false_eq_true, if_false, lastRecords]

/-- With HOLDUPFAULT nothing more is written. -/
theorem holdupEnd_faulty (hb : supplyBit s 6 = true) : holdupEnd s = powerOff s 1 := by
  refine (if_pos ⟨hr, hs⟩).trans ?_
  simp only [hb, if_true]
end

/-- Settles O47: each command is its effect followed by the shared end of commands, and its branch is the statement's hypothesis. -/
theorem supplyCommandsComplete : Obligations.SupplyCommandsComplete := by
  refine ⟨?vmUnused, ?vmSwitches, ?vmHoldup, ?vmBack, ?vmNoted, ?vbLost, ?vbBack, ?overvolt, ?returns, ?returnsWarned, ?endWarned, ?endSound,
    ?endFaulty, ?test⟩
  case vmUnused => exact fun b s hp h => leaves_of_finish rfl (vmFail_unused hp b h)
  case vmSwitches => exact fun b s hp h hvb => leaves_of_finish rfl (vmFail_switches hp h b hvb)
  case vmHoldup => exact fun b s hp h hvb => leaves_of_finish rfl (vmFail_holdup hp h b hvb)
  case vmBack => exact fun s hp h => leaves_of_finish rfl (vmGood_switches hp h)
  case vmNoted => exact fun s hp h => leaves_of_finish rfl (vmGood_notes hp h)
  case vbLost =>
    intro a b s hp hvb t
    have hlost (a : Bool) := vbLost_eq hp hvb a b
    refine ⟨fun h => ⟨leaves_of_finish rfl ((hlost true).trans ?_), leaves_of_finish rfl ((hlost false).trans ?_)⟩,
      fun h => leaves_of_finish rfl ((hlost a).trans (if_pos h))⟩
    · exact (if_neg (not_not_intro h)).trans (if_pos rfl)
    · exact (if_neg (not_not_intro h)).trans (if_neg Bool.false_ne_true)
  case vbBack => exact fun s hp hvb => leaves_of_finish rfl (vbAvailable_new hp hvb)
  case overvolt => exact fun k v s h => leaves_of_finish (if_neg (Bool.eq_false_iff.mp h)) rfl
  case returns => exact fun vm s hr hs h => leaves_of_finish rfl (holdupReturn_eq hr hs (powerFailEnds_self h) vm)
  case returnsWarned => exact fun vm s r hr hs h hk => leaves_of_finish rfl (holdupReturn_eq hr hs (powerFailEnds_some h hk) vm)
  case endWarned => exact fun s r hr hs hb h hk => leaves_of_finish rfl (holdupEnd_sound hr hs hb (powerFailEnds_some h hk))
  case endSound => exact fun s hr hs hb h => leaves_of_finish rfl (holdupEnd_sound hr hs hb (powerFailEnds_self h))
  case endFaulty => exact fun s hr hs hb => leaves_of_finish rfl (holdupEnd_faulty hr hs hb)
  case test => exact fun c s hp hs h => leaves_of_finish rfl (if_pos ⟨hp, hs, h⟩)

end Sys2Proof.Machine
end

section
/-! PROOF. What events leave alone, for every part of the state that they do not write: one lemma per step of raising and routing
(R78–R81, R116–R120), from which NAND and the supplies stand over all of them. -/
namespace Sys2Proof.Machine

/-- A part of the state that is made of none of the fields which raising and routing write. -/
structure Spared {β : Type} (p : State → β) : Prop where
  objs : ∀ s x, p { s with objs := x } = p s
  router : ∀ s x, p { s with router := x } = p s
  staging : ∀ s x, p { s with staging := x } = p s
  check : ∀ s x, p { s with check := x } = p s
  entries : ∀ s x, p { s with entries := x } = p s
  cache : ∀ s x, p { s with cache := x } = p s
  pinned : ∀ s x, p { s with pinned := x } = p s
  badChans : ∀ s x, p { s with badChans := x } = p s
  loops : ∀ s x, p { s with loops := x } = p s
  samples : ∀ s x y z, p { s with service := x, queue := y, loops := z } = p s
  traces : ∀ s x, p { s with traces := x } = p s
  bus : ∀ s x, p { s with bus := x } = p s
  net : ∀ s x, p { s with net := x } = p s
  seq : ∀ s x, p { s with seq := x } = p s
  lines : ∀ s x y z, p { s with pins := x, ao := y, fans := z } = p s
  fresh : ∀ s x, p { s with fresh := x } = p s

/-- What each step of a fold leaves alone, the fold leaves alone, where it gathers something beside the state. -/
theorem foldl_keeps_fst {α β γ : Type} (p : State → β) {f : State × γ → α → State × γ} (h : ∀ x a, p (f x a).1 = p x.1)
    (l : List α) (x : State × γ) : p (l.foldl f x).1 = p x.1 := foldl_keeps (fun x : State × γ => p x.1) h l x

/-- NAND is such a part. -/
theorem spared_nand : Spared State.nand := by constructor <;> intros <;> rfl

/-- So are the supplies with the comparator's latch. -/
theorem spared_supply : Spared State.supply := by constructor <;> intros <;> rfl

namespace Spared

section
variable {β : Type} {p : State → β} (hp : Spared p)
include hp

theorem put (s : State) (k v : Nat) : p (s.put k v) = p s := hp.objs s _

/-! ### Messages (R335, R340, R341) -/

theorem setBus (s : State) (n : Fin 4) (b : BusSt) : p (setBus s n b) = p s := hp.bus s _

theorem loadBuf (s : State) (n : Fin 4) (b : Fin 3) (frames : List CanFrame) (who : Origin) (use seq : Nat) :
    p (loadBuf s n b frames who use seq) = p s := (hp.setBus _ n _).trans (hp.put s _ _)

theorem loadRest (s : State) (n : Fin 4) (b : Fin 3) : p (loadRest s n b) = p s := by
  unfold Machine.loadRest
  split
  · rfl
  · exact hp.put s _ _

theorem dropFd (s : State) (n : Fin 4) : p (dropFd s n) = p s := by
  unfold Machine.dropFd
  split
  · rfl
  · exact (hp.setBus _ n _).trans (foldl_keeps p (fun t _ => hp.put t _ _) _ s)

theorem feedBus (s : State) (n : Fin 4) : p (feedBus s n) = p s := by
  have hrest : p (Machine.loadRest (Machine.loadRest (Machine.dropFd s n) n 0) n 1) = p s := by rw [hp.loadRest, hp.loadRest, hp.dropFd]
  unfold Machine.feedBus
  split
  · rfl
  · dsimp only
    generalize Machine.loadRest (Machine.loadRest (Machine.dropFd s n) n 0) n 1 = t at hrest ⊢
    split <;> repeat' split
    all_goals simp only [hp.setBus, hp.loadBuf, hrest]

theorem queueMsg (s : State) (n : Fin 4) (m : WMsg) : p (queueMsg s n m).1 = p s := by
  unfold Machine.queueMsg
  dsimp only
  split
  · exact (hp.feedBus _ n).trans (hp.setBus s n _)
  · rfl

theorem sendAll (s : State) : p (sendAll s) = p s := foldl_keeps p (fun t _ => hp.put t _ _) _ s

theorem sendUdp (s : State) (addr port : Nat) (bytes : List Byte) : p (sendUdp s addr port bytes) = p s := by
  unfold Machine.sendUdp
  split
  · rfl
  · refine (hp.net _ _).trans ((foldl_keeps p (fun t _ => hp.put t _ _) _ _).trans ?_)
    split
    · rfl
    · exact (hp.net _ _).trans (hp.sendAll s)

theorem notifyOne (e : EvRec) (acc : State × List Nat) (u : Nat) : p (notifyOne e acc u).1 = p acc.1 := by
  unfold Machine.notifyOne
  dsimp only
  repeat' split
  all_goals simp only [inc_eq, hp.put, hp.queueMsg, hp.sendUdp]

theorem notifyAll (s : State) (e : EvRec) : p (notifyAll s e).1 = p s := foldl_keeps_fst p (hp.notifyOne e) _ _

/-! ### Routing (R116–R119) -/

theorem stage (s : State) (r : JRec) : p (stage s r) = p s := hp.staging s _
theorem setLost (s : State) (dest src n : Nat) : p (setLost s dest src n) = p s := hp.router s _

theorem routeTo (s : State) (dest time src payload : Nat) : p (routeTo s dest time src payload).1 = p s := by
  unfold Machine.routeTo
  dsimp only
  split
  · split
    · exact (hp.router (Machine.setLost s 0 src 0) _).trans (hp.setLost s 0 src 0)
    · exact hp.setLost s 0 src _
  · split <;> split
    · simp only [hp.notifyAll, hp.setLost]
    · exact hp.setLost s 1 src _
    · exact (hp.stage (Machine.setLost s 2 src 0) _).trans (hp.setLost s 2 src 0)
    · exact hp.setLost s 2 src _

theorem route (s : State) (time src payload : Nat) : p (route s time src payload).1 = p s := by
  have hraised : p (s.inc Ob.routerTotalRaised) = p s := hp.put s _ _
  unfold Machine.route
  dsimp only
  split
  all_goals
    simp only [inc_eq, hp.put]
    refine (foldl_keeps_fst p (fun acc d => ?_) _ _).trans hraised
    exact hp.routeTo acc.1 d time src payload

theorem routeOnce (s : State) : p (routeOnce s).1 = p s := by
  unfold Machine.routeOnce
  refine (foldl_keeps_fst p (fun acc e => ?_) _ _).trans (hp.router s _)
  exact hp.route acc.1 e.time e.source e.payload

/-! ### What an event does to the operating state (R78–R81, R120) -/

theorem noteRaise (s : State) (src payload : Nat) : p (noteRaise s src payload) = p s := hp.router s _

theorem traceTrigger (s : State) (t : Fin 8) : p (traceTrigger s t) = p s :=
  (hp.traces _ _).trans ((hp.put _ _ _).trans (hp.put s _ _))

theorem setOpState (s : State) (code cause : Nat) : p (setOpState s code cause) = p s := by
  simp only [Machine.setOpState, hp.put]

theorem captureHold (s : State) : p (captureHold s) = p s := hp.lines s _ _ _
theorem touchChan (s : State) (n : Nat) : p (touchChan s n) = p s := hp.cache s _

theorem writeChan (s : State) (n value stat ts : Nat) : p (writeChan s n value stat ts) = p s := by
  simp only [Machine.writeChan, hp.badChans, hp.touchChan, hp.put]

theorem setEntry (s : State) (e : Nat) (d : EntryDyn) : p (setEntry s e d) = p s := hp.entries s _

theorem clearActing (s : State) (n : Nat) : p (clearActing s n) = p s := by simp only [Machine.clearActing, putBit_eq, hp.put]

theorem takeContext (s : State) (n : Nat) : p (takeContext s n) = p s := by
  refine (hp.loops _ _).trans ((hp.fresh _ _).trans ?_)
  simp only [hp.put, hp.clearActing]

theorem dropContext (s : State) (n : Nat) : p (dropContext s n) = p s := by
  refine (hp.loops _ _).trans ?_
  simp only [hp.put, hp.clearActing]

theorem journalAction (s : State) (idx sub code : Nat) (old new : List Byte) : p (journalAction s idx sub code old new) = p s := by
  unfold Machine.journalAction
  split
  · exact hp.stage s _
  · exact hp.staging s _

theorem seqStep (s : State) (k v : Nat) : p (seqStep s k v) = p s := by
  unfold Machine.seqStep
  split
  · rfl
  · exact (hp.journalAction _ _ _ _ _ _).trans (hp.put s k v)

theorem noteTrip (s : State) (ev : Option Nat) : p (noteTrip s ev) = p s := by
  unfold Machine.noteTrip
  repeat' split
  all_goals simp only [hp.put]

theorem leavePreop (s : State) : p (leavePreop s) = p s := by
  unfold Machine.leavePreop
  split
  · exact foldl_keeps p (fun t o => by simp only [putBit_eq, hp.put]) _ s
  · rfl

theorem repin (s : State) : p (repin s) = p s := by
  unfold Machine.repin
  dsimp only
  split
  · rfl
  · exact (foldl_keeps p hp.touchChan _ _).trans (hp.pinned s _)

theorem chansFromFrame (s : State) (fr : Frame) : p (chansFromFrame s fr) = p s :=
  foldl_keeps p (fun t n => by dsimp only; split <;> simp only [hp.writeChan]) _ s

theorem seqStandDown (s : State) : p (seqStandDown s) = p s := by
  have steps (l : List Nat) (key : Nat → Nat) (t : State) : p (l.foldl (fun t n => Machine.seqStep t (key n) 0) t) = p t :=
    foldl_keeps p (fun t n => hp.seqStep t (key n) 0) l t
  have puts (l : List Nat) (key : Nat → Nat) (t : State) : p (l.foldl (fun t n => t.put (key n) 0) t) = p t :=
    foldl_keeps p (fun t n => hp.put t (key n) 0) l t
  refine (hp.seq _ _).trans ?_
  rw [puts _ Ob.aerStatus, puts _ Ob.dryerStatus, steps _ Ob.aerState, steps _ Ob.dryerStep, steps _ Ob.chainState,
    puts _ Ob.convFaultCause, steps _ Ob.convState]

section
variable {rz : State → Nat → Nat → State} (hrz : ∀ s src payload, p (rz s src payload) = p s)
include hrz

theorem changeContext (s : State) (n : Nat) (takes : Bool) : p (changeContext rz s n takes) = p s := by
  unfold Machine.changeContext
  dsimp only
  split <;> split <;> simp only [hrz, hp.repin, hp.takeContext, hp.dropContext]

theorem abandonSamples (s : State) : p (abandonSamples rz s) = p s := by
  refine (foldl_keeps p (fun t (l : LoopSt) => ?_) _ _).trans (hp.samples s _ _ _)
  dsimp only
  split
  · rw [hrz, hp.changeContext hrz]
  · exact hp.changeContext hrz _ _ _

theorem burstsStopped (s : State) : p (burstsStopped rz s) = p s :=
  foldl_keeps p (fun t e => (hrz _ 239 e).trans (hp.setEntry t e _)) _ s

theorem endTestBy (cause : Nat) (s : State) (d : Fin 32) : p (endTestBy rz cause s d) = p s := by
  simp only [Machine.endTestBy, hrz, hp.put]

theorem leaveOperate (s : State) : p (leaveOperate rz s) = p s := by
  refine (hp.seqStandDown _).trans ((foldl_keeps p (hp.endTestBy hrz 3) _ _).trans ?_)
  rw [hp.abandonSamples hrz, hp.burstsStopped hrz]

theorem enterSafeBy (s : State) (cause bit_ : Nat) (trip : Option Nat) : p (enterSafeBy rz s cause bit_ trip) = p s := by
  unfold Machine.enterSafeBy
  dsimp only
  split <;> simp only [hp.chansFromFrame, hp.leaveOperate hrz, hp.noteTrip, putBit_eq, hp.put, hp.setOpState, hp.captureHold, hp.leavePreop]

theorem tripBy (s : State) (cause bit_ : Nat) (ev : Option Nat) : p (tripBy rz s cause bit_ ev) = p s := by
  have htrip (t : State) : p (if t.inOperate then Machine.enterSafeBy rz t cause bit_ ev
      else if t.inSafe then Machine.noteTrip (t.putBit Ob.opSafeCause bit_ true) ev else t) = p t := by
    repeat' split
    all_goals simp only [hp.enterSafeBy hrz, hp.noteTrip, putBit_eq, hp.put]
  refine (htrip _).trans ?_
  split
  · exact hp.check s _
  · rfl
end

/-- Whatever an event sets off leaves alone what it spares. -/
theorem raiseDeep (fuel : Nat) (s : State) (src payload : Nat) : p (raiseDeep fuel s src payload) = p s := by
  induction fuel generalizing s src payload with
  | zero => exact hp.noteRaise s src payload
  | succ fuel ih =>
    have hslots := (foldl_keeps p (f := fun t (i : Fin 8) =>
      if awaitsTrigger t src i then Machine.raiseDeep fuel (Machine.traceTrigger t i) 14 (t.ob (Ob.traceLoop i) % 512 + i.val * 2 ^ 16) else t)
      (fun t i => by split <;> simp only [ih, hp.traceTrigger]) (List.finRange 8) (Machine.noteRaise s src payload)).trans
      (hp.noteRaise s src payload)
    unfold Machine.raiseDeep
    dsimp only
    split
    · rw [hp.tripBy ih]; exact hslots
    · exact hslots

theorem raise (s : State) (src payload : Nat) : p (raise s src payload) = p s := hp.raiseDeep 16 s src payload

theorem routeRaised (fuel : Nat) (s : State) : p (routeRaised fuel s) = p s := by
  induction fuel generalizing s with
  | zero => exact (hp.router _ _).trans (hp.routeOnce s)
  | succ fuel ih =>
    unfold Machine.routeRaised
    split
    · rfl
    · dsimp only
      rw [ih, foldl_keeps p (fun t u => hp.raise t 198 u)]
      exact hp.routeOnce s

/-- The events of an instant leave for their destinations, and with them nothing that they spare. -/
theorem flush (s : State) : p (flush s) = p s := hp.routeRaised 4 s
end

end Spared

end Sys2Proof.Machine
end

section
/-! PROOF. The comparator's trip (R415, R416, R513): it halts the module with its outputs off until both supplies fall (O45),
and nothing else ends the halt (O46). -/
namespace Sys2Proof.Machine

/-! ### What the trip leaves -/

/-- What is written of a commit that ends asks for no reset. -/
theorem commitEnds_resetDue (s : State) (c : Commit) (complete : Bool) : (commitEnds s c complete).sec.resetDue = s.sec.resetDue := by
  unfold commitEnds
  dsimp only
  split <;> rfl

/-- A commit that fails asks for none. -/
theorem commitFails_resetDue (s : State) (c : Commit) (complete : Bool) (cause : Nat) :
    (commitFails s c complete cause).sec.resetDue = s.sec.resetDue := by
  have hstands : standing (commitFails s c complete cause) = standing (commitEnds s c complete) := by
    simp only [commitFails, configAction, standing_raise, standing_journalAction, State.puts]
    exact foldl_standing (fun t (p : Nat × Nat) => standing_put t p.1 p.2) _ _
  obtain ⟨-, hsec, -, -⟩ := standing_eq_iff.mp hstands
  rw [hsec, commitEnds_resetDue]

theorem abandonCommit_resetDue (s : State) (cause : Nat) : (abandonCommit s cause).sec.resetDue = s.sec.resetDue := by
  unfold abandonCommit
  split
  · rfl
  · exact commitFails_resetDue _ _ _ _

/-- The warning of a failing supply asks for none. -/
theorem warnCommit_resetDue (s : State) : (warnCommit s).sec.resetDue = s.sec.resetDue := by
  unfold warnCommit
  split
  · rfl
  · exact abandonCommit_resetDue s 2

/-- What the trip writes to NAND before the module halts: by the phase, everything that a power failure writes, or what BOOT has formed. -/
def tripWrites (s : State) : State :=
  match s.phase with
  | .run => powerFailWrite (ckptWhole (warnCommit s))
  | .boot k => saveCounters (if 6 ≤ k then flushJournal s else s)
  | _ => s

/-- Nothing of it asks for a reset. -/
theorem tripWrites_resetDue (s : State) : (tripWrites s).sec.resetDue = s.sec.resetDue := by
  unfold tripWrites
  split
  · have hstands : standing (powerFailWrite (ckptWhole (warnCommit s))) = standing (warnCommit s) := by simp [powerFailWrite]
    obtain ⟨-, hsec, -, -⟩ := standing_eq_iff.mp hstands
    rw [hsec, warnCommit_resetDue]
  · next k _ =>
    have hstands : standing (saveCounters (if 6 ≤ k then flushJournal s else s)) = standing s := by split <;> simp
    obtain ⟨-, hsec, -, -⟩ := standing_eq_iff.mp hstands
    rw [hsec]
  · rfl

/-- The trip of a powered module halts it with the latch set. -/
theorem thermalShutdown_powered {s : State} (hp : powered s = true) (ht : comparatorTrips s = true) :
    thermalShutdown s = { tripWrites s with phase := .halt, supply := { (tripWrites s).supply with latch := true } } := by
  have htrips : ¬ (!(powered s && comparatorTrips s)) = true := by rw [hp, ht]; decide
  rw [thermalShutdown, if_neg htrips]
  rfl

/-! ### HALT -/

/-- A halted state that asks for no reset stays halted over the end of a command, and keeps its latch: the events that are left to route
touch neither. -/
theorem after_halt {s t : State} (hp : t.phase = .halt) (hdue : t.sec.resetDue = none) :
    (after s t).phase = .halt ∧ (after s t).supply = t.supply := by
  obtain ⟨hphase, hsec, -, -⟩ := standing_eq_iff.mp (standing_flush t)
  have hnone : resetIfDue (flush t) = flush t := resetIfDue_none (hsec ▸ hdue)
  have hafter : after s t = { settle (flush t) with pending := s.pending } := by rw [after, hnone]
  rw [hafter]
  exact ⟨(settle_phase _).trans (hphase.trans hp), (settle_supply _).trans (spared_supply.flush t)⟩

/-- In HALT every output line of a safe state is off. -/
theorem outputsAtRest_of_halt {s : State} (hs : Safe s) (hp : s.phase = .halt) : OutputsAtRest s := by
  obtain ⟨hrest, -, -⟩ := hs
  exact hrest (by simp [hp]) (by simp [linesStand, hp])

/-- Settles O45: the trip halts the module whatever is still to be reported, and the end of the halt leaves it unpowered with every line
off. -/
theorem shutdownHaltsTheModule : Obligations.ShutdownHaltsTheModule := by
  intro s hs hp hj
  obtain ⟨-, hdue, -⟩ := hs
  have htrips : comparatorTrips s = true := (comparatorTrips_iff s).mpr hj
  have htrip := thermalShutdown_powered hp htrips
  obtain ⟨hhalt, hlatch⟩ := after_halt (s := s) (t := thermalShutdown s) (by rw [htrip])
    (by rw [htrip]; exact (tripWrites_resetDue s).trans hdue)
  generalize hu : after s (thermalShutdown s) = t at hhalt hlatch
  have hsafe : Safe t := hu ▸ after_safe s (thermalShutdown s)
  obtain ⟨-, hdue', hraised'⟩ := id hsafe
  have hclear := haltClear_halt hhalt
  have hquiet : after t (haltClear t) = { settle (haltClear t) with pending := t.pending } :=
    after_quiet (by rw [hclear]; exact hraised') (by rw [hclear]; exact hdue')
  refine ⟨t, after t (haltClear t), hu ▸ finish_eq s _, hhalt, ?latch, outputsAtRest_of_halt hsafe hhalt, hu ▸ after_pending s _,
    finish_eq t _, ?off, ?cleared, ?rest⟩
  case latch => rw [hlatch, htrip]
  all_goals rw [hquiet]
  case off => exact (settle_phase _).trans (by rw [hclear])
  case cleared => exact (congrArg SupplySt.latch (settle_supply (haltClear t))).trans (by rw [hclear])
  case rest => exact settle_rest (s := haltClear t) (by simp [hclear]) (by simp [hclear, linesStand])

/-! ### The grain clocks up to an instant (R83, R90) -/

@[simp] theorem standing_setGc (s : State) (k : Fin 8) (g : GcSt) : standing (setGc s k g) = standing s := rfl
@[simp] theorem standing_guaranteeLapse (s : State) : standing (guaranteeLapse s) = standing s := rfl

@[simp] theorem standing_gcCount (s : State) (k : Fin 8) (fwd : Bool) (at_ : Nat) : standing (gcCount s k fwd at_) = standing s := rfl

@[simp] theorem standing_gcAccept (s : State) (k : Fin 8) (n at_ : Nat) : standing (gcAccept s k n at_) = standing s := by
  unfold gcAccept
  dsimp only
  split <;> simp

@[simp] theorem standing_gcIllegal (s : State) (k : Fin 8) (at_ : Nat) : standing (gcIllegal s k at_) = standing s := by
  simp [gcIllegal]

@[simp] theorem standing_gcJudge (s : State) (k : Fin 8) (c : GcChange) : standing (gcJudge s k c) = standing s := by
  unfold gcJudge
  dsimp only
  repeat' split
  all_goals simp

theorem standing_gcTake (s : State) (x : Fin 8 × GcChange) : standing (gcTake s x) = standing s := by
  have hclock (t u : State) : standing { t with osc := u.osc, wc := u.wc } = standing t := rfl
  exact (hclock _ _).trans (standing_gcJudge _ _ _)

/-- What a command finds at its instant stands as it stood at the boundary. -/
theorem standing_reach (s : State) (off : Nat) : standing (reach s off) = standing s :=
  foldl_standing standing_gcTake _ _

/-! ### What happens in HALT -/

section
variable {s : State} (hp : s.phase = .halt)
include hp

theorem not_powered_of_halt : powered s = false := by simp [powered, hp]

theorem reach_inOperate_of_halt (off : Nat) : (reach s off).inOperate = false := by
  obtain ⟨hphase, -, -, -⟩ := standing_eq_iff.mp (standing_reach s off)
  simp [State.inOperate, hphase, hp]

theorem samplePull_of_halt (e : Fin 18) (off : Fin 10) : samplePull s e off = s := by
  simp [samplePull, reach_inOperate_of_halt hp]

theorem sampleCommit_of_halt (n : Fin 512) (serviceNs missNs : Nat) (off : Fin 10) : sampleCommit s n serviceNs missNs off = s := by
  simp only [sampleCommit, reach_inOperate_of_halt hp]
  split <;> rfl

theorem dielectricReading_of_halt (c : Fin 4) (sweep : List SweepPoint) (front : SlotFaults) (engine : Bool) :
    dielectricReading s c sweep front engine = s := by
  simp only [dielectricReading, hp, reduceCtorEq, false_and, if_false]
  split <;> rfl

theorem xferTimeout_of_halt (a : Asker) : xferTimeout s a = s := by
  simp only [xferTimeout, serverUp, hp]
  split <;> rfl

theorem tickNow_of_halt (downOk : Bool) (meas : List Measure) : tickNow s downOk meas = s := by
  simp [tickNow, not_powered_of_halt hp, hp]

theorem onFrame_of_halt (n : Fin 4) (eff : State → Fin 3 → State) : onFrame s n eff = finish s s := by
  simp only [onFrame, occurs, running, hp]
  split <;> rfl

/-- An overvoltage is timed, and nothing else is done. -/
theorem overVolt_of_halt (k : Fin 2) (volts : Nat) : overVolt s k volts = notePulse s k volts :=
  if_pos (by rw [not_powered_of_halt (s := notePulse s k volts) hp]; rfl)

end

/-- A module in HALT. -/
def halted (s : State) : State := { s with phase := .halt }

theorem halted_self {s : State} (hp : s.phase = .halt) : halted s = s := by rw [halted, ← hp]

/-- In HALT no command but HALT_CLEAR, and the time of an overvoltage, has an effect. -/
theorem exec_halted {c : Instr} {s : State} (hs : Safe (halted s)) (hc : c ≠ .haltClear) (hv : ∀ k v, c ≠ .overvolt k v)
    (hb : beyondRating (halted s) c = false) : exec c (halted s) = .next (halted s) := by
  have hp : (halted s).phase = .halt := rfl
  have unserved := nothingServedOutsideRun c (halted s) hs (by simp [hp])
  have idle {u : State} (h : exec c (halted s) = finish (halted s) u) (hu : u = halted s) : exec c (halted s) = .next (halted s) :=
    (hu ▸ h).trans (congrArg _ (after_self hs))
  cases hw : writeOf (halted s) c with
  | some w => exact unserved (.inl (by rw [hw]; rfl))
  | none =>
    cases c with
    | haltClear => exact absurd rfl hc
    | overvolt k v => exact absurd rfl (hv k v)
    | objectWrite | enterOperate | configRevert | updateVerify => exact unserved (by simp)
    | udpDatagram => exact unserved (by simp [recoveryRuns, hp])
    | tickBoundary downOk meas => exact idle (if_neg (Bool.eq_false_iff.mp hb)) (tickNow_of_halt hp downOk meas)
    | conversionWindow | cfgEnSample => exact idle (if_neg (Bool.eq_false_iff.mp hb)) rfl
    | entryEnableWrite x e w => cases w <;> cases hw
    | segmentTimeout q => exact idle rfl (xferTimeout_of_halt hp _)
    | dielectricReading c sweep front engine => exact idle rfl (dielectricReading_of_halt hp c sweep front engine)
    | samplePull e off => exact idle rfl (samplePull_of_halt hp e off)
    | sampleCommit n serviceNs missNs off => exact idle rfl (sampleCommit_of_halt hp n serviceNs missNs off)
    | frameSent n | arbitrationLost n => exact idle (onFrame_of_halt hp n _) rfl
    | pointTimeout => exact idle rfl (if_pos (by simp [hp]))
    | journalChain | journalPageWrite => exact idle rfl (if_neg (by simp [chains, kind5Formed, hp]))
    | recoveryImageStart | recoveryImageData | recoveryImageEnd => exact idle rfl (if_neg (by simp [recoveryRuns, hp]))
    | eraseBlank => exact idle rfl (if_neg (by simp [hp]))
    | _ => exact idle (by cases hw <;> rfl) rfl

/-- The time of an overvoltage is noted in the supplies' account, where the latch stands. -/
theorem overvolt_halted {k : Fin 2} {v : Word} {s : State} (hb : beyondRating (halted s) (.overvolt k v) = false) :
    exec (.overvolt k v) (halted s) = finish (halted s) (notePulse (halted s) k v.toNat) :=
  (if_neg (Bool.eq_false_iff.mp hb)).trans (congrArg _ (overVolt_of_halt (s := halted s) rfl k v.toNat))

/-- Settles O46: of the commands that answer a next state one changes anything, and that one touches neither the phase nor the latch. -/
theorem onlyHaltClearEndsHalt : Obligations.OnlyHaltClearEndsHalt := by
  intro c s t hs hp hc ht
  rw [← halted_self hp] at hs ht ⊢
  have hb : beyondRating (halted s) c = false := Bool.eq_false_iff.mpr fun hb => by
    rw [exec_stops hb] at ht
    nomatch ht
  by_cases hv : ∃ k v, c = .overvolt k v
  · obtain ⟨k, v, rfl⟩ := hv
    obtain ⟨-, hdue, -⟩ := hs
    obtain rfl := Host.Outcome.next.inj ((overvolt_halted hb).symm.trans ht)
    obtain ⟨hphase, hsupply⟩ := after_halt (s := halted s) (t := notePulse (halted s) k v.toNat) rfl hdue
    exact ⟨hphase, (congrArg SupplySt.latch hsupply).trans rfl⟩
  · obtain rfl := Host.Outcome.next.inj ((exec_halted hs hc (fun k v h => hv ⟨k, v, h⟩) hb).symm.trans ht)
    exact ⟨rfl, rfl⟩

end Sys2Proof.Machine
end

section
/-! PROOF. The configuration store, the journal, images and the secure erase (R451–R475): what their writes and events leave (O56). -/
namespace Sys2Proof.Machine

/-! ### The configuration store and the journal (R451, R453, R456, R457, R460, R462, R514) -/

/-- Where something follows a write, what follows the applied one is what the write leaves. -/
theorem heard_afterWrite {s t : State} {x : Sender} {k : Nat} {ty : Ty} {data : List Byte} {codes : List Nat} {eff : State → State}
    (ha : Applies s x k ty data codes eff)
    (ht : (afterWrite (writeReq x k ty data) (recorded s x k ty data (eff s), .done)).1 = t) :
    (heard s x (afterWrite (writeReq x k ty data)
      (submit s (writeReq x k ty data) (oldBytes s (k / 256) (k % 256)) codes eff))).1 = t := by
  obtain ⟨⟨hreach, hrun, hq, hplace⟩, hcodes⟩ := ha
  have hdone := submit_applied (w := writeReq x k ty data) (old := oldBytes s (k / 256) (k % 256)) hrun hq hplace (pickAbort_none.mpr hcodes)
  rw [heard, if_pos hreach, hdone]
  exact ht

/-- A sample is low at or below 1.0 V, and below 2.5 V where low samples came before it. -/
theorem keyLow_iff (v : FX) (n : Nat) :
    (FX.le v FX.one || (FX.lt v (FX.ratio 5 2) && decide (0 < n))) = true ↔
      FX.le v FX.one = true ∨ FX.lt v (FX.ratio 5 2) = true ∧ 0 < n := by
  simp only [Bool.or_eq_true, Bool.and_eq_true, decide_eq_true_eq]

/-- The byte of the second command. -/
theorem bytesLE_two : bytesLE 1 2 = [(2 : Byte)] := rfl

/-- A revert that is done is journaled behind its record. -/
theorem afterWrite_revert (x : Sender) {data : List Byte} (hd : ofBytesLE data = 2) (t : State) :
    (afterWrite (writeReq x Ob.configConfigCommand .u8 data) (t, .done)).1 = configAction t 3 (t.ob Ob.configActiveSequence) := by
  have hupdate : ¬ Ob.configConfigCommand / 256 = 0xA010 := by decide
  exact congrArg Prod.fst ((if_neg fun ⟨hindex, _⟩ => hupdate hindex).trans (if_pos ⟨rfl, rfl, hd, rfl⟩))

/-- The second ConfigCommand reverts. -/
theorem configEff_revert (o : Origin) : configEff o 2 = revertEff o := funext fun _ => if_neg (by decide)

/-- A revert that is applied leaves its effect, its record and what is journaled behind it. -/
theorem configRevert_leaves {x : Sender} {s : State}
    (ha : Applies s x Ob.configConfigCommand .u8 [2] (configCodes s 2) (revertEff (originOf x))) :
    Leaves (.configRevert x) s
      (let t := recorded s x Ob.configConfigCommand .u8 [2] (revertEff (originOf x) s)
       configAction t 3 (t.ob Ob.configActiveSequence)) := by
  rw [← configEff_revert, ← bytesLE_two] at ha
  rw [← configEff_revert, ← bytesLE_two]
  have hfollows := afterWrite_revert x (data := bytesLE 1 2) rfl
    (recorded s x Ob.configConfigCommand .u8 (bytesLE 1 2) (configEff (originOf x) 2 s))
  exact leaves_of_finish rfl (heard_afterWrite ha hfollows)

/-- A commit that ends while the management cores work switches the copies, or fails where NAND did. -/
theorem commitDone_eq {s : State} {c : Commit} (hc : s.sec.commit = some c) (hm : s.mgmtDown = false) (nandOk : Bool) :
    commitDone s nandOk = if nandOk then commitSwitch s c else commitFails s c false 1 := by
  simp only [commitDone, hc, hm, Bool.false_eq_true, if_false]

/-- A sample of CFG_EN# within the ratings that is due is counted. -/
theorem cfgEnSample_leaves {s : State} {volts : Word} (hr : railsUp s = true) (hd : s.due .keySample 1000 = true)
    (hrated : keyBeyond volts.toNat = false) : Leaves (.cfgEnSample volts) s (sampleKey (s.ran .keySample 1000) volts.toNat) :=
  (if_neg (Bool.eq_false_iff.mp hrated)).trans
    (occurs_true (fun s => sampleKey (s.ran .keySample 1000) volts.toNat) (by rw [hr, hd]; rfl))

theorem configurationCommandsComplete : Parts.ConfigurationCommandsComplete := by
  refine ⟨?commit, ?ended, ?revert, ?enable, ?sample, fun s h => occurs_true chainNext h, fun s h => occurs_true pageWrite h⟩
  case commit => exact fun x s => writes_of_writeOf rfl
  case ended =>
    intro s c hp hc hm
    have hdone := commitDone_eq hc hm
    exact ⟨leaves_of_finish rfl ((if_pos (running_of_phase hp)).trans ((hdone true).trans (if_pos rfl))),
      leaves_of_finish rfl ((if_pos (running_of_phase hp)).trans ((hdone false).trans (if_neg Bool.false_ne_true)))⟩
  case revert => exact fun x s ha => configRevert_leaves ha
  case enable => exact fun x p v s => writes_of_writeOf (congrArg some (byteWrite_toNat _ _ _ _ _))
  case sample =>
    intro volts s hr hd hrated
    have hleaves := cfgEnSample_leaves hr hd hrated
    simp only [sampleKey, keyLow_iff] at hleaves
    exact hleaves

/-! ### Updates and the recovery image (R472, R473) -/

/-- Nothing follows a Verify that is done. -/
theorem afterWrite_verify (x : Sender) (data : List Byte) (t : State) :
    afterWrite (writeReq x Ob.updateUpdateCommand .u8 data) (t, .done) = (t, .done) := by
  have hconfig : ¬ Ob.updateUpdateCommand / 256 = 0x9000 := by decide
  exact (if_neg fun ⟨_, _, _, haborted⟩ => nomatch haborted).trans (if_neg fun ⟨hindex, _⟩ => hconfig hindex)

/-- A Verify that is applied leaves its effect and its record. -/
theorem updateVerify_leaves {x : Sender} {s : State} (ha : Applies s x Ob.updateUpdateCommand .u8 [2] (updateCodes s 2) updateVerify) :
    Leaves (.updateVerify x) s (recorded s x Ob.updateUpdateCommand .u8 [2] (updateVerify s)) := by
  rw [← bytesLE_two] at ha ⊢
  have hfollows := congrArg Prod.fst
    (afterWrite_verify x (bytesLE 1 2) (recorded s x Ob.updateUpdateCommand .u8 (bytesLE 1 2) (updateVerify s)))
  exact leaves_of_finish rfl (heard_afterWrite ha hfollows)

/-- The next piece of the image, in its place and within the slot, joins what is there. -/
theorem recoveryData_joins {s : State} {off addr port : Nat} {d : List Byte} {chunks : List (Nat × List Byte)} (hd : d.length ≤ 1024)
    (hnext : s.boot.recovNext = some off) (hfits : off + d.length ≤ slotBytes) (himage : s.nand.imageA = .flash chunks) :
    recoveryData s off d addr port =
      (let t := putImage s false (.flash ((off, d) :: chunks))
       recoveryReply { t with boot := { t.boot with recovNext := some (off + d.length) } } 2 0 addr port) := by
  simp only [recoveryData, List.take_of_length_le hd, if_neg (not_not_intro hnext), if_neg (Nat.not_lt.mpr hfits), himage]

section
variable {s : State} {addr port : Nat} {d : Datagram} (hr : recoveryRuns s = true) (hsound : d.sound = true)
  (haddr : d.toAddr.toNat = recoveryAddress) (hport : d.toPort.toNat = recoveryPort) (hnet : addr / 256 = recoveryAddress / 256)
  (hlen : d.bytes.length = 12 + leAt d.bytes 8 2) (hmost : leAt d.bytes 8 2 ≤ 1024)
include hr hsound haddr hport hnet hlen hmost

/-- The boot ROM reads a sound datagram to its address and port on ETH0 by its first byte. -/
theorem udpDatagram_recovery :
    udpDatagram s 0 addr port d =
      match leAt d.bytes 0 1 with
      | 1 => recoveryStart s addr port
      | 2 => recoveryData s (leAt d.bytes 4 4) (d.bytes.drop 12) addr port
      | 3 => recoveryEnd s addr port
      | _ => s := by
  have hheard : ¬ ((0 : Fin 2) ≠ 0 ∨ d.sound = false ∨ d.toAddr.toNat ≠ recoveryAddress ∨ d.toPort.toNat ≠ recoveryPort ∨
      addr / 256 ≠ recoveryAddress / 256 ∨ d.bytes.length ≠ 12 + leAt d.bytes 8 2 ∨ 1024 < leAt d.bytes 8 2) := by
    simp [hsound, haddr, hport, hnet, hlen, hmost]
  rw [udpDatagram, if_pos hr]
  exact if_neg hheard
end

theorem updateCommandsComplete : Parts.UpdateCommandsComplete := by
  refine ⟨?begin_, ?block, ?verify, ?activate, ?abandon, ?start, ?data, ?end_, ?datagram⟩
  case begin_ | block | activate | abandon => intros; exact writes_of_writeOf rfl
  case verify => exact fun x s ha => updateVerify_leaves ha
  case start => exact fun a p s hr => occurs_true (fun s => recoveryStart s a.toNat p.toNat) hr
  case data =>
    exact fun a p off d s chunks hr hd hnext hfits himage => leaves_of_finish rfl ((if_pos hr).trans (recoveryData_joins hd hnext hfits himage))
  case end_ => exact fun a p s hr himage => leaves_of_finish rfl ((if_pos hr).trans (if_pos himage))
  case datagram =>
    intro a p d s hr hsound haddr hport hnet hlen hmost
    have hread := udpDatagram_recovery (port := p.toNat) hr hsound haddr hport hnet hlen hmost
    refine ⟨fun h => ?_, fun h => ?_, fun h => ?_⟩
    all_goals exact leaves_of_finish rfl (hread.trans (by simp only [h]))

/-! ### The secure erase (R475) -/

/-- The erase moves on to the next key with empty areas, and the areas of the old key are what has still to be erased. -/
theorem eraseEff_nand (s : State) :
    (eraseEff s).nand =
      ({ s.nand with mediaKey := s.nand.mediaKey + 1, eraseCount := s.nand.eraseCount + 1, anchor := List.replicate 32 0,
                     old := some s.nand.store } : Nand).keep noAreas := by
  have hlapse (t : State) : (guaranteeLapse t).nand = t.nand := rfl
  have hraise := (hlapse (raise s 221 0)).trans (spared_nand.raise s 221 0)
  rw [← hraise]
  rfl

theorem eraseCommandsComplete : Parts.EraseCommandsComplete := by
  refine ⟨fun x v s => writes_of_writeOf rfl, 
    fun x v s => writes_of_writeOf (congrArg some (byteWrite_toNat x Ob.eraseEraseCommand v (eraseCodes s) eraseEff)), fun s => ?_,
    fun s hp hold => leaves_of_finish rfl (if_pos (by simp [hold, hp]))⟩
  rw [eraseEff_nand]
  exact ⟨areas_keep _ _, rfl, rfl, rfl⟩

/-- Settles O56: the writes are the store's, with what follows two of them, and the events leave their effects where they occur. -/
theorem storeCommandsComplete : Obligations.StoreCommandsComplete :=
  ⟨configurationCommandsComplete, updateCommandsComplete, eraseCommandsComplete⟩

end Sys2Proof.Machine
end
